-- ==== Sys2Proof/Word.lean ====
section
/-! DEFINITION. The word types of the part: the byte of both links and of the commissioning memory, and the 16-bit and
32-bit words the manual wraps. Quantities with a unit are whole numbers (Int and Nat), as 00_scope.md says. -/

namespace Sys2Proof

/-- One byte of a record, a frame or the commissioning memory. -/
abbrev Byte := BitVec 8

/-- A CRC-16 register (R210). -/
abbrev Word16 := BitVec 16

/-- A 32-bit word that wraps: the encoder count, the run cycle count and the trace clock. -/
abbrev Word32 := BitVec 32

/-- A station number, 0 to 7. -/
abbrev Station := Fin 8

/-- A station mask: station n is the bit of weight 2 to the power n (R211). -/
abbrev Mask := BitVec 8

end Sys2Proof
end

