-- ==== Sys2Proof/Syntax.lean ====
section
/-! DEFINITION. The commands of spec/opcode_table.json, one constructor of `Instr` a row, with their operands. A request row
carries the tag and the body fields of its record (R202, 11.8, 12.2); codes stay raw numbers, so that a code outside its
set reaches the rule that owns the request (R211). -/

namespace Sys2Proof

/-- Lane A or lane B of the drive link. -/
inductive Lane where
  | a
  | b
deriving DecidableEq, Repr

/-- The levels of RATE_A and RATE_B, read at every full reset (R196). True is high. -/
structure Straps where
  rateA : Bool
  rateB : Bool
deriving DecidableEq, Repr

/-- How far a store had come when a reset cut it short (R190). It says nothing while no store is in progress. -/
inductive StoreCut where
  /-- during steps 1 and 2 or the writing of step 3, after this many byte writes -/
  | writing (done : Nat)
  /-- during the read-back of step 3 -/
  | readBack
deriving DecidableEq, Repr

/-- How the writing and read-back of a store ended (R190). -/
inductive StoreResult where
  /-- every write confirmed and the read-back matched -/
  | stored
  /-- a write not confirmed or the read-back different; `left` is what the image's bytes then hold, from address 0 -/
  | failed (left : List Byte)
deriving DecidableEq, Repr

/-- What one lane's receiver saw during a slot's window (R6). -/
inductive Reception where
  /-- nothing at all arrived inside the window -/
  | nothing
  /-- some frame of the window began before it opened or was still arriving when it closed -/
  | late
  /-- the bytes that arrived, all inside the window -/
  | bytes (b : List Byte)
deriving DecidableEq, Repr

/-- A record of the cell link after its start byte: its length field is the length of its body (R197). -/
structure Record where
  kind : Byte
  tag  : Byte
  body : List Byte
  crc  : Word16
deriving DecidableEq, Repr

/-- The cell block, fields in the units of R183. -/
structure CellBlock where
  period        : Nat
  mask          : Mask
  vmax          : Nat
  stopDecel     : Nat
  massMin       : Nat
  massMax       : Nat
  windupLimit   : Nat
  windupTime    : Nat
  linkLostLimit : Nat
  settleCount   : Nat
deriving DecidableEq, Repr

/-- A station block as a record or the image carries it, codes not yet checked (R183, R46, 12.4). -/
structure RawStation where
  axle      : Nat
  side      : Nat
  cpr       : Nat
  circ      : Nat
  lanes     : Nat
  direction : Nat
deriving DecidableEq, Repr

/-- One point of a segment (5.1). -/
structure Point where
  duration : Nat
  speed    : Nat
deriving DecidableEq, Repr

/-- One segment of a drive profile (5.1). -/
structure Segment where
  tag       : Nat
  last      : Bool
  holdAtEnd : Bool
  phase     : Option Nat
  grade     : Int
  points    : List Point
deriving DecidableEq, Repr

/-- A trigger kind with its values, as ADD_EVENT and MODIFY_EVENT carry it (R156, 12.2). -/
inductive TriggerArg where
  | cycle (value mask : Nat)
  | distance (start period : Nat)
  | traceTime (time : Nat)
  /-- a trigger kind outside its set -/
  | other (code : Nat)
deriving DecidableEq, Repr

/-- The selector of CLEAR_EVENTS (R158, 12.2). -/
inductive ClearArg where
  | tag (runTag : Nat)
  | all
  /-- a selector outside its set -/
  | other (code : Nat)
deriving DecidableEq, Repr

/-- The fields of SET_COUNTER (R168, 12.2). -/
structure CounterArg where
  number  : Nat
  enable  : Nat
  station : Nat
  lane    : Nat
  slot    : Nat
  lock    : Nat
  acc     : Nat
deriving DecidableEq, Repr

/-- Why a station's observation was not accepted (R55). -/
inductive MissCause where
  | silent
  | disagree
  | jump
deriving DecidableEq, Repr

/-- The commands: the rows of spec/opcode_table.json, in the table's order. -/
inductive Instr where
  | powerUp (straps : Straps) (cut : StoreCut)
  | resetLineLow (cut : StoreCut)
  | resetLineHigh (straps : Straps)
  | estopAsserted
  | estopReleased
  | loadCompletion (answers : Bool)
  | storeCompletion (result : StoreResult)
  | fullReset (straps : Straps)
  | cycleStart
  | slotEnd (station : Station) (a b : Reception)
  | cycleClose
  | cycleComputationCompletion
  | markerPulseEnd
  | recordReceived (record : Record)
  | receptionTimeout
  | lineFramingError
  | transmitComplete
  | badKind (kind tag : Byte)
  | getStatus (tag : Byte)
  | getStation (tag : Byte) (station : Nat)
  | commissionCell (tag : Byte) (cell : CellBlock)
  | commissionStationWrite (tag : Byte) (station : Nat) (block : RawStation)
  | commissionStationClear (tag : Byte) (station : Nat)
  | storeCommissioning (tag : Byte)
  | leaveConfig (tag : Byte)
  | setParam (tag : Byte) (ident : Nat) (value : Int)
  | getParam (tag : Byte) (ident : Nat)
  | setRoadLoad (tag : Byte) (a b c mass : Nat)
  | appendSegment (tag : Byte) (segment : Segment)
  | discardSegments (tag : Byte)
  | startRun (tag : Byte) (mode runTag : Nat) (engage : Mask) (count : Nat)
  | stopRun (tag : Byte)
  | releaseHoldContinue (tag : Byte)
  | releaseHoldRepeat (tag : Byte)
  | releaseHoldFinish (tag : Byte)
  | engage (tag : Byte) (stations : Mask)
  | release (tag : Byte) (stations : Mask)
  | recapture (tag : Byte) (stations : Mask)
  | addEvent (tag : Byte) (trigger : TriggerArg) (actions runTag persistent : Nat)
  | modifyEvent (tag : Byte) (entry : Nat) (trigger : TriggerArg)
  | removeEvent (tag : Byte) (entry : Nat)
  | clearEvents (tag : Byte) (selector : ClearArg)
  | setCounter (tag : Byte) (config : CounterArg)
  | setWatch (tag : Byte) (number station : Nat)
  | readCounters (tag : Byte)
  | setTrace (tag : Byte) (stations : Mask) (decimation policy enable : Nat)
  | readTrace (tag : Byte) (maximum : Nat)
  | readFaults (tag : Byte)
  | clearFault (tag : Byte)
  | service (tag : Byte) (station operation index : Nat) (value : Int)
  | resetFull (tag : Byte) (manner stay : Nat)
  | resetRunImmediate (tag : Byte) (stay : Nat)
  | resetRunOrderly (tag : Byte) (stay : Nat)
  | serviceTimeout (station : Station)
  | settled
  | settleFail
  | linkLost
  | windup
  | slipTimerExpiry (station : Station)
  | captureFail (station : Station)
  | stationLost (station : Station) (cause : MissCause)
  | laneDegraded (station : Station) (lane : Lane)
  | tolerance
  | captured (station : Station)
  | startByte
  | bodyLengthAboveLimit
deriving DecidableEq, Repr

end Sys2Proof
end

