-- ==== Sys2Proof/Decode.lean ====
section
/-! DEFINITION. The command a table word spells. spec/opcode_table.json gives no row any bits: its rows are events and
requests, not encodings, so no word spells a command. The records of the cell link are read in Machine/Operands.lean. -/

namespace Sys2Proof

/-- No row of the table has bits, so no word spells a command (98_reader.md: n_rows_with_fixed 0). -/
def decodeTableWord (_nbits _w : Nat) : Option Instr := none

end Sys2Proof
end

