-- ==== Sys2Proof/Config.lean ====
section
/-! DEFINITION. What the manual leaves open. Every constant here is opaque: nothing in Lean can evaluate it, so a statement
that is proved holds whatever its value is. `State.free` counts the orders already taken, so that each choice is fresh. -/

namespace Sys2Proof

/-- Where the run cycle count rises within a cycle close, against the drive link controller's work and the LINK_LOST
check. R123 places it before the cycle computation and says no more. -/
inductive CountOrder where
  /-- before the drive link controller's work of R4 -/
  | beforeLink
  /-- between that work and the LINK_LOST check of R149 -/
  | beforeSilence
  /-- after the LINK_LOST check -/
  | afterSilence
deriving DecidableEq, Repr, Inhabited

/-- The order of the event tests (E), the trace capture (C) and the run end or orderly reset (R) at one completion
(R161, R178 name the orders open). -/
inductive CompletionOrder where
  | eventsCaptureEnd
  | eventsEndCapture
  | captureEventsEnd
  | captureEndEvents
  | endEventsCapture
  | endCaptureEvents
deriving DecidableEq, Repr, Inhabited

/-- DESIGN CHOICE (log 4), safe: the order of R123 against R4 and R149 taken at the n-th open choice. -/
opaque Config.countOrder : Nat → CountOrder

/-- DESIGN CHOICE (log 4), safe: the order at a completion taken at the n-th open choice (R161, R178). -/
opaque Config.completionOrder : Nat → CompletionOrder

/-- DESIGN CHOICE (log 4), safe: whether the publishing of a round start comes before the CYCLE firings (R165). -/
opaque Config.publishFirst : Nat → Bool

/-- DESIGN CHOICE (log 14), safe: the kind byte of the BAD_KIND reply to a kind of 128 or more, for which R202's sum
lies outside the byte. -/
opaque Config.highReplyKind : Byte → Byte

/-- DESIGN CHOICE (log 16), safe: what a signed 64-bit quantity holds after a sum outside its range. -/
opaque Config.wide64 : Int → BitVec 64

end Sys2Proof
end

