-- ==== Sys2Proof/Machine/Arith.lean ====
section
/-! DEFINITION. The manual's arithmetic: its roundings (00_scope.md, Conventions), saturation, byte order (R211), the
CRC-16 (R210), station lists. -/

namespace Sys2Proof.Machine

/-- The quotient rounded to nearest, halves away from zero, for a positive divisor (00_scope.md, Conventions). -/
def roundDiv (n d : Int) : Int :=
  if 0 ≤ n then (2 * n + d) / (2 * d) else -((2 * (-n) + d) / (2 * d))

/-- The nearest value within lo to hi. -/
def clampInt (lo hi x : Int) : Int := if x < lo then lo else if hi < x then hi else x

/-- Clamped to the signed 32-bit range (R59, R61). -/
def clamp32 (x : Int) : Int := clampInt (-2147483648) 2147483647 x

/-- The value with its magnitude limited to m, keeping its sign. -/
def limitMag (m x : Int) : Int := clampInt (-m) m x

/-- A signed 64-bit quantity after a sum: the sum itself within range, otherwise an open value (log 16). -/
def narrow64 (x : Int) : Int :=
  if -9223372036854775808 ≤ x ∧ x ≤ 9223372036854775807 then x else (Config.wide64 x).toInt

/-- A count raised by k and held at its cap. -/
def satAdd (cap n k : Nat) : Nat := min cap (n + k)

/-- The station numbers in ascending order. -/
def stationList : List Station := [0, 1, 2, 3, 4, 5, 6, 7]

/-- Station n is in the mask (R211). -/
def inMask (m : Mask) (n : Station) : Bool := m.getLsbD n.val

/-- The mask of the stations for which p holds. -/
def maskOf (p : Station → Bool) : Mask :=
  stationList.foldl (fun m n => if p n then m ||| (1#8 <<< n.val) else m) 0

/-- A station number below 8. -/
def stationOf (n : Nat) : Option Station := if h : n < 8 then some ⟨n, h⟩ else none

/-- Every element of a vector of eight replaced by f of it. -/
def mapEight {α β : Type} (f : α → β) (v : Vector α 8) : Vector β 8 :=
  #v[f v[0], f v[1], f v[2], f v[3], f v[4], f v[5], f v[6], f v[7]]

/-- The vector of eight with f n at n. -/
def ofEight {α : Type} (f : Station → α) : Vector α 8 := #v[f 0, f 1, f 2, f 3, f 4, f 5, f 6, f 7]

/-! ### Bytes, most significant first (R211) -/

/-- One byte. -/
def be1 (n : Nat) : List Byte := [BitVec.ofNat 8 n]

/-- Two bytes. -/
def be2 (n : Nat) : List Byte := [BitVec.ofNat 8 (n / 256), BitVec.ofNat 8 n]

/-- Four bytes. -/
def be4 (n : Nat) : List Byte := be2 (n / 65536) ++ be2 n

/-- Eight bytes. -/
def be8 (n : Nat) : List Byte := be4 (n / 4294967296) ++ be4 n

/-- A signed value in w bits as the number of its two's complement. -/
def twos (w : Nat) (i : Int) : Nat := (BitVec.ofInt w i).toNat

/-- The number of some bytes. -/
def beNat (b : List Byte) : Nat := b.foldl (fun n x => n * 256 + x.toNat) 0

/-- The bytes from an offset on, so many of them. -/
def slice (b : List Byte) (off len : Nat) : List Byte := (b.drop off).take len

/-- The unsigned field of len bytes at an offset. -/
def fieldAt (b : List Byte) (off len : Nat) : Nat := beNat (slice b off len)

/-- The signed four-byte field at an offset. -/
def signed4At (b : List Byte) (off : Nat) : Int := (BitVec.ofNat 32 (fieldAt b off 4)).toInt

/-- The signed two-byte field at an offset. -/
def signed2At (b : List Byte) (off : Nat) : Int := (BitVec.ofNat 16 (fieldAt b off 2)).toInt

/-! ### CRC-16 (R210) -/

/-- One shift of the register. -/
def crcShift (r : Word16) : Word16 := if r.msb then (r <<< 1) ^^^ 0x1021#16 else r <<< 1

/-- One byte into the register, most significant bit first. -/
def crcByte (r : Word16) (b : Byte) : Word16 :=
  let x := r ^^^ (b.setWidth 16 <<< 8)
  crcShift (crcShift (crcShift (crcShift (crcShift (crcShift (crcShift (crcShift x)))))))

/-- The CRC-16 of some bytes (R210). -/
def crc16 (b : List Byte) : Word16 := b.foldl crcByte 0xFFFF#16

/-- The two CRC bytes that close a unit. -/
def crcBytes (b : List Byte) : List Byte := be2 (crc16 b).toNat

end Sys2Proof.Machine
end

