-- ==== Sys2Proof/Machine/Types.lean ====
section
/-! DEFINITION. The data the blocks of the part hold, block by block, and the records that leave it. Every type is plain
data. Names follow the manual's own tables; the codes of the enumerations on the wire are in Machine/Layout.lean. -/

namespace Sys2Proof.Machine

/-! ### Enumerations -/

/-- The operating states (R116). -/
inductive OpState where
  | loading
  | config
  | settle
  | ready
  | run
  | stopping
  | safe
deriving DecidableEq, Repr

/-- The run mode (R116). -/
inductive RunMode where
  | road
  | speed
deriving DecidableEq, Repr

/-- Why the part entered STOPPING (R126). -/
inductive StopCause where
  | stopRun
  | fault
  | profileEnd
  | underrunStop
  | orderlyReset
deriving DecidableEq, Repr

/-- The transition causes of a STATE report (R118). -/
inductive StateCause where
  | leaveConfig
  | settled
  | startRun
  | stopRun
  | profileEnd
  | underrunStop
  | orderlyReset
  | fault
  | standstill
  | runReset
  | clearFault
deriving DecidableEq, Repr

/-- The reasons of a full reset (R119). -/
inductive ResetReason where
  | power
  | line
  | request
deriving DecidableEq, Repr

/-- The load outcomes (R185). -/
inductive LoadOutcome where
  | valid
  | blank
  | checkFailed
  | outOfRange
deriving DecidableEq, Repr

/-- The lock states of a station (R62). -/
inductive LockState where
  | idle
  | capture
  | locked
  | slip
  | faulted
deriving DecidableEq, Repr

/-- The causes of a FAULTED station (3.1, Live fields). -/
inductive StationCause where
  | lostSilent
  | lostDisagree
  | lostJump
  | slipTime
  | errorClamp
  | captureFail
  | driveTrip
deriving DecidableEq, Repr

/-- The transition reasons of a STATION report (R62). -/
inductive StationReason where
  | engage
  | startRun
  | recapture
  | captured
  | slipped
  | relocked
  | trimChange
  | fault
  | release
  | runEnd
  | safe
  | runReset
  | clearFault
deriving DecidableEq, Repr

/-- The command of a SYNC entry (1.2). -/
inductive Command where
  | torqueOff
  | follow
deriving DecidableEq, Repr

/-- The outcome of the last judging (3.1, Live fields). -/
inductive Judgement where
  | accepted
  | missed (cause : MissCause)
deriving DecidableEq, Repr

/-- The side of a station (R46). -/
inductive Side where
  | left
  | right
deriving DecidableEq, Repr

/-- The lanes a station uses (R46). -/
inductive LaneUse where
  | a
  | b
  | ab
deriving DecidableEq, Repr

/-- The mounting sense of a station's drive (R46). -/
inductive Direction where
  | normal
  | inverted
deriving DecidableEq, Repr

/-- The five lane outcomes (R6); `malformed` is the manual's SYNTAX. -/
inductive LaneOutcome where
  | valid
  | silent
  | late
  | malformed
  | content
deriving DecidableEq, Repr

/-- The drive states of a station report (1.3). -/
inductive DriveState where
  | ready
  | running
  | tripped
deriving DecidableEq, Repr

/-- The operations of a service item (R13). -/
inductive ServiceOp where
  | read
  | write
deriving DecidableEq, Repr

/-- The results of a service item (R19). -/
inductive ServiceResult where
  | ok
  | refused
  | timeout
  | cancelled
deriving DecidableEq, Repr

/-- The player states (R98). -/
inductive PlayerMode where
  | empty
  | playing
  | held
  | underrun
  | ended
deriving DecidableEq, Repr

/-- Why the player entered ENDED (R109). -/
inductive EndReason where
  | last
  | finish
  | stopped
deriving DecidableEq, Repr

/-- The thirteen fault kinds (7.2). -/
inductive FaultKind where
  | estop
  | linkLost
  | settleFail
  | overspeed
  | windup
  | stationLost
  | stationSlip
  | captureFail
  | driveTrip
  | laneDegraded
  | underrun
  | tolerance
  | windupWarn
deriving DecidableEq, Repr

/-- The reaction level: NONE, 3, 2 or 1 (R138). -/
inductive Reaction where
  | none
  | three
  | two
  | one
deriving DecidableEq, Repr

/-- The lane modes of a counter (R170). -/
inductive LaneMode where
  | a
  | b
  | either
  | weighted
deriving DecidableEq, Repr

/-- The actions of a RELEASE_HOLD, with a code outside the three (R105). -/
inductive HoldAction where
  | goOn
  | again
  | finish
  | other (code : Nat)
deriving DecidableEq, Repr

/-- The status codes of a reply (R202). -/
inductive Status where
  | ok
  | clamped
  | badKind
  | badLength
  | badValue
  | wrongState
  | locked
  | queueFull
  | tableFull
  | notFound
  | notHeld
  | faultPending
  | causePresent
  | profileEmpty
  | duplicatePosition
  | storeFailed
deriving DecidableEq, Repr

/-- The first missing item of an incomplete working set (R184). -/
inductive MissingItem where
  | cell
  | station (n : Station)
deriving DecidableEq, Repr

/-! ### Drive link -/

/-- A service response in a station report (1.3). True is OK, false REFUSED. -/
structure ServiceResponse where
  ok    : Bool
  index : Nat
  value : Int
deriving DecidableEq, Repr

/-- The fields of a station report (1.3). -/
structure StationReport where
  station  : Nat
  echo     : Nat
  count    : Word32
  force    : Int
  drive    : DriveState
  trip     : Nat
  response : Option ServiceResponse
deriving DecidableEq, Repr

/-- A station's observation after the merge (R7): the fields of a valid one are already converted by R8 and R9. -/
inductive Observation where
  | silent
  | disagree
  | valid (count : Word32) (force : Int) (drive : DriveState) (trip : Nat) (response : Option ServiceResponse)
deriving DecidableEq, Repr

/-- A service item (1.5). -/
structure ServiceItem where
  op    : ServiceOp
  index : Nat
  value : Int
deriving DecidableEq, Repr

/-- The outstanding item of a station with its age (1.5). -/
structure Outstanding where
  item : ServiceItem
  age  : Nat
deriving DecidableEq, Repr

/-- The drive link controller's state for one station (R3, R10, 1.5). -/
structure LinkStation where
  outA        : Option LaneOutcome
  outB        : Option LaneOutcome
  repA        : Option StationReport
  repB        : Option StationReport
  obs         : Option Observation
  streakA     : Nat
  streakB     : Nat
  waiting     : List ServiceItem
  outstanding : Option Outstanding
deriving DecidableEq, Repr

/-- One station entry of a SYNC frame (1.2). -/
structure SyncEntry where
  command : Command
  demand  : Int
deriving DecidableEq, Repr

/-- A SYNC frame by field (1.2). -/
structure SyncFrame where
  counter : BitVec 6
  entries : Vector SyncEntry 8
  item    : Option (Station × ServiceItem)
deriving DecidableEq, Repr

/-- The drive link controller (R23). -/
structure Link where
  running : Bool
  counter : BitVec 6
  st      : Vector LinkStation 8
  pointer : Station
  sync    : Option SyncFrame
deriving DecidableEq, Repr

/-! ### Synchronisation core -/

/-- The virtual axle generator (R25). -/
structure Axle where
  v      : Int
  whole  : Int
  frac   : Int
  grade  : Int
  adv    : Int
  fSum   : Int
  fRoad  : Int
  fGrade : Int
  fNet   : Int
  vLimit : Int
deriving DecidableEq, Repr

/-- A station block of the working set, in range (R183). -/
structure StationBlock where
  axle      : Fin 4
  side      : Side
  cpr       : Nat
  circ      : Nat
  lanes     : LaneUse
  direction : Direction
deriving DecidableEq, Repr

/-- A station record: fixed fields in `block`, then the live fields of 3.1. -/
structure StationRec where
  block        : StationBlock
  cnm          : Int
  trimPpm      : Int
  state        : LockState
  cause        : Option StationCause
  faultCommand : Command
  baseline     : Bool
  lastRaw      : Word32
  lastAt       : Word32
  since        : Nat
  judgement    : Option Judgement
  measured     : Int
  tLast        : Int
  tNext        : Int
  tAccept      : Int
  residue      : Int
  e            : Int
  ff           : Int
  intervalFf   : Int
  trim         : Int
  trimSat      : Bool
  demand       : Int
  command      : Command
  streak       : Nat
  age          : Nat
  slipTimer    : Nat
  miss         : Nat
  force        : Option Int
  drive        : Option DriveState
  trip         : Option Nat
deriving DecidableEq, Repr

/-- One axle's summary (R89). -/
structure Summary where
  contributors : Nat
  force        : Int
  participants : Nat
  mean         : Option Int
deriving DecidableEq, Repr

/-- The wind-up monitor (R81). -/
structure Monitor where
  part      : Mask
  surface   : Vector (Option Int) 8
  cross     : Vector (Option Int) 8
  spread    : Option Int
  mean      : Option Int
  leading   : Option Station
  trailing  : Option Station
  timer     : Nat
  warn      : Bool
  summaries : Vector Summary 4
deriving DecidableEq, Repr

/-! ### Profile player, run controller, fault manager -/

/-- The profile player with its segment queue (R95, R98). `lastTag` is the tag R109 carries. -/
structure Player where
  active    : Option Segment
  waiting   : List Segment
  mode      : PlayerMode
  point     : Nat
  elapsed   : Nat
  start     : Int
  speed     : Int
  clock     : Word32
  phase     : Option Nat
  phaseTol  : Nat
  excursion : Nat
  raised    : Bool
  ended     : Option EndReason
  lastTag   : Option Nat
deriving DecidableEq, Repr

/-- The run controller (R116), with the reason and the stay-in-CONFIG flag of the last full reset (R119); `fresh`: the run's first
cycle computation has not begun (R39). -/
structure Run where
  op          : OpState
  tag         : Nat
  mode        : RunMode
  count       : Word32
  countEnable : Bool
  stopCause   : Option StopCause
  orderly     : Bool
  settleCount : Nat
  settleTimer : Nat
  reason      : ResetReason
  stay        : Bool
  fresh       : Bool
deriving DecidableEq, Repr

/-- The detail of a raise (7.2). -/
inductive Detail where
  | stations (mask : Mask)
  | spread (um : Int) (trailing : Station)
  | trip (code : Nat)
  | phase (p : Option Nat)
deriving DecidableEq, Repr

/-- What a raise hands the fault manager (R139). -/
structure Raise where
  kind    : FaultKind
  station : Option Station := none
  lane    : Option Lane := none
  cause   : Option StationCause := none
  detail  : Option Detail := none
deriving DecidableEq, Repr

/-- An entry of the fault list (7.4); its position is its place in the list and its level that of its kind. -/
structure FaultEntry where
  kind    : FaultKind
  station : Option Station
  lane    : Option Lane
  cause   : Option StationCause
  detail  : Option Detail
  firstAt : Word32
  lastAt  : Word32
  repeats : Nat
  state   : OpState
deriving DecidableEq, Repr

/-- The fault manager (R138). -/
structure Faults where
  entries  : List FaultEntry
  overflow : Bool
  reaction : Reaction
  silence  : Nat
deriving DecidableEq, Repr

/-! ### A computation in progress -/

/-- A cycle computation whose completion has not come yet (R28, R29, R41). `began` is the operating state at its start; `void`
says that SAFE has been entered within it since (R29); `standstill` that it reported standstill (R41); `capture` is the CAPTURE
request it will serve (R166); `records` are the station records as its demand assembly left them (R177). The rest is what the
computation before left, for the replies of before the completion (R43, R79, R91, R206): the axle, the monitor, the fault manager
and the station records, these two with what requests and line events have set since, and in `stopped` the player where this
computation brought RUN to STOPPING. -/
structure Computation where
  began         : OpState
  void          : Bool
  standstill    : Bool
  capture       : Bool
  records       : Vector (Option StationRec) 8
  axleBefore    : Axle
  monitorBefore : Monitor
  faultsBefore  : Faults
  recordsBefore : Vector (Option StationRec) 8
  stopped       : Option Player
deriving DecidableEq, Repr

/-! ### Event table, statistics, trace -/

/-- The trigger of an entry in use, with the next mark of a DISTANCE entry (R155). -/
inductive Trigger where
  | cycle (value mask : BitVec 6)
  | distance (start period next : Nat)
  | traceTime (time : Nat)
deriving DecidableEq, Repr

/-- The action set of an entry (R155). -/
structure Actions where
  mark     : Bool
  report   : Bool
  snapshot : Bool
  capture  : Bool
deriving DecidableEq, Repr

/-- An event entry in use (R155). -/
structure EventEntry where
  trigger    : Trigger
  actions    : Actions
  runTag     : Nat
  persistent : Bool
  armed      : Bool
  fires      : Nat
deriving DecidableEq, Repr

/-- The event table and the pending mark (R155). -/
structure Events where
  entries     : Vector (Option EventEntry) 16
  markPending : Bool
deriving DecidableEq, Repr

/-- A statistics counter (R168). `station` absent is ALL; `lost`: its station has lost its record since SET_COUNTER. -/
structure Counter where
  enable     : Bool
  station    : Option Station
  lane       : LaneMode
  slot       : List LaneOutcome
  slip       : Bool
  trimSat    : Bool
  accumulate : Bool
  working    : Nat
  published  : Nat
  saturated  : Bool
  lost       : Bool
deriving DecidableEq, Repr

/-- A slot watch: outcomes of lane A and B in even and odd cycles; `lost`: its station has lost its record since SET_WATCH
(R174). -/
structure Watch where
  station : Option Station
  aEven   : Option LaneOutcome
  aOdd    : Option LaneOutcome
  bEven   : Option LaneOutcome
  bOdd    : Option LaneOutcome
  lost    : Bool
deriving DecidableEq, Repr

/-- The counter snapshot (R175). -/
structure Snapshot where
  values : Vector Nat 4
  entry  : Option (Fin 16)
  taken  : Word32
deriving DecidableEq, Repr

/-- The statistics unit (R168, R174, R175). -/
structure Stats where
  counters : Vector Counter 4
  watches  : Vector Watch 4
  snap     : Snapshot
deriving DecidableEq, Repr

/-- The trace buffer: records oldest first, each a list of 32-bit words; `lost`: the stations that have lost their record since
SET_TRACE (R176, R177). -/
structure Trace where
  mask         : Mask
  decimation   : Nat
  overwrite    : Bool
  enable       : Bool
  records      : List (List Word32)
  fullReported : Bool
  waiting      : Bool
  lost         : Mask
deriving DecidableEq, Repr

/-! ### Commissioning store and parameters -/

/-- The commissioning store (R183). -/
structure Store where
  cell    : Option CellBlock
  blocks  : Vector (Option StationBlock) 8
  locked  : Bool
  outcome : LoadOutcome
  storing : Bool
deriving DecidableEq, Repr

/-- The parameter table (10.4). `underrunStop` is UNDERRUN_POLICY at STOP. -/
structure Params where
  kp            : Nat
  kx            : Nat
  trimMax       : Nat
  lockWindow    : Nat
  slipWindow    : Nat
  slipTime      : Nat
  captureWindow : Nat
  captureCycles : Nat
  captureLimit  : Nat
  missLimit     : Nat
  jumpLimit     : Nat
  accelLimit    : Nat
  tolBand       : Nat
  tolTime       : Nat
  underrunStop  : Bool
  reportLevel   : Nat
  countEnable   : Bool
  a             : Nat
  b             : Nat
  c             : Nat
  mass          : Nat
  circTrim      : Vector Int 8
deriving DecidableEq, Repr

/-- The parameters that act after the computation has begun, as it read them (R30, R98, R169). -/
structure InForce where
  tolBand      : Nat
  tolTime      : Nat
  underrunStop : Bool
  countEnable  : Bool
deriving DecidableEq, Repr

/-! ### Cell link port -/

/-- A request as read from a record's kind and body (R200, 11.8). `badKind` and `badLength` are records that the checks
of R200 refuse; `commissionOther`, and codes out of their sets, reach their owning rule (R211). -/
inductive Request where
  | badKind
  | badLength
  | getStatus
  | getStation (station : Nat)
  | commissionCell (cell : CellBlock)
  | commissionWrite (station : Nat) (block : RawStation)
  | commissionClear (station : Nat)
  | commissionOther
  | storeCommissioning
  | leaveConfig
  | setParam (ident : Nat) (value : Int)
  | getParam (ident : Nat)
  | setRoadLoad (a b c mass : Nat)
  | appendSegment (segment : Segment)
  | discardSegments
  | startRun (mode runTag : Nat) (engage : Mask) (count : Nat)
  | stopRun
  | releaseHold (action : HoldAction)
  | engage (stations : Mask)
  | release (stations : Mask)
  | recapture (stations : Mask)
  | addEvent (trigger : TriggerArg) (actions runTag persistent : Nat)
  | modifyEvent (entry : Nat) (trigger : TriggerArg)
  | removeEvent (entry : Nat)
  | clearEvents (selector : ClearArg)
  | setCounter (config : CounterArg)
  | setWatch (number station : Nat)
  | readCounters
  | setTrace (stations : Mask) (decimation policy enable : Nat)
  | readTrace (maximum : Nat)
  | readFaults
  | clearFault
  | service (station operation index : Nat) (value : Int)
  | reset (level manner stay : Nat)
deriving DecidableEq, Repr

/-- A request in the request queue with its record's kind and tag (R199). -/
structure Queued where
  kind : Byte
  tag  : Byte
  req  : Request
deriving DecidableEq, Repr

/-- One field of a reply or report body with the width R212 gives it. `opt8` is 255 when absent; `gap n` is n bytes of
an absent field (R211). -/
inductive Field where
  | u8 (n : Nat)
  | u16 (n : Nat)
  | u32 (n : Nat)
  | u64 (n : Nat)
  | s16 (i : Int)
  | s32 (i : Int)
  | s64 (i : Int)
  | opt8 (n : Option Nat)
  | gap (n : Nat)
deriving DecidableEq, Repr

/-- What an owning block answers (R202). -/
structure Answer where
  status : Status
  fields : List Field
deriving DecidableEq, Repr

/-- A reply in the reply queue; `served` is false for a QUEUE_FULL refusal of R199. -/
structure Reply where
  kind   : Byte
  tag    : Byte
  served : Bool
  answer : Answer
deriving DecidableEq, Repr

/-- The kind of a report with its own fields (11.9). -/
inductive ReportBody where
  | started (reason : ResetReason) (outcome : LoadOutcome) (state : OpState)
  | state (prev new : OpState) (cause : StateCause) (kind : Option FaultKind) (tag : Nat) (mode : RunMode)
      (pending cancelled : Bool)
  | fault (raised : Raise) (stored : Option (Nat × Nat)) (accepted : Bool) (reaction : Reaction) (overflow : Bool)
  | station (n : Station) (prev new : LockState) (reason : StationReason) (cause : Option StationCause) (e measured : Int)
      (speed : Int) (summary : Summary)
  | settle (count timer : Nat) (mask : Mask)
  | hold (tag : Nat) (speed : Int) (clock : Word32)
  | profileEnd (reason : EndReason) (tag : Option Nat) (clock : Word32)
  | segmentStarted (tag : Nat) (clock : Word32) (waiting : Nat)
  | segmentEnded (tag : Nat) (clock : Word32)
  | phase (new : Nat) (prev : Option Nat) (tol : Nat) (clock : Word32)
  | serviceDone (n : Station) (item : ServiceItem) (result : ServiceResult) (value : Int)
  | eventCycle (entry : Fin 16) (fires : Nat) (counter : BitVec 6)
  | eventDistance (entry : Fin 16) (fires : Nat) (mm : Int) (next : Nat)
  | eventTrace (entry : Fin 16) (fires : Nat) (clock : Word32)
  | counterSaturated (counter : Fin 4) (station : Option Station) (accumulate : Bool)
  | traceFull (held : Nat) (count : Word32)
deriving DecidableEq, Repr

/-- A queued report with the common fields of R204. -/
structure Report where
  lost  : Nat
  count : Word32
  op    : OpState
  body  : ReportBody
deriving DecidableEq, Repr

/-- The transmitter (R205). A reply under transmission is the oldest of the reply queue. -/
inductive Tx where
  | idle
  | reply
  | report (r : Report)
deriving DecidableEq, Repr

/-- A RESET at level FULL that has been taken: its stay-in-CONFIG flag, and whether its reply has gone out (R201). -/
structure PendingFull where
  stay : Bool
  sent : Bool
deriving DecidableEq, Repr

/-- The cell link port (R196 to R208). -/
structure Port where
  rate      : Nat
  receiving : Bool
  requests  : List Queued
  serving   : Bool
  replies   : List Reply
  reports   : List Report
  lost      : Nat
  discards  : Nat
  refusals  : Nat
  tx        : Tx
  fullReset : Option PendingFull
deriving DecidableEq, Repr

/-- The discrete lines (Connection summary, R117, R131, R135, R163). -/
structure Pins where
  estop       : Bool
  driveEnable : Bool
  marker      : Bool
  resetHeld   : Bool
deriving DecidableEq, Repr

/-- The commissioning memory: (address, byte) pairs in the canonical form of `Memory.wf`. -/
abbrev Memory := List Host.Cell

end Sys2Proof.Machine
end

