-- ==== Sys2Proof/Machine/Layout.lean ====
section
/-! DEFINITION. The codes and byte layouts of 12_frame_and_record_layouts.md: replies, reports, SYNC frames, station
reports, the commissioning image. -/

namespace Sys2Proof.Machine

/-! ### Codes of enumerated fields (12.2) -/

/-- Operating state codes (12.2). -/
def OpState.code : OpState → Nat
  | .loading => 0 | .config => 1 | .settle => 2 | .ready => 3 | .run => 4 | .stopping => 5 | .safe => 6

/-- Player state codes (12.2). -/
def PlayerMode.code : PlayerMode → Nat
  | .empty => 0 | .playing => 1 | .held => 2 | .underrun => 3 | .ended => 4

/-- Lock state codes (12.2). -/
def LockState.code : LockState → Nat
  | .idle => 0 | .capture => 1 | .locked => 2 | .slip => 3 | .faulted => 4

/-- Station fault cause codes (12.2). -/
def StationCause.code : StationCause → Nat
  | .lostSilent => 0 | .lostDisagree => 1 | .lostJump => 2 | .slipTime => 3 | .errorClamp => 4 | .captureFail => 5
  | .driveTrip => 6

/-- Command codes (12.2). -/
def Command.code : Command → Nat
  | .torqueOff => 0 | .follow => 1

/-- Last judgement codes (12.2). -/
def Judgement.code : Judgement → Nat
  | .accepted => 0 | .missed .silent => 1 | .missed .disagree => 2 | .missed .jump => 3

/-- Lane outcome codes (12.2). -/
def LaneOutcome.code : LaneOutcome → Nat
  | .valid => 0 | .silent => 1 | .late => 2 | .malformed => 3 | .content => 4

/-- Last observation codes (12.2). -/
def Observation.code : Observation → Nat
  | .valid _ _ _ _ _ => 0 | .silent => 1 | .disagree => 2

/-- Drive state codes (12.2). -/
def DriveState.code : DriveState → Nat
  | .ready => 1 | .running => 2 | .tripped => 3

/-- Lane of a fault (12.2). -/
def laneCode : Lane → Nat
  | .a => 1 | .b => 2

/-- Service operation codes (12.2). -/
def ServiceOp.code : ServiceOp → Nat
  | .read => 1 | .write => 2

/-- Service result codes (12.2). -/
def ServiceResult.code : ServiceResult → Nat
  | .ok => 1 | .refused => 2 | .timeout => 3 | .cancelled => 4

/-- STATION reason codes (12.2). -/
def StationReason.code : StationReason → Nat
  | .engage => 0 | .startRun => 1 | .recapture => 2 | .captured => 3 | .slipped => 4 | .relocked => 5 | .trimChange => 6
  | .fault => 7 | .release => 8 | .runEnd => 9 | .safe => 10 | .runReset => 11 | .clearFault => 12

/-- STATE cause codes (12.2). -/
def StateCause.code : StateCause → Nat
  | .leaveConfig => 0 | .settled => 1 | .startRun => 2 | .stopRun => 3 | .profileEnd => 4 | .underrunStop => 5
  | .orderlyReset => 6 | .fault => 7 | .standstill => 8 | .runReset => 9 | .clearFault => 10

/-- Stop cause codes (12.2). -/
def StopCause.code : StopCause → Nat
  | .stopRun => 0 | .fault => 1 | .profileEnd => 2 | .underrunStop => 3 | .orderlyReset => 4

/-- Fault kind codes (12.2). -/
def FaultKind.code : FaultKind → Nat
  | .estop => 0 | .linkLost => 1 | .settleFail => 2 | .overspeed => 3 | .windup => 4 | .stationLost => 5
  | .stationSlip => 6 | .captureFail => 7 | .driveTrip => 8 | .laneDegraded => 9 | .underrun => 10 | .tolerance => 11
  | .windupWarn => 12

/-- The level of each fault kind (7.2). -/
def FaultKind.level : FaultKind → Nat
  | .estop => 1 | .linkLost => 1 | .settleFail => 1 | .overspeed => 2 | .windup => 2 | .stationLost => 3
  | .stationSlip => 3 | .captureFail => 3 | .driveTrip => 3 | .laneDegraded => 4 | .underrun => 4 | .tolerance => 4
  | .windupWarn => 4

/-- Reaction level codes (12.2). -/
def Reaction.code : Reaction → Nat
  | .none => 0 | .three => 3 | .two => 2 | .one => 1

/-- Run mode codes (12.2). -/
def RunMode.code : RunMode → Nat
  | .road => 0 | .speed => 1

/-- Reset reason codes (12.2). -/
def ResetReason.code : ResetReason → Nat
  | .power => 0 | .line => 1 | .request => 2

/-- Load outcome codes (12.2). -/
def LoadOutcome.code : LoadOutcome → Nat
  | .valid => 0 | .blank => 1 | .checkFailed => 2 | .outOfRange => 3

/-- End reason codes (12.2). -/
def EndReason.code : EndReason → Nat
  | .last => 0 | .finish => 1 | .stopped => 2

/-- Lane mode codes (12.2). -/
def LaneMode.code : LaneMode → Nat
  | .a => 0 | .b => 1 | .either => 2 | .weighted => 3

/-- Side codes (12.4). -/
def Side.code : Side → Nat
  | .left => 0 | .right => 1

/-- Lanes codes (12.4). -/
def LaneUse.code : LaneUse → Nat
  | .a => 1 | .b => 2 | .ab => 3

/-- Direction codes (12.4). -/
def Direction.code : Direction → Nat
  | .normal => 0 | .inverted => 1

/-- Status codes (12.2). -/
def Status.code : Status → Nat
  | .ok => 0 | .clamped => 1 | .badKind => 2 | .badLength => 3 | .badValue => 4 | .wrongState => 5 | .locked => 6
  | .queueFull => 7 | .tableFull => 8 | .notFound => 9 | .notHeld => 10 | .faultPending => 11 | .causePresent => 12
  | .profileEmpty => 13 | .duplicatePosition => 14 | .storeFailed => 15

/-- A flag: 1 for yes, 0 for no (R212). -/
def flag (b : Bool) : Nat := if b then 1 else 0

/-! ### Fields (R211, R212) -/

/-- The bytes of one field. -/
def Field.bytes : Field → List Byte
  | .u8 n => be1 n
  | .u16 n => be2 n
  | .u32 n => be4 n
  | .u64 n => be8 n
  | .s16 i => be2 (twos 16 i)
  | .s32 i => be4 (twos 32 i)
  | .s64 i => be8 (twos 64 i)
  | .opt8 none => [255#8]
  | .opt8 (some n) => be1 n
  | .gap n => List.replicate n 0#8

/-- The bytes of some fields, without gaps (R212). -/
def fieldBytes (fs : List Field) : List Byte := fs.flatMap Field.bytes

/-- An optional field with a presence byte, its own bytes 0 when absent (R211). -/
def optFields {α : Type} (width : Nat) (f : α → List Field) : Option α → List Field
  | none => [.u8 0, .gap width]
  | some x => .u8 1 :: f x

/-- An optional station number, 255 when absent. -/
def optStation (n : Option Station) : Field := .opt8 (n.map Fin.val)

/-- The nine bytes of a fault's detail (R212). -/
def Detail.fields : Detail → List Field
  | .stations m => [.u8 m.toNat, .gap 8]
  | .spread um t => [.s64 um, .u8 t.val]
  | .trip c => [.u8 c, .gap 8]
  | .phase p => [.opt8 p, .gap 8]

/-- The fields of a per-axle summary in the order of R89. DEDUCED (log 34): the force sum takes eight bytes. -/
def Summary.fields (s : Summary) : List Field :=
  [.u8 s.contributors, .s64 s.force, .u8 s.participants] ++ optFields 8 (fun m => [.s64 m]) s.mean

/-- The first missing item: its code, then the station or 0 (R212). -/
def MissingItem.fields : MissingItem → List Field
  | .cell => [.u8 0, .u8 0]
  | .station n => [.u8 1, .u8 n.val]

/-- A report's own fields in the order of the catalogue of reports (11.9, R212). DEDUCED (log 34): an EVENT report holds
the values of its trigger kind alone, a SEGMENT ended report an absent number waiting, and the display speed two bytes. -/
def ReportBody.fields : ReportBody → List Field
  | .started r o s => [.u8 r.code, .u8 o.code, .u8 s.code]
  | .state p n c k t m pend canc =>
    [.u8 p.code, .u8 n.code, .u8 c.code, .opt8 (k.map FaultKind.code), .u8 t, .u8 m.code, .u8 (flag pend), .u8 (flag canc)]
  | .fault f stored acc r ov =>
    [.u8 f.kind.code, .u8 f.kind.level, optStation f.station, .opt8 (f.lane.map laneCode),
      .opt8 (f.cause.map StationCause.code)] ++ optFields 9 Detail.fields f.detail ++
    [.u8 (flag stored.isSome), .opt8 (stored.map Prod.fst)] ++ optFields 1 (fun n => [.u8 n]) (stored.map Prod.snd) ++
    [.u8 (flag acc), .u8 r.code, .u8 (flag ov)]
  | .station n p w r c e m v s =>
    [.u8 n.val, .u8 p.code, .u8 w.code, .u8 r.code, .opt8 (c.map StationCause.code), .s32 e, .s64 m, .s16 v] ++ s.fields
  | .settle c t m => [.u16 c, .u16 t, .u8 m.toNat]
  | .hold t v c => [.u16 t, .u16 v.toNat, .u32 c.toNat]
  | .profileEnd r t c => [.u8 r.code] ++ optFields 2 (fun n => [.u16 n]) t ++ [.u32 c.toNat]
  | .segmentStarted t c w => [.u8 0, .u16 t, .u32 c.toNat, .opt8 (some w)]
  | .segmentEnded t c => [.u8 1, .u16 t, .u32 c.toNat, .opt8 none]
  | .phase n p t c => [.u8 n, .opt8 p, .u8 t, .u32 c.toNat]
  | .serviceDone n i r v => [.u8 n.val, .u8 i.op.code, .u16 i.index, .u8 r.code, .s32 v]
  | .eventCycle e f c => [.u8 e.val, .u8 0, .u16 f, .u8 c.toNat]
  | .eventDistance e f d n => [.u8 e.val, .u8 1, .u16 f, .s64 d, .u64 n]
  | .eventTrace e f c => [.u8 e.val, .u8 2, .u16 f, .u32 c.toNat]
  | .counterSaturated c s a => [.u8 c.val, .u8 ((s.map Fin.val).getD 8), .u8 (flag a)]
  | .traceFull h c => [.u16 h, .u32 c.toNat]

/-- The kind code of a report (12.2). -/
def ReportBody.kind : ReportBody → Nat
  | .started _ _ _ => 0x40
  | .state _ _ _ _ _ _ _ _ => 0x41
  | .fault _ _ _ _ _ => 0x42
  | .station _ _ _ _ _ _ _ _ _ => 0x43
  | .settle _ _ _ => 0x44
  | .hold _ _ _ => 0x45
  | .profileEnd _ _ _ => 0x46
  | .segmentStarted _ _ _ => 0x47
  | .segmentEnded _ _ => 0x47
  | .phase _ _ _ _ => 0x48
  | .serviceDone _ _ _ _ => 0x49
  | .eventCycle _ _ _ => 0x4A
  | .eventDistance _ _ _ _ => 0x4A
  | .eventTrace _ _ _ => 0x4A
  | .counterSaturated _ _ _ => 0x4B
  | .traceFull _ _ => 0x4C

/-- The level of a FAULT report by its fault's level (R148). -/
def faultReportLevel (level : Nat) : Nat := if level ≤ 2 then 1 else if level = 3 then 2 else 3

/-- The level of a report (R203). -/
def ReportBody.level : ReportBody → Nat
  | .started _ _ _ => 1
  | .state _ _ _ _ _ _ _ _ => 1
  | .fault f _ _ _ _ => faultReportLevel f.kind.level
  | .station _ _ _ _ _ _ _ _ _ => 2
  | .settle _ _ _ => 2
  | .hold _ _ _ => 2
  | .profileEnd _ _ _ => 2
  | .segmentStarted _ _ _ => 3
  | .segmentEnded _ _ => 3
  | .phase _ _ _ _ => 3
  | .serviceDone _ _ _ _ => 3
  | .eventCycle _ _ _ => 4
  | .eventDistance _ _ _ _ => 4
  | .eventTrace _ _ _ => 4
  | .counterSaturated _ _ _ => 4
  | .traceFull _ _ => 4

/-! ### Records of the cell link (12.2) -/

/-- What the CRC of a record covers: length, kind, tag, body (R210). -/
def recordCovered (kind tag : Byte) (body : List Byte) : List Byte := be2 body.length ++ [kind, tag] ++ body

/-- A whole record, start byte to CRC (12.2). -/
def recordBytes (kind tag : Byte) (body : List Byte) : List Byte :=
  let c := recordCovered kind tag body
  [0xA5#8] ++ c ++ crcBytes c

/-- The body of a reply: the status code and the fields (R202). -/
def Answer.body (a : Answer) : List Byte := be1 a.status.code ++ fieldBytes a.fields

/-- A reply on the wire. -/
def Reply.bytes (r : Reply) : List Byte := recordBytes r.kind r.tag r.answer.body

/-- The body of a report: the common fields of R204, then its own (12.2). -/
def Report.bodyBytes (r : Report) : List Byte :=
  fieldBytes ([.u8 r.lost, .u32 r.count.toNat, .u8 r.op.code] ++ r.body.fields)

/-- A report on the wire; its tag is 0 (R204). -/
def Report.bytes (r : Report) : List Byte := recordBytes (BitVec.ofNat 8 r.body.kind) 0 r.bodyBytes

/-! ### Drive link frames (12.3) -/

/-- The nine bytes of the SYNC frame's service item; all 0 when absent. -/
def syncItemBytes : Option (Station × ServiceItem) → List Byte
  | none => List.replicate 9 0#8
  | some (n, i) => be1 1 ++ be1 n.val ++ be1 i.op.code ++ be2 i.index ++ be4 (twos 32 i.value)

/-- The bytes a SYNC frame's CRC covers. -/
def SyncFrame.covered (f : SyncFrame) : List Byte :=
  [0x5C#8] ++ be1 f.counter.toNat ++
    f.entries.toList.flatMap (fun e => be1 e.command.code ++ be4 (twos 32 e.demand)) ++ syncItemBytes f.item

/-- A SYNC frame of 53 bytes (12.3). -/
def SyncFrame.bytes (f : SyncFrame) : List Byte := f.covered ++ crcBytes f.covered

/-- The eight bytes of a service response; all 0 when absent. -/
def responseBytes : Option ServiceResponse → List Byte
  | none => List.replicate 8 0#8
  | some r => be1 1 ++ be1 (if r.ok then 1 else 2) ++ be2 r.index ++ be4 (twos 32 r.value)

/-- The bytes a station report's CRC covers. -/
def StationReport.covered (r : StationReport) : List Byte :=
  [0x3A#8] ++ be1 r.station ++ be1 r.echo ++ be4 r.count.toNat ++ be4 (twos 32 r.force) ++ be1 r.drive.code ++
    be1 r.trip ++ responseBytes r.response

/-- A station report of 23 bytes, as a drive sends it (12.3). -/
def StationReport.bytes (r : StationReport) : List Byte := r.covered ++ crcBytes r.covered

/-! ### The commissioning image (12.4) -/

/-- The cell block's 24 bytes (12.4). -/
def cellBytes (c : CellBlock) : List Byte :=
  be2 c.period ++ be1 c.mask.toNat ++ be2 c.vmax ++ be2 c.stopDecel ++ be4 c.massMin ++ be4 c.massMax ++
    be4 c.windupLimit ++ be2 c.windupTime ++ be1 c.linkLostLimit ++ be2 c.settleCount

/-- The station block's 13 bytes (12.4). -/
def stationBytes (n : Station) (b : StationBlock) : List Byte :=
  be1 n.val ++ be1 b.axle.val ++ be1 b.side.code ++ be4 b.cpr ++ be4 b.circ ++ be1 b.lanes.code ++ be1 b.direction.code

/-- The format mark (12.4). -/
def formatMark : List Byte := [0x5A#8, 0x38#8, 0x34#8, 0x30#8]

/-- The station blocks of the stations in the mask, in ascending station-number order (R190). -/
def imageStations (c : CellBlock) (blocks : Vector (Option StationBlock) 8) : List Byte :=
  stationList.flatMap fun n =>
    if inMask c.mask n then (match blocks[n] with | some b => stationBytes n b | none => []) else []

/-- The image before its CRC: mark, length, cell block, station blocks (10.2, 12.4). -/
def imageCovered (c : CellBlock) (blocks : Vector (Option StationBlock) 8) : List Byte :=
  let st := imageStations c blocks
  formatMark ++ be2 (32 + st.length) ++ cellBytes c ++ st

/-- The image a store writes. -/
def imageBytes (c : CellBlock) (blocks : Vector (Option StationBlock) 8) : List Byte :=
  imageCovered c blocks ++ crcBytes (imageCovered c blocks)

end Sys2Proof.Machine
end

