-- ==== Sys2Proof/Machine/Defaults.lean ====
section
/-! DEFINITION. What each block holds after a full reset, before the load (R23, R44, R80, R92, R114, R137, R153, R167, R181,
R182, R183, R195, R208). -/

namespace Sys2Proof.Machine

/-- A station of the drive link controller after a full reset (R23). -/
def resetLinkStation : LinkStation :=
  { outA := none, outB := none, repA := none, repB := none, obs := none, streakA := 0, streakB := 0, waiting := [],
    outstanding := none }

/-- The drive link controller after a full reset (R23). -/
def resetLink : Link :=
  { running := false, counter := 63, st := Vector.replicate 8 resetLinkStation, pointer := 7, sync := none }

/-- The virtual axle generator after a full reset (R44). V_LIMIT waits for the load. DESIGN CHOICE (log 6), unsafe: 0. -/
def resetAxle : Axle :=
  { v := 0, whole := 0, frac := 0, grade := 0, adv := 0, fSum := 0, fRoad := 0, fGrade := 0, fNet := 0, vLimit := 0 }

/-- An axle summary after a reset (R92). -/
def resetSummary : Summary := { contributors := 0, force := 0, participants := 0, mean := none }

/-- The wind-up monitor after a full reset and a run reset (R92, R93). -/
def resetMonitor : Monitor :=
  { part := 0, surface := Vector.replicate 8 none, cross := Vector.replicate 8 none, spread := none, mean := none,
    leading := none, trailing := none, timer := 0, warn := false, summaries := Vector.replicate 4 resetSummary }

/-- The profile player after a full reset and a run reset (R114, R115). -/
def resetPlayer : Player :=
  { active := none, waiting := [], mode := .empty, point := 0, elapsed := 0, start := 0, speed := 0, clock := 0,
    phase := none, phaseTol := 0, excursion := 0, raised := false, ended := none, lastTag := none }

/-- The run controller after power-up (R137). -/
def resetRun : Run :=
  { op := .loading, tag := 0, mode := .road, count := 0, countEnable := false, stopCause := none, orderly := false,
    settleCount := 0, settleTimer := 0, reason := .power, stay := false, fresh := false }

/-- The fault manager after a full reset (R153). -/
def resetFaults : Faults := { entries := [], overflow := false, reaction := .none, silence := 0 }

/-- The event table after a full reset (R167). -/
def resetEvents : Events := { entries := Vector.replicate 16 none, markPending := false }

/-- A counter after a full reset (R181). -/
def resetCounter : Counter :=
  { enable := false, station := none, lane := .either, slot := [], slip := false, trimSat := false, accumulate := false,
    working := 0, published := 0, saturated := false, lost := false }

/-- A watch after a full reset (R181). -/
def resetWatch : Watch := { station := none, aEven := none, aOdd := none, bEven := none, bOdd := none, lost := false }

/-- The snapshot after a full reset and a run reset (R175). -/
def resetSnapshot : Snapshot := { values := Vector.replicate 4 0, entry := none, taken := 0 }

/-- The statistics unit after a full reset (R181). -/
def resetStats : Stats :=
  { counters := Vector.replicate 4 resetCounter, watches := Vector.replicate 4 resetWatch, snap := resetSnapshot }

/-- The trace buffer after a full reset (R182). -/
def resetTrace : Trace :=
  { mask := 0, decimation := 1, overwrite := false, enable := false, records := [], fullReported := false,
    waiting := false, lost := 0 }

/-- The commissioning store after a full reset: UNLOCKED and empty (R191, R186). DESIGN CHOICE (log 9), unsafe: the load
outcome reads BLANK until the load completes. -/
def resetStore : Store :=
  { cell := none, blocks := Vector.replicate 8 none, locked := false, outcome := .blank, storing := false }

/-- The run parameter defaults (10.4, R195). DEDUCED (log 12), unsafe: MASS is 400 until the load sets it. -/
def resetParams : Params :=
  { kp := 256, kx := 0, trimMax := 25600, lockWindow := 64, slipWindow := 512, slipTime := 2000, captureWindow := 512,
    captureCycles := 32, captureLimit := 4000, missLimit := 4, jumpLimit := 4096, accelLimit := 300, tolBand := 200,
    tolTime := 1000, underrunStop := false, reportLevel := 3, countEnable := false, a := 0, b := 0, c := 0, mass := 400,
    circTrim := Vector.replicate 8 0 }

/-- The values in force before the first computation: the defaults. -/
def resetInForce : InForce := { tolBand := 200, tolTime := 1000, underrunStop := false, countEnable := false }

/-- The port after a full reset with the straps' rate (R208). -/
def resetPort (rate : Nat) : Port :=
  { rate := rate, receiving := false, requests := [], serving := false, replies := [], reports := [], lost := 0,
    discards := 0, refusals := 0, tx := .idle, fullReset := none }

/-- The lines at State.reset. DESIGN CHOICE (log 5), unsafe: ESTOP released and RESET high. -/
def resetPins : Pins := { estop := false, driveEnable := false, marker := false, resetHeld := false }

end Sys2Proof.Machine
end

