-- ==== Sys2Proof/Machine/State.lean ====
section
/-! DEFINITION. The state of the part: every block's state, the discrete lines, the commissioning memory, and the queue of
waiting commands. Plain data. -/

namespace Sys2Proof.Machine

/-- No command of this part stops the machine: an access outside the commissioning memory does not occur, and the manual's
faults are entries of the fault list. Safe: nothing raises one. -/
inductive Fault where
deriving DecidableEq, Repr

/-- Why a command has no meaning. -/
inductive Refusal where
  /-- Raised by an arm of exec whose command has no meaning yet; no arm of this model uses it. Safe. -/
  | notModelled (mnemonic : String)
deriving DecidableEq, Repr

/-- Everything the part holds (Block overview, 00_scope.md). `pending` is the queue of commands that wait, first in, first
out; `free` counts the open orders taken so far (log 4). -/
structure State where
  pending  : List Instr
  pins     : Pins
  link     : Link
  axle     : Axle
  stations : Vector (Option StationRec) 8
  monitor  : Monitor
  comp     : Option Computation
  player   : Player
  run      : Run
  faults   : Faults
  events   : Events
  stats    : Stats
  trace    : Trace
  store    : Store
  params   : Params
  inForce  : InForce
  port     : Port
  mem      : Memory
  memCut   : Bool
  free     : Nat
deriving DecidableEq, Repr

/-- The part after power-up: LOADING, every block at its full-reset values, no command waiting. DESIGN CHOICE (log 5, 10,
11), unsafe: both straps low, ESTOP released, and a blank commissioning memory. -/
def State.reset : State :=
  { pending := [], pins := resetPins, link := resetLink, axle := resetAxle, stations := Vector.replicate 8 none,
    monitor := resetMonitor, comp := none, player := resetPlayer, run := resetRun, faults := resetFaults,
    events := resetEvents, stats := resetStats, trace := resetTrace, store := resetStore, params := resetParams,
    inForce := resetInForce, port := resetPort 1, mem := [], memCut := false, free := 0 }

end Sys2Proof.Machine
end

