-- ==== Sys2Proof/WellFormed.lean ====
section
/-! DEFINITION. Which commands the outside can give: every operand fits the width its layout gives it (12.2, 12.3). The
meanings are total and do not ask for it. -/

namespace Sys2Proof

/-- Fits an unsigned field of one byte. -/
def fits8 (n : Nat) : Bool := n < 256

/-- Fits an unsigned field of two bytes. -/
def fits16 (n : Nat) : Bool := n < 65536

/-- Fits an unsigned field of four bytes. -/
def fits32 (n : Nat) : Bool := n < 4294967296

/-- Fits a signed field of four bytes. -/
def fitsS32 (i : Int) : Bool := -2147483648 ≤ i && i < 2147483648

/-- Fits a signed field of two bytes. -/
def fitsS16 (i : Int) : Bool := -32768 ≤ i && i < 32768

/-- The widths of the cell block's fields (12.4). -/
def CellBlock.fits (c : CellBlock) : Bool :=
  fits16 c.period && fits16 c.vmax && fits16 c.stopDecel && fits32 c.massMin && fits32 c.massMax &&
    fits32 c.windupLimit && fits16 c.windupTime && fits8 c.linkLostLimit && fits16 c.settleCount

/-- The widths of the station block's fields (12.4). -/
def RawStation.fits (b : RawStation) : Bool :=
  fits8 b.axle && fits8 b.side && fits32 b.cpr && fits32 b.circ && fits8 b.lanes && fits8 b.direction

/-- The widths of a segment's fields; a body of at most 1,024 bytes holds at most 254 points (12.2). -/
def Segment.fits (s : Segment) : Bool :=
  fits16 s.tag && fitsS16 s.grade && s.phase.all fits8 && decide (s.points.length ≤ 254) &&
    s.points.all (fun p => fits16 p.duration && fits16 p.speed)

/-- The widths of a trigger's values; `other` stands for a kind outside its set (12.2). -/
def TriggerArg.fits : TriggerArg → Bool
  | .cycle v m => fits8 v && fits8 m
  | .distance s p => fits32 s && fits32 p
  | .traceTime t => fits32 t
  | .other k => 3 ≤ k && fits8 k

/-- The widths of CLEAR_EVENTS' body; `other` stands for a selector outside its set. -/
def ClearArg.fits : ClearArg → Bool
  | .tag t => fits8 t
  | .all => true
  | .other k => 2 ≤ k && fits8 k

/-- The widths of SET_COUNTER's fields. -/
def CounterArg.fits (c : CounterArg) : Bool :=
  fits8 c.number && fits8 c.enable && fits8 c.station && fits8 c.lane && fits8 c.slot && fits8 c.lock && fits8 c.acc

/-- The kinds 0x01 to 0x1E are the request kinds (12.2). -/
def isRequestKind (k : Byte) : Bool := 1 ≤ k.toNat && k.toNat ≤ 30

/-- The length of the image a store writes is at most 136 bytes, written in at most 140 byte writes (R190, R213, 12.4). -/
def maxStoreWrites : Nat := 140

/-- The command is one the outside can give. -/
def Instr.wf : Instr → Bool
  | .powerUp _ (.writing n) => n ≤ maxStoreWrites
  | .resetLineLow (.writing n) => n ≤ maxStoreWrites
  | .storeCompletion (.failed left) => left.length ≤ 136
  | .recordReceived r => r.body.length ≤ 1024
  | .badKind k _ => !isRequestKind k
  | .getStation _ n => fits8 n
  | .commissionCell _ c => c.fits
  | .commissionStationWrite _ n b => fits8 n && b.fits
  | .commissionStationClear _ n => fits8 n
  | .setParam _ i v => fits8 i && fitsS32 v
  | .getParam _ i => fits8 i
  | .setRoadLoad _ a b c m => fits32 a && fits32 b && fits32 c && fits32 m
  | .appendSegment _ s => s.fits
  | .startRun _ m t _ c => fits8 m && fits8 t && fits8 c
  | .addEvent _ t a r p => t.fits && fits8 a && fits8 r && fits8 p
  | .modifyEvent _ n t => fits8 n && t.fits
  | .removeEvent _ n => fits8 n
  | .clearEvents _ s => s.fits
  | .setCounter _ c => c.fits
  | .setWatch _ n s => fits8 n && fits8 s
  | .setTrace _ _ d p e => fits16 d && fits8 p && fits8 e
  | .readTrace _ m => fits16 m
  | .service _ s o i v => fits8 s && fits8 o && fits16 i && fitsS32 v
  | .resetFull _ m s => fits8 m && fits8 s
  | .resetRunImmediate _ s => fits8 s
  | .resetRunOrderly _ s => fits8 s
  | .powerUp _ .readBack => true
  | .resetLineLow .readBack => true
  | .storeCompletion .stored => true
  | .resetLineHigh _ => true
  | .estopAsserted => true
  | .estopReleased => true
  | .loadCompletion _ => true
  | .fullReset _ => true
  | .cycleStart => true
  | .slotEnd _ _ _ => true
  | .cycleClose => true
  | .cycleComputationCompletion => true
  | .markerPulseEnd => true
  | .receptionTimeout => true
  | .lineFramingError => true
  | .transmitComplete => true
  | .getStatus _ => true
  | .storeCommissioning _ => true
  | .leaveConfig _ => true
  | .discardSegments _ => true
  | .stopRun _ => true
  | .releaseHoldContinue _ => true
  | .releaseHoldRepeat _ => true
  | .releaseHoldFinish _ => true
  | .engage _ _ => true
  | .release _ _ => true
  | .recapture _ _ => true
  | .readCounters _ => true
  | .readFaults _ => true
  | .clearFault _ => true
  | .serviceTimeout _ => true
  | .settled => true
  | .settleFail => true
  | .linkLost => true
  | .windup => true
  | .slipTimerExpiry _ => true
  | .captureFail _ => true
  | .stationLost _ _ => true
  | .laneDegraded _ _ => true
  | .tolerance => true
  | .captured _ => true
  | .startByte => true
  | .bodyLengthAboveLimit => true

end Sys2Proof
end

