-- ==== Sys2Proof/Machine/Operands.lean ====
section
/-! DEFINITION. Reading what comes in: request bodies (12.2), station reports (12.3), the commissioning image (12.4, R213),
and the range checks of the structural values (R183). -/

namespace Sys2Proof.Machine

/-! ### Structural values -/

/-- n lies within lo to hi. -/
def within (lo hi n : Nat) : Bool := lo ≤ n && n ≤ hi

/-- Every field of a cell block lies within its range or set, MASS_MAX is not below MASS_MIN, and the station mask is not
empty (R183, R187). -/
def cellInRange (c : CellBlock) : Bool :=
  (c.period == 250 || c.period == 500 || c.period == 1000) && c.mask != 0 && within 100 20000 c.vmax &&
    within 1 1000 c.stopDecel && within 400 80000 c.massMin && within 400 80000 c.massMax && c.massMin ≤ c.massMax &&
    within 100 1000000 c.windupLimit && within 1 1000 c.windupTime && within 2 64 c.linkLostLimit &&
    within 16 1024 c.settleCount

/-- The side of a code. -/
def sideOf : Nat → Option Side
  | 0 => some .left
  | 1 => some .right
  | _ => none

/-- The lanes of a code. -/
def lanesOf : Nat → Option LaneUse
  | 1 => some .a
  | 2 => some .b
  | 3 => some .ab
  | _ => none

/-- The direction of a code. -/
def directionOf : Nat → Option Direction
  | 0 => some .normal
  | 1 => some .inverted
  | _ => none

/-- A station block whose fields lie within their ranges and sets (R46, R188), otherwise none. -/
def parseStation (b : RawStation) : Option StationBlock :=
  if h : b.axle < 4 then
    match sideOf b.side, lanesOf b.lanes, directionOf b.direction with
    | some s, some l, some d =>
      if within 4096 262144 b.cpr && within 400000 5000000 b.circ then
        some { axle := ⟨b.axle, h⟩, side := s, cpr := b.cpr, circ := b.circ, lanes := l, direction := d }
      else none
    | _, _, _ => none
  else none

/-- A cell block from its 24 bytes (12.4). -/
def cellAt (b : List Byte) (off : Nat) : CellBlock :=
  { period := fieldAt b off 2, mask := BitVec.ofNat 8 (fieldAt b (off + 2) 1), vmax := fieldAt b (off + 3) 2,
    stopDecel := fieldAt b (off + 5) 2, massMin := fieldAt b (off + 7) 4, massMax := fieldAt b (off + 11) 4,
    windupLimit := fieldAt b (off + 15) 4, windupTime := fieldAt b (off + 19) 2, linkLostLimit := fieldAt b (off + 21) 1,
    settleCount := fieldAt b (off + 22) 2 }

/-- A station block's twelve bytes from its axle field onward (12.2, 12.4). -/
def rawStationAt (b : List Byte) (off : Nat) : RawStation :=
  { axle := fieldAt b off 1, side := fieldAt b (off + 1) 1, cpr := fieldAt b (off + 2) 4, circ := fieldAt b (off + 6) 4,
    lanes := fieldAt b (off + 10) 1, direction := fieldAt b (off + 11) 1 }

/-- A block held for a station other than n has the axle and side of b (R188). -/
def duplicatePosition (blocks : Vector (Option StationBlock) 8) (n : Station) (b : StationBlock) : Bool :=
  stationList.any fun m =>
    m != n && (match blocks[m] with | some x => x.axle == b.axle && x.side == b.side | none => false)

/-! ### Station reports (R6, R211, 12.3) -/

/-- The drive state of a code. -/
def driveOf : Nat → Option DriveState
  | 1 => some .ready
  | 2 => some .running
  | 3 => some .tripped
  | _ => none

/-- The service response of a report: none where a code lies outside its set; some none where it is absent, its bytes not
examined (R211). -/
def responseAt (b : List Byte) : Option (Option ServiceResponse) :=
  match fieldAt b 13 1, fieldAt b 14 1 with
  | 0, _ => some none
  | 1, 1 => some (some { ok := true, index := fieldAt b 15 2, value := signed4At b 17 })
  | 1, 2 => some (some { ok := false, index := fieldAt b 15 2, value := signed4At b 17 })
  | _, _ => none

/-- The report in exactly one complete, correct frame; none is SYNTAX (R6, 12.3). -/
def decodeReport (b : List Byte) : Option StationReport :=
  if b.length = 23 ∧ slice b 21 2 = crcBytes (b.take 21) ∧ fieldAt b 0 1 = 0x3A then
    match driveOf (fieldAt b 11 1), responseAt b with
    | some d, some r =>
      some { station := fieldAt b 1 1, echo := fieldAt b 2 1, count := BitVec.ofNat 32 (fieldAt b 3 4),
             force := signed4At b 7, drive := d, trip := fieldAt b 12 1, response := r }
    | _, _ => none
  else none

/-- The outcome of one lane at a slot end, with the report of a VALID lane: the first test of R6 that holds. -/
def laneOutcome (slot : Station) (counter : BitVec 6) : Reception → LaneOutcome × Option StationReport
  | .nothing => (.silent, none)
  | .late => (.late, none)
  | .bytes b =>
    if b = [] then (.silent, none)
    else match decodeReport b with
      | none => (.malformed, none)
      | some r =>
        if r.station = slot.val ∧ r.echo = counter.toNat then (.valid, some r) else (.content, none)

/-! ### Request bodies (12.2) -/

/-- The request of a body that must have this length (R200). -/
def ofLength (len : Nat) (b : List Byte) (r : Request) : Request := if b.length = len then r else .badLength

/-- The points of a segment, four bytes each. -/
def decodePoints : List Byte → List Point
  | a :: b :: c :: d :: rest => { duration := beNat [a, b], speed := beNat [c, d] } :: decodePoints rest
  | _ => []

/-- The segment of an APPEND_SEGMENT body. -/
def decodeSegment (b : List Byte) : Segment :=
  let f := fieldAt b 2 1
  { tag := fieldAt b 0 2, last := f.testBit 0, holdAtEnd := f.testBit 1,
    phase := if f.testBit 2 then some (fieldAt b 3 1) else none, grade := signed2At b 4, points := decodePoints (b.drop 7) }

/-- Trigger kind and eight bytes of values; bytes not named are not read. -/
def decodeTrigger (b : List Byte) (off : Nat) : TriggerArg :=
  match fieldAt b off 1 with
  | 0 => .cycle (fieldAt b (off + 1) 1) (fieldAt b (off + 2) 1)
  | 1 => .distance (fieldAt b (off + 1) 4) (fieldAt b (off + 5) 4)
  | 2 => .traceTime (fieldAt b (off + 1) 4)
  | k => .other k

/-- The body of COMMISSION_STATION: its length follows from its action. An action outside its set goes to R188 whatever the
body's length (R200, R211; DEDUCED, log 15). -/
def decodeCommissionStation (b : List Byte) : Request :=
  if b = [] then .badLength
  else match fieldAt b 0 1 with
    | 1 => ofLength 14 b (.commissionWrite (fieldAt b 1 1) (rawStationAt b 2))
    | 2 => ofLength 2 b (.commissionClear (fieldAt b 1 1))
    | _ => .commissionOther

/-- The selector of CLEAR_EVENTS. -/
def decodeClear (b : List Byte) : ClearArg :=
  match fieldAt b 0 1 with
  | 0 => .tag (fieldAt b 1 1)
  | 1 => .all
  | k => .other k

/-- The action of RELEASE_HOLD. -/
def decodeHold (b : List Byte) : HoldAction :=
  match fieldAt b 0 1 with
  | 0 => .goOn
  | 1 => .again
  | 2 => .finish
  | k => .other k

/-- The request of a record's kind and body: steps 1 and 2 of R200 with the lengths of 12.2. -/
def decodeRequest (kind : Byte) (b : List Byte) : Request :=
  match kind.toNat with
  | 0x01 => ofLength 0 b .getStatus
  | 0x02 => ofLength 1 b (.getStation (fieldAt b 0 1))
  | 0x03 => ofLength 24 b (.commissionCell (cellAt b 0))
  | 0x04 => decodeCommissionStation b
  | 0x05 => ofLength 0 b .storeCommissioning
  | 0x06 => ofLength 0 b .leaveConfig
  | 0x07 => ofLength 5 b (.setParam (fieldAt b 0 1) (signed4At b 1))
  | 0x08 => ofLength 1 b (.getParam (fieldAt b 0 1))
  | 0x09 => ofLength 16 b (.setRoadLoad (fieldAt b 0 4) (fieldAt b 4 4) (fieldAt b 8 4) (fieldAt b 12 4))
  | 0x0A => if 7 ≤ b.length then ofLength (7 + 4 * fieldAt b 6 1) b (.appendSegment (decodeSegment b)) else .badLength
  | 0x0B => ofLength 0 b .discardSegments
  | 0x0C => ofLength 4 b (.startRun (fieldAt b 0 1) (fieldAt b 1 1) (BitVec.ofNat 8 (fieldAt b 2 1)) (fieldAt b 3 1))
  | 0x0D => ofLength 0 b .stopRun
  | 0x0E => ofLength 1 b (.releaseHold (decodeHold b))
  | 0x0F => ofLength 1 b (.engage (BitVec.ofNat 8 (fieldAt b 0 1)))
  | 0x10 => ofLength 1 b (.release (BitVec.ofNat 8 (fieldAt b 0 1)))
  | 0x11 => ofLength 1 b (.recapture (BitVec.ofNat 8 (fieldAt b 0 1)))
  | 0x12 => ofLength 12 b (.addEvent (decodeTrigger b 0) (fieldAt b 9 1) (fieldAt b 10 1) (fieldAt b 11 1))
  | 0x13 => ofLength 10 b (.modifyEvent (fieldAt b 0 1) (decodeTrigger b 1))
  | 0x14 => ofLength 1 b (.removeEvent (fieldAt b 0 1))
  | 0x15 => ofLength 2 b (.clearEvents (decodeClear b))
  | 0x16 => ofLength 7 b (.setCounter ⟨fieldAt b 0 1, fieldAt b 1 1, fieldAt b 2 1, fieldAt b 3 1, fieldAt b 4 1,
      fieldAt b 5 1, fieldAt b 6 1⟩)
  | 0x17 => ofLength 2 b (.setWatch (fieldAt b 0 1) (fieldAt b 1 1))
  | 0x18 => ofLength 0 b .readCounters
  | 0x19 => ofLength 5 b (.setTrace (BitVec.ofNat 8 (fieldAt b 0 1)) (fieldAt b 1 2) (fieldAt b 3 1) (fieldAt b 4 1))
  | 0x1A => ofLength 2 b (.readTrace (fieldAt b 0 2))
  | 0x1B => ofLength 0 b .readFaults
  | 0x1C => ofLength 0 b .clearFault
  | 0x1D => ofLength 8 b (.service (fieldAt b 0 1) (fieldAt b 1 1) (fieldAt b 2 2) (signed4At b 4))
  | 0x1E => ofLength 3 b (.reset (fieldAt b 0 1) (fieldAt b 1 1) (fieldAt b 2 1))
  | _ => .badKind

/-- The CRC of a record holds (R197, R210). -/
def recordCrcHolds (r : Record) : Bool := crc16 (recordCovered r.kind r.tag r.body) == r.crc

/-! ### The image at load (R185, R213) -/

/-- The byte at an address: 0xFF where the memory lists none. DESIGN CHOICE (log 10), unsafe. -/
def blankByte : Byte := 255#8

/-- One byte of the commissioning memory. -/
def memRead : Memory → Nat → Byte
  | [], _ => blankByte
  | (a, b) :: rest, x => if x = a then b else memRead rest x

/-- Bytes of the memory from an address on; a memory that does not answer reads as all ones (R185). -/
def memBytes (answers : Bool) (m : Memory) (off len : Nat) : List Byte :=
  (List.range len).map fun i => if answers then memRead m (off + i) else 255#8

/-- Station numbers in strictly ascending order. -/
def ascending : List Nat → Bool
  | a :: b :: rest => a < b && ascending (b :: rest)
  | _ => true

/-- The image's station blocks: number and fields, 13 bytes each. -/
def imageBlocks (b : List Byte) : List (Nat × RawStation) :=
  (List.range ((b.length - 30) / 13)).map fun i => (fieldAt b (30 + 13 * i) 1, rawStationAt b (31 + 13 * i))

/-- The block the image holds for a station, if in range. -/
def imageBlock (l : List (Nat × RawStation)) (n : Station) : Option StationBlock :=
  match l.find? (fun p => p.1 == n.val) with
  | some p => parseStation p.2
  | none => none

/-- The working set of an image whose check holds (`b` is the image without its CRC); none is OUT_OF_RANGE (R185 test 3,
R213). -/
def imageSet (b : List Byte) : Option (CellBlock × Vector (Option StationBlock) 8) :=
  let c := cellAt b 6
  let l := imageBlocks b
  let blocks := ofEight (fun n => imageBlock l n)
  if (b.length - 30) % 13 = 0 && cellInRange c && l.length == (stationList.filter (inMask c.mask)).length &&
      ascending (l.map Prod.fst) && l.all (fun p => p.1 < 8 && c.mask.getLsbD p.1 && (parseStation p.2).isSome) &&
      stationList.all (fun n => match blocks[n] with | some x => !duplicatePosition blocks n x | none => true)
  then some (c, blocks) else none

/-- The load outcome with the working set of a VALID one: the first test of R185 that holds, read as R213 says, the format mark
first. An image that a cut store left fails its check (R135, R190; DESIGN CHOICE, log 11). -/
def loadImage (answers : Bool) (m : Memory) (cut : Bool) :
    LoadOutcome × Option (CellBlock × Vector (Option StationBlock) 8) :=
  if memBytes answers m 0 4 ≠ formatMark then (.blank, none)
  else
    let len := beNat (memBytes answers m 4 2)
    if len < 32 ∨ 8192 < len then (.checkFailed, none)
    else
      let b := memBytes answers m 0 (len - 2)
      if cut = true ∨ memBytes answers m (len - 2) 2 ≠ crcBytes b then (.checkFailed, none)
      else match imageSet b with
        | some w => (.valid, some w)
        | none => (.outOfRange, none)

end Sys2Proof.Machine
end

