-- ==== Sys2Proof/Machine/Flags.lean ====
section
/-! DEFINITION. The conditions the rules test and the masks and flags they form from the state. -/

namespace Sys2Proof.Machine

/-- The cell block in force; the link runs only with one held (R120, R191). -/
def State.cell (s : State) : CellBlock :=
  s.store.cell.getD
    { period := 0, mask := 0, vmax := 0, stopDecel := 0, massMin := 0, massMax := 0, windupLimit := 0, windupTime := 0,
      linkLostLimit := 0, settleCount := 0 }

/-- T in µs. -/
def State.period (s : State) : Int := (s.cell.period : Int)

/-- The station has a station record: it is commissioned (R46, R183). -/
def State.has (s : State) (n : Station) : Bool := s.stations[n].isSome

/-- A mask names a station with no station record. -/
def State.namesUnknown (s : State) (m : Mask) : Bool := stationList.any fun n => inMask m n && !s.has n

/-- The states in which the drive link runs (R1). -/
def OpState.running : OpState → Bool
  | .settle => true | .ready => true | .run => true | .stopping => true | .safe => true | _ => false

/-- RUN or STOPPING: a run is in progress. -/
def OpState.inRun : OpState → Bool
  | .run => true | .stopping => true | _ => false

/-- DRIVE_ENABLE is asserted only in READY, RUN and STOPPING (R117). -/
def OpState.enables : OpState → Bool
  | .ready => true | .run => true | .stopping => true | _ => false

/-- The states in which an asserted ESTOP line raises ESTOP (R131). -/
def OpState.watchesEstop : OpState → Bool
  | .settle => true | .ready => true | .run => true | .stopping => true | _ => false

/-- The station follows the axle or is being captured (R77). -/
def LockState.engaged : LockState → Bool
  | .capture => true | .locked => true | .slip => true | _ => false

/-- The station is geared to the axle (R58). -/
def LockState.geared : LockState → Bool
  | .locked => true | .slip => true | _ => false

/-- The observation is valid (R7). -/
def Observation.isValid : Observation → Bool
  | .valid _ _ _ _ _ => true | _ => false

/-- The station's last observation was valid. -/
def State.lastValid (s : State) (n : Station) : Bool := (s.link.st[n].obs.map Observation.isValid).getD false

/-- Every commissioned station's observation is valid (R121). -/
def State.allValid (s : State) : Bool := stationList.all fun n => !s.has n || s.lastValid n

/-- No commissioned station's observation is valid (R149). -/
def State.noneValid (s : State) : Bool := stationList.all fun n => !s.has n || !s.lastValid n

/-- The commissioned stations whose observation was invalid (R121). -/
def State.invalidMask (s : State) : Mask := maskOf fun n => s.has n && !s.lastValid n

/-- The observation of this computation was accepted: its judgement stands from the judging stage (R49). -/
def StationRec.accepted (r : StationRec) : Bool := r.judgement == some .accepted

/-- The first missing item of the working set, none when it is complete (R184). -/
def State.missing (s : State) : Option MissingItem :=
  match s.store.cell with
  | none => some .cell
  | some c => (stationList.find? fun n => inMask c.mask n && s.store.blocks[n].isNone).map .station

/-- The severity test of R140. -/
def Reaction.accepts (r : Reaction) : Nat → Bool
  | 1 => true
  | 2 => r == .none || r == .three
  | 3 => r == .none
  | _ => false

/-- The reaction level an accepted fault sets (R140). -/
def Reaction.ofLevel : Nat → Reaction
  | 1 => .one
  | 2 => .two
  | 3 => .three
  | _ => .none

/-- The display speed of a virtual speed: V × 9 / (65,536 × 25 × T), truncated toward zero (R26). -/
def displaySpeed (v period : Int) : Int := (v * 9).tdiv (65536 * 25 * period)

/-- A speed in 0.01 km/h in the unit of V: v × 25 × T × 65,536 / 9, rounded to nearest (R27, R39). -/
def axleSpeed (v period : Int) : Int := roundDiv (v * 25 * period * 65536) 9

/-- C_nm: CIRC_um × (1,000,000 + trim) / 1,000, rounded to nearest (R47). -/
def effectiveCirc (circ : Nat) (ppm : Int) : Int := roundDiv ((circ : Int) * (1000000 + ppm)) 1000

/-- The virtual distance in mm, truncated toward zero (R42, R155). -/
def State.distanceMm (s : State) : Int := s.axle.whole.tdiv 1000000

/-! ### What the last completion left

Between a cycle close and its completion the replies show what the computation in progress changes as the computation before
left it, and everything else as it stands (R43, R79, R91, R206; log 7). -/

/-- The axle as the last completion left it. What other commands do to it shows at once: the grade of a segment start, the
zeros of START_RUN, the speed 0 of an entry to SAFE. -/
def State.axleSeen (s : State) : Axle :=
  match s.comp with
  | some c =>
    if c.began.inRun then
      { c.axleBefore with v := if c.void then s.axle.v else c.axleBefore.v, grade := s.axle.grade }
    else { s.axle with adv := c.axleBefore.adv }
  | none => s.axle

/-- The wind-up monitor as the last completion left it (R91). -/
def State.monitorSeen (s : State) : Monitor :=
  match s.comp with | some c => c.monitorBefore | none => s.monitor

/-- The fault manager without the raises of the computation in progress (R152, R206). -/
def State.faultsSeen (s : State) : Faults :=
  match s.comp with | some c => { c.faultsBefore with silence := s.faults.silence } | none => s.faults

/-- The player before the stop that the computation in progress made, while the part is still in that STOPPING. -/
def State.stopInProgress (s : State) : Option Player :=
  if s.run.op = .stopping then s.comp.bind Computation.stopped else none

/-- The run controller without the entry to STOPPING of the computation in progress (R136, R206). -/
def State.runSeen (s : State) : Run :=
  match s.stopInProgress with | some _ => { s.run with op := .run, stopCause := none } | none => s.run

/-- The profile player without the stop of the computation in progress (R112, R206). -/
def State.playerSeen (s : State) : Player :=
  match s.stopInProgress with
  | some y => { s.player with active := y.active, mode := y.mode, ended := y.ended }
  | none => s.player

/-- A station's record as the last completed computation or a later request left it (R79): while a computation is in progress,
what the one before left with the values that requests and line events have set since (updateSeen, settleValues; log 7). -/
def State.stationSeen (s : State) (n : Station) : Option StationRec :=
  match s.comp with
  | some c => c.recordsBefore[n]
  | none => s.stations[n]

/-- The command a FAULTED station is given (R72). -/
def faultCommandOf (op : OpState) : Option StationCause → Command
  | some .slipTime => if op.inRun then .follow else .torqueOff
  | some .errorClamp => if op.inRun then .follow else .torqueOff
  | some .captureFail => if op.inRun then .follow else .torqueOff
  | _ => .torqueOff

end Sys2Proof.Machine
end

