-- ==== Sys2Proof/Machine/Ops.lean ====
section
/-! DEFINITION. The operations the blocks share: writing the commissioning memory, submitting reports, moving stations,
entering SAFE, STOPPING and SETTLE, raising a fault, the run reset's common parts. -/

namespace Sys2Proof.Machine

/-! ### The commissioning memory -/

/-- One byte written, keeping the canonical form: addresses rise, and no entry equals what an unlisted address reads as. -/
def memWrite : Memory → Nat → Byte → Memory
  | [], a, b => if b = blankByte then [] else [(a, b)]
  | (x, y) :: rest, a, b =>
    if a < x then (if b = blankByte then (x, y) :: rest else (a, b) :: (x, y) :: rest)
    else if a = x then (if b = blankByte then rest else (a, b) :: rest)
    else (x, y) :: memWrite rest a b

/-- Writes made in order. -/
def memWrites (m : Memory) (w : List (Nat × Byte)) : Memory := w.foldl (fun m p => memWrite m p.1 p.2) m

/-- The bytes with their addresses from an offset on. -/
def placed (off : Nat) : List Byte → List (Nat × Byte)
  | [] => []
  | b :: rest => (off, b) :: placed (off + 1) rest

/-- Every entry above an address and none equal to the blank byte, addresses rising, all below 8,192. -/
def memWfFrom (lo : Nat) : Memory → Bool
  | [] => true
  | (a, b) :: rest => lo ≤ a && a < 8192 && b != blankByte && memWfFrom (a + 1) rest

/-- The canonical form of the commissioning memory. -/
def Memory.wf (m : Memory) : Bool := memWfFrom 0 m

/-- The byte writes of a store in order: the check field with the inverse CRC, the image before its CRC, the CRC (R190,
R213). -/
def storeWrites (c : CellBlock) (blocks : Vector (Option StationBlock) 8) : List (Nat × Byte) :=
  let b := imageCovered c blocks
  placed b.length ((crcBytes b).map (fun x => ~~~x)) ++ placed 0 b ++ placed b.length (crcBytes b)

/-! ### Reports (R203, R204) -/

/-- A report submitted: passed over above REPORT_LEVEL, queued with the lost count, or dropped and counted (R203). -/
def submit (body : ReportBody) (s : State) : State :=
  if s.params.reportLevel < body.level then s
  else if s.port.reports.length < 32 then
    { s with port := { s.port with
        reports := s.port.reports ++ [{ lost := s.port.lost, count := s.run.count, op := s.run.op, body := body }]
        lost := 0 } }
  else { s with port := { s.port with lost := satAdd 255 s.port.lost 1 } }

/-- A STATE report for a change that has been made (R118). -/
def submitState (prev : OpState) (cause : StateCause) (kind : Option FaultKind) (cancelled : Bool) (s : State) : State :=
  submit (.state prev s.run.op cause kind s.run.tag s.run.mode s.run.orderly cancelled) s

/-- The change of lock state is made by a request (R62). A run reset leaves one summary either way. -/
def StationReason.byRequest : StationReason → Bool
  | .engage => true | .startRun => true | .recapture => true | .release => true | .clearFault => true | _ => false

/-- A STATION report (R62): position error and measured position after the change, the display speed of V (R26), and the axle's
summary as it stands, for a change by a request as the last completed computation left it (R90). DEDUCED (log 45): as it stands
after a cycle close is as that close's monitor stage formed it. -/
def submitStation (n : Station) (prev new : LockState) (reason : StationReason) (cause : Option StationCause)
    (e measured : Int) (axle : Fin 4) (s : State) : State :=
  submit (.station n prev new reason cause e measured (displaySpeed s.axleSeen.v s.period)
    (if reason.byRequest then s.monitorSeen else s.monitor).summaries[axle]) s

/-! ### Stations -/

/-- The record of a station replaced. -/
def setStation (n : Station) (r : StationRec) (s : State) : State := { s with stations := s.stations.set n (some r) }

/-- f applied to every station record in station-number order. -/
def eachStation (f : Station → StationRec → State → State) (s : State) : State :=
  stationList.foldl (fun s n => match s.stations[n] with | some r => f n r s | none => s) s

/-- A change f of a station's record made in what GET_STATION shows of it until the completion of a computation in progress
(R79; log 7). -/
def updateSeen (n : Station) (f : StationRec → StationRec) (s : State) : State :=
  { s with comp := s.comp.map fun k => { k with recordsBefore := k.recordsBefore.set n (k.recordsBefore[n].map f) } }

/-- A station with record r moved by f to another lock state with its STATION report (R62). GET_STATION shows the values f sets at
once, the demand as it stands after the move among them (R79). -/
def moveStation (n : Station) (r : StationRec) (f : StationRec → StationRec) (reason : StationReason) (s : State) : State :=
  let new := f r
  submitStation n r.state new.state reason (if new.state = .faulted then new.cause else none) new.e new.measured
    new.block.axle (updateSeen n (fun b => { f b with demand := new.demand }) (setStation n new s))

/-- The values of a station that leaves CAPTURE, LOCKED or SLIP for IDLE (R74, R77). DEDUCED (log 44): the trim-saturated flag
stays until the next demand assembly, which clears it (R60). -/
def StationRec.toIdle (r : StationRec) : StationRec :=
  { r with state := .idle, command := .torqueOff, demand := 0, trim := 0, e := 0, streak := 0, age := 0, slipTimer := 0 }

/-- The values of a station that enters CAPTURE from IDLE (R63, R64). -/
def StationRec.toCapture (r : StationRec) : StationRec :=
  { r with state := .capture, streak := 0, age := 0, e := 0, residue := 0, command := .follow, demand := r.ff }

/-- Every station in CAPTURE, LOCKED or SLIP to IDLE (R77). -/
def idleEngaged (reason : StationReason) (s : State) : State :=
  eachStation (fun n r s => if r.state.engaged then moveStation n r StationRec.toIdle reason s else s) s

/-! ### Profile player on leaving a run -/

/-- The segment queue emptied and the player EMPTY at run end and on entry to SAFE (R95, R113). -/
def Player.emptied (p : Player) : Player :=
  { p with active := none, waiting := [], mode := .empty, speed := 0, ended := none, excursion := 0, raised := false }

/-- Entry to ENDED: the active segment leaves the queue, and a PROFILE_END report is submitted (R109). -/
def playerEnd (reason : EndReason) (s : State) : State :=
  let s := { s with player := { s.player with active := none, mode := .ended, ended := some reason } }
  submit (.profileEnd reason s.player.lastTag s.player.clock) s

/-- Entry to STOPPING moves a player in PLAYING, HELD or UNDERRUN to ENDED with reason STOPPED (R109). -/
def playerStop (s : State) : State :=
  match s.player.mode with
  | .playing => playerEnd .stopped s
  | .held => playerEnd .stopped s
  | .underrun => playerEnd .stopped s
  | .ended => s
  | .empty => s

/-! ### Event table -/

/-- The entries kept by p. -/
def keepEvents (p : EventEntry → Bool) (v : Vector (Option EventEntry) 16) : Vector (Option EventEntry) 16 :=
  let f (x : Option EventEntry) : Option EventEntry := x.bind (fun e => if p e then some e else none)
  #v[f v[0], f v[1], f v[2], f v[3], f v[4], f v[5], f v[6], f v[7], f v[8], f v[9], f v[10], f v[11], f v[12], f v[13],
    f v[14], f v[15]]

/-- The non-persistent entries of the run's tag removed (R127, R129, R158). -/
def removeRunEvents (s : State) : State :=
  { s with events := { s.events with entries := keepEvents (fun e => e.persistent || e.runTag != s.run.tag) s.events.entries } }

/-- An entry at the start of a run: next mark at the start mark, TRACE_TIME armed (R158). -/
def EventEntry.rebase (e : EventEntry) : EventEntry :=
  match e.trigger with
  | .distance st p _ => { e with trigger := .distance st p st }
  | .traceTime _ => { e with armed := true }
  | .cycle _ _ => e

/-- Every entry re-based (R158). -/
def rebaseEvents (v : Vector (Option EventEntry) 16) : Vector (Option EventEntry) 16 :=
  let f (x : Option EventEntry) : Option EventEntry := x.map EventEntry.rebase
  #v[f v[0], f v[1], f v[2], f v[3], f v[4], f v[5], f v[6], f v[7], f v[8], f v[9], f v[10], f v[11], f v[12], f v[13],
    f v[14], f v[15]]

/-! ### Changes of the operating state -/

/-- SAFE entered within a computation that began in RUN or STOPPING: its V' and Δd are 0 and the distance is as it stood
before (R29). Its completion still comes, and finds the part in SAFE (R129). DESIGN CHOICE (log 39): the lock engine's results
of that computation, every ff and target, stay as formed, and so do the recorded force terms. -/
def voidComputation (s : State) : State :=
  match s.comp with
  | none => s
  | some c =>
    if c.began.inRun then
      { s with comp := some { c with void := true }
               axle := { s.axle with whole := c.axleBefore.whole, frac := c.axleBefore.frac, adv := 0 } }
    else s

/-- Entry to SAFE (R129), its effects in the order of the rule. -/
def enterSafe (kind : FaultKind) (s : State) : State :=
  let prev := s.run.op
  let s := { s with run := { s.run with op := .safe }, pins := { s.pins with driveEnable := false } }
  let s := voidComputation s
  let s := { s with axle := { s.axle with v := 0 } }
  let s := idleEngaged .safe s
  let s := { s with player := s.player.emptied }
  let s := if prev.inRun then removeRunEvents s else s
  let cancelled := s.run.orderly
  let s := { s with run := { s.run with countEnable := false, stopCause := none, orderly := false } }
  submitState prev .fault (some kind) cancelled s

/-- The STATE cause of a stop cause (R118, R126). -/
def StopCause.stateCause : StopCause → StateCause
  | .stopRun => .stopRun
  | .fault => .fault
  | .profileEnd => .profileEnd
  | .underrunStop => .underrunStop
  | .orderlyReset => .orderlyReset

/-- Entry to STOPPING from RUN (R126); in any other state nothing changes. -/
def enterStopping (cause : StopCause) (kind : Option FaultKind) (s : State) : State :=
  if s.run.op = .run then
    let s := { s with run := { s.run with op := .stopping, stopCause := some cause } }
    submitState .run cause.stateCause kind false (playerStop s)
  else s

/-- Every miss streak 0 (R80). -/
def missCleared (v : Vector (Option StationRec) 8) : Vector (Option StationRec) 8 :=
  mapEight (fun x => x.map (fun r => { r with miss := 0 })) v

/-- The values SETTLE is entered with: DRIVE_ENABLE deasserted (R117), V 0 (R29), settle count and timer 0 (R116), every
miss streak 0 (R80), also in what GET_STATION shows until the completion of a computation in progress (R79; log 7). -/
def settleValues (s : State) : State :=
  { s with
    run := { s.run with op := .settle, settleCount := 0, settleTimer := 0 }
    pins := { s.pins with driveEnable := false }
    axle := { s.axle with v := 0 }
    stations := missCleared s.stations
    comp := s.comp.map fun k => { k with recordsBefore := missCleared k.recordsBefore } }

/-- The drive link starts and the commissioning set locks, on entry to SETTLE from LOADING or CONFIG (R1, R191). -/
def startLink (s : State) : State :=
  { s with link := { s.link with running := true }, store := { s.store with locked := true } }

/-! ### Raising a fault (R139 to R148) -/

/-- The raise and the entry have the same identity (R144). -/
def FaultEntry.matches (e : FaultEntry) (f : Raise) : Bool :=
  e.kind == f.kind && e.station == f.station && e.lane == f.lane

/-- The entry after a repeat (R146). -/
def FaultEntry.again (e : FaultEntry) (f : Raise) (now : Word32) : FaultEntry :=
  { e with repeats := satAdd 255 e.repeats 1, lastAt := now, cause := f.cause, detail := f.detail }

/-- The list after a repeat, with the entry's position and repeat count; none where no entry has the raise's identity. -/
def repeatIn (f : Raise) (now : Word32) : Nat → List FaultEntry → Option (List FaultEntry × Nat × Nat)
  | _, [] => none
  | i, e :: rest =>
    if e.matches f then some (e.again f now :: rest, i, (e.again f now).repeats)
    else (repeatIn f now (i + 1) rest).map (fun p => (e :: p.1, p.2))

/-- A new entry (R145). -/
def newEntry (f : Raise) (now : Word32) (op : OpState) : FaultEntry :=
  { kind := f.kind, station := f.station, lane := f.lane, cause := f.cause, detail := f.detail, firstAt := now,
    lastAt := now, repeats := 1, state := op }

/-- Step 1 of R139: the fault manager after the record, with the position and repeat count of a stored raise. -/
def recordRaise (f : Raise) (now : Word32) (op : OpState) (m : Faults) : Faults × Option (Nat × Nat) :=
  match repeatIn f now 0 m.entries with
  | some p => ({ m with entries := p.1 }, some p.2)
  | none =>
    if m.entries.length < 8 then ({ m with entries := m.entries ++ [newEntry f now op] }, some (m.entries.length, 1))
    else ({ m with overflow := true }, none)

/-- The part-wide reaction to an accepted fault (R128, R130, R141). -/
def react (kind : FaultKind) (s : State) : State :=
  match kind.level with
  | 1 => if s.run.op.watchesEstop then enterSafe kind s else s
  | 2 => enterStopping .fault (some kind) s
  | _ => s

/-- The fault manager after a raise: recorded, and its reaction level decided (steps 1 and 3 of R139, R140). -/
def Faults.take (f : Raise) (now : Word32) (op : OpState) (m : Faults) : Faults :=
  { (recordRaise f now op m).1 with
    reaction := if m.reaction.accepts f.kind.level then Reaction.ofLevel f.kind.level else m.reaction }

/-- A change of the fault manager. Where it falls between a cycle close and its completion, the fault manager that GET_STATUS
shows until then changes with it (R206). -/
def updateFaults (g : Faults → Faults) (s : State) : State :=
  { s with faults := g s.faults, comp := s.comp.map fun k => { k with faultsBefore := g k.faultsBefore } }

/-- A raise taken whole: recorded, reported, decided (R139). -/
def raiseFault (f : Raise) (s : State) : State :=
  let stored := (recordRaise f s.run.count s.run.op s.faults).2
  let acc := s.faults.reaction.accepts f.kind.level
  let s := updateFaults (Faults.take f s.run.count s.run.op) s
  let s := submit (.fault f stored acc s.faults.reaction s.faults.overflow) s
  if acc then react f.kind s else s

/-- ESTOP asserted while the part is in SETTLE, READY, RUN or STOPPING raises ESTOP (R131). -/
def checkEstop (s : State) : State :=
  if s.pins.estop && s.run.op.watchesEstop then raiseFault { kind := .estop } s else s

/-! ### Answers -/

/-- A refusal or an answer with no fields. -/
def answer (st : Status) : Answer := { status := st, fields := [] }

/-- The answer OK with these fields. -/
def okWith (f : List Field) : Answer := { status := .ok, fields := f }

/-- The mask of stations as a reply's field. -/
def maskField (m : Mask) : Field := .u8 m.toNat

/-- A flag code is 0 or 1 (12.2). -/
def isFlag (n : Nat) : Bool := n == 0 || n == 1

end Sys2Proof.Machine
end

