-- ==== Sys2Proof/Machine/Stats.lean ====
section
/-! DEFINITION. The statistics unit: counters, publishing, slot watches, snapshot, SET_COUNTER, SET_WATCH, READ_COUNTERS
(09_slot_statistics_and_trace_capture.md, R168 to R175). -/

namespace Sys2Proof.Machine

/-- The counter numbers. -/
def counterList : List (Fin 4) := [0, 1, 2, 3]

/-- The counter counts (R169): its enable and one of the two part-wide enables, COUNT_ENABLE as in force. One whose station has
lost its record since its SET_COUNTER does not (R168). -/
def counting (s : State) (c : Counter) : Bool := c.enable && !c.lost && (s.inForce.countEnable || s.run.countEnable)

/-- The counter's station is n or ALL. -/
def Counter.selects (c : Counter) (n : Station) : Bool :=
  match c.station with | none => true | some m => m == n

/-- A counter after an addition (R172). -/
def Counter.add (c : Counter) (amount : Nat) : Counter :=
  if 65535 < c.working + amount then { c with working := 65535, saturated := true }
  else { c with working := c.working + amount }

/-- An addition to counter k; its first cut submits COUNTER_SATURATED (R172). -/
def addCount (k : Fin 4) (amount : Nat) (s : State) : State :=
  let c := s.stats.counters[k]
  let s' := { s with stats := { s.stats with counters := s.stats.counters.set k (c.add amount) } }
  if !c.saturated && (c.add amount).saturated then submit (.counterSaturated k c.station c.accumulate) s' else s'

/-- The outcome is in the slot condition set; a lane not in use has none (R170). -/
def Counter.holds (c : Counter) (o : Option LaneOutcome) : Bool :=
  match o with | none => false | some x => c.slot.contains x

/-- The amount a slot end adds, by the lane mode (R170). -/
def Counter.slotAmount (c : Counter) (a b : Option LaneOutcome) : Nat :=
  match c.lane with
  | .a => flag (c.holds a)
  | .b => flag (c.holds b)
  | .either => flag (c.holds a || c.holds b)
  | .weighted => flag (c.holds a) + flag (c.holds b)

/-- The slot counts of a commissioned station's slot end (R170). DESIGN CHOICE (log 47): the counters count in the order of their
numbers, and so do their COUNTER_SATURATED reports come. -/
def countSlot (n : Station) (a b : Option LaneOutcome) (s : State) : State :=
  counterList.foldl (fun s k =>
    let c := s.stats.counters[k]
    if counting s c && c.selects n then addCount k (c.slotAmount a b) s else s) s

/-- The station holds a condition of the counter's lock condition set (R171). -/
def Counter.lockHolds (c : Counter) (r : StationRec) : Bool := (c.slip && r.state == .slip) || (c.trimSat && r.trimSat)

/-- How many selected stations hold a lock condition (R171). -/
def Counter.lockAmount (c : Counter) (s : State) : Nat :=
  (stationList.filter fun n => c.selects n && (match s.stations[n] with | some r => c.lockHolds r | none => false)).length

/-- The lock counts at the end of the demand assembly (R171), counter by counter in the order of their numbers, and so their
COUNTER_SATURATED reports: DESIGN CHOICE (log 47). -/
def countLocks (s : State) : State :=
  counterList.foldl (fun s k =>
    let c := s.stats.counters[k]
    if counting s c then addCount k (c.lockAmount s) s else s) s

/-- A counter at a round start (R173). -/
def Counter.publish (c : Counter) : Counter :=
  if c.accumulate then { c with published := c.working }
  else { c with published := c.working, working := 0, saturated := false }

/-- The publishing of every counter, enabled or not (R173). -/
def publish (s : State) : State :=
  let cs := s.stats.counters
  { s with stats := { s.stats with counters := #v[cs[0].publish, cs[1].publish, cs[2].publish, cs[3].publish] } }

/-- A counter zeroed by a run reset (R181). -/
def Counter.zeroed (c : Counter) : Counter := { c with working := 0, published := 0, saturated := false }

/-- The statistics unit after a run reset: counters and snapshot zeroed, watches kept (R181). -/
def Stats.runReset (t : Stats) : Stats :=
  { t with
    counters := #v[t.counters[0].zeroed, t.counters[1].zeroed, t.counters[2].zeroed, t.counters[3].zeroed]
    snap := resetSnapshot }

/-- A watch after a slot end of its station: a lane in use goes into the even or the odd place (R174). -/
def Watch.take (w : Watch) (odd : Bool) (a b : Option LaneOutcome) : Watch :=
  if odd then { w with aOdd := a.or w.aOdd, bOdd := b.or w.bOdd }
  else { w with aEven := a.or w.aEven, bEven := b.or w.bEven }

/-- The watches naming a station take its outcomes, by the parity of the cycle counter; one whose station has lost its record since
its SET_WATCH takes none (R174). -/
def watchSlot (n : Station) (a b : Option LaneOutcome) (s : State) : State :=
  let odd := s.link.counter.getLsbD 0
  let f (w : Watch) : Watch := if w.station = some n ∧ w.lost = false then w.take odd a b else w
  let w := s.stats.watches
  { s with stats := { s.stats with watches := #v[f w[0], f w[1], f w[2], f w[3]] } }

/-! ### A station that loses its record -/

/-- The counter after these stations have lost their records (R168). -/
def Counter.loses (gone : Station → Bool) (c : Counter) : Counter :=
  match c.station with | some n => { c with lost := c.lost || gone n } | none => c

/-- The watch after these stations have lost their records (R174). -/
def Watch.loses (gone : Station → Bool) (w : Watch) : Watch :=
  match w.station with | some n => { w with lost := w.lost || gone n } | none => w

/-- The stations that have lost their records since `before`: the counters, watches and trace mask that name them keep their
configuration and leave them out from now on (R168, R174, R176, R189). DEDUCED (log 42): until SET_COUNTER, SET_WATCH or
SET_TRACE gives a new one, also where the station is commissioned again. -/
def noteLost (before : Vector (Option StationRec) 8) (s : State) : State :=
  let gone (n : Station) : Bool := before[n].isSome && s.stations[n].isNone
  { s with
    stats := { s.stats with counters := s.stats.counters.map (Counter.loses gone)
                            watches := s.stats.watches.map (Watch.loses gone) }
    trace := { s.trace with lost := s.trace.lost ||| maskOf gone } }

/-- The snapshot taken by event entry i (R165). -/
def takeSnapshot (i : Fin 16) (s : State) : State :=
  let cs := s.stats.counters
  { s with stats := { s.stats with
      snap := { values := #v[cs[0].published, cs[1].published, cs[2].published, cs[3].published], entry := some i,
                taken := s.run.count } } }

/-! ### Requests -/

/-- The lane mode of a code. -/
def laneModeOf : Nat → Option LaneMode
  | 0 => some .a
  | 1 => some .b
  | 2 => some .either
  | 3 => some .weighted
  | _ => none

/-- The slot condition set of its weights (12.2). -/
def slotSet (n : Nat) : List LaneOutcome :=
  (if n.testBit 0 then [.valid] else []) ++ (if n.testBit 1 then [.malformed] else []) ++
    (if n.testBit 2 then [.content] else []) ++ (if n.testBit 3 then [.late] else []) ++
    (if n.testBit 4 then [.silent] else [])

/-- The weights of a slot condition set. -/
def slotCode (l : List LaneOutcome) : Nat :=
  flag (l.contains .valid) + 2 * flag (l.contains .malformed) + 4 * flag (l.contains .content) +
    8 * flag (l.contains .late) + 16 * flag (l.contains .silent)

/-- The configuration a SET_COUNTER stores, none where a field lies outside its set (R168). DEDUCED (log 17): a flag code
other than 0 and 1 lies outside its set. -/
def parseCounter (a : CounterArg) (s : State) : Option (Fin 4 × Counter) :=
  if h : a.number < 4 then
    match laneModeOf a.lane with
    | none => none
    | some l =>
      let known := match stationOf a.station with | some n => s.has n | none => a.station == 8
      if known && isFlag a.enable && a.slot < 32 && a.lock < 4 && isFlag a.acc then
        some (⟨a.number, h⟩,
          { enable := a.enable == 1, station := stationOf a.station, lane := l, slot := slotSet a.slot,
            slip := a.lock.testBit 0, trimSat := a.lock.testBit 1, accumulate := a.acc == 1, working := 0,
            published := 0, saturated := false, lost := false })
      else none
  else none

/-- SET_COUNTER (R168). -/
def takeSetCounter (a : CounterArg) (s : State) : State × Answer :=
  match parseCounter a s with
  | none => (s, answer .badValue)
  | some (k, c) =>
    ({ s with stats := { s.stats with counters := s.stats.counters.set k c } }, answer .ok)

/-- SET_WATCH (R174). -/
def takeSetWatch (number station : Nat) (s : State) : State × Answer :=
  if h : number < 4 then
    let known := match stationOf station with | some n => s.has n | none => station == 255
    if known then
      ({ s with stats := { s.stats with
          watches := s.stats.watches.set number { resetWatch with station := stationOf station } h } }, answer .ok)
    else (s, answer .badValue)
  else (s, answer .badValue)

/-- A counter's configuration, published value and saturated flag (R175). -/
def Counter.fields (c : Counter) : List Field :=
  [.u8 (flag c.enable), .u8 ((c.station.map Fin.val).getD 8), .u8 c.lane.code, .u8 (slotCode c.slot),
    .u8 (flag c.slip + 2 * flag c.trimSat), .u8 (flag c.accumulate), .u16 c.published, .u8 (flag c.saturated)]

/-- A lane outcome that may be absent. -/
def optOutcome (o : Option LaneOutcome) : Field := .opt8 (o.map LaneOutcome.code)

/-- A watch's station and outcomes (R175). -/
def Watch.fields (w : Watch) : List Field :=
  [optStation w.station, optOutcome w.aEven, optOutcome w.aOdd, optOutcome w.bEven, optOutcome w.bOdd]

/-- The snapshot (R175). -/
def Snapshot.fields (p : Snapshot) : List Field :=
  [.u16 p.values[0], .u16 p.values[1], .u16 p.values[2], .u16 p.values[3], .opt8 (p.entry.map Fin.val), .u32 p.taken.toNat]

/-- READ_COUNTERS (R175). -/
def takeReadCounters (s : State) : State × Answer :=
  (s, okWith (s.stats.counters.toList.flatMap Counter.fields ++ s.stats.snap.fields ++
    s.stats.watches.toList.flatMap Watch.fields))

end Sys2Proof.Machine
end

