-- ==== Sys2Proof/Machine/DriveLink.lean ====
section
/-! DEFINITION. The drive link controller: the service arbiter, the SYNC frame, slot ends, the merge, the lane-degraded
streaks, service items (01_the_drive_link.md, R2 to R20). -/

namespace Sys2Proof.Machine

/-- The controller's state of a station replaced. -/
def setLinkStation (n : Station) (x : LinkStation) (s : State) : State :=
  { s with link := { s.link with st := s.link.st.set n x } }

/-! ### Cycle start -/

/-- The stations in the order of the arbiter's search, ending with the pointer's own (R16). -/
def searchOrder (pointer : Station) : List Station := stationList.map fun i => pointer + 1 + i

/-- The station qualifies for the service field: a waiting item and none outstanding (R16). -/
def LinkStation.qualifies (x : LinkStation) : Bool := !x.waiting.isEmpty && x.outstanding.isNone

/-- The arbiter's grant at a cycle start: the item to send and the controller after it (R15, R16). -/
def Link.grant (l : Link) : Link × Option (Station × ServiceItem) :=
  match (searchOrder l.pointer).find? fun n => l.st[n].qualifies with
  | none => (l, none)
  | some n =>
    match l.st[n].waiting with
    | [] => (l, none)
    | i :: rest =>
      ({ l with pointer := n, st := l.st.set n { l.st[n] with waiting := rest, outstanding := some { item := i, age := 0 } } },
        some (n, i))

/-- A demand in the drive's own mounting sense (R5). -/
def mountedDemand (d : Direction) (x : Int) : Int :=
  match d with
  | .normal => x
  | .inverted => if x = -2147483648 then 2147483647 else -x

/-- TORQUE_OFF with demand 0. -/
def offEntry : SyncEntry := { command := .torqueOff, demand := 0 }

/-- The SYNC entry of a station: its record's in RUN and STOPPING, TORQUE_OFF in every other state (R5, R117). -/
def State.syncEntry (s : State) (n : Station) : SyncEntry :=
  match s.stations[n] with
  | none => offEntry
  | some r =>
    if s.run.op.inRun then
      match r.command with
      | .torqueOff => offEntry
      | .follow => { command := .follow, demand := mountedDemand r.block.direction r.demand }
    else offEntry

/-- A cycle start of the drive link controller: the counter advances, the lanes' receivers begin a new cycle, the arbiter
grants, and the SYNC frame is assembled and sent (R2, R5, R16). -/
def openCycle (s : State) : State :=
  let fresh (x : LinkStation) : LinkStation := { x with repA := none, repB := none }
  let l := { s.link with counter := s.link.counter + 1, st := mapEight fresh s.link.st }
  let g := l.grant
  { s with link := { g.1 with
      sync := some { counter := l.counter, entries := ofEight s.syncEntry, item := g.2 } } }

/-! ### Slot end -/

/-- The station uses lane A. -/
def LaneUse.usesA : LaneUse → Bool
  | .a => true | .b => false | .ab => true

/-- The station uses lane B. -/
def LaneUse.usesB : LaneUse → Bool
  | .a => false | .b => true | .ab => true

/-- The outcomes and reports of a slot stored: a lane not in use has none (R3, R6, R7). -/
def LinkStation.slot (x : LinkStation) (lanes : LaneUse) (n : Station) (counter : BitVec 6) (a b : Reception) :
    LinkStation :=
  let ra := laneOutcome n counter a
  let rb := laneOutcome n counter b
  { x with
    outA := if lanes.usesA then some ra.1 else none,
    outB := if lanes.usesB then some rb.1 else none,
    repA := if lanes.usesA then ra.2 else none,
    repB := if lanes.usesB then rb.2 else none }

/-- A slot end (R3): the commissioned station's outcomes are stored and handed to the counters and the watches. -/
def endSlot (n : Station) (a b : Reception) (s : State) : State :=
  match s.stations[n] with
  | none => s
  | some r =>
    let x := s.link.st[n].slot r.block.lanes n s.link.counter a b
    watchSlot n x.outA x.outB (countSlot n x.outA x.outB (setLinkStation n x s))

/-! ### Cycle close -/

/-- The observation of a report: count and force in the vehicle-forward sense, the force saturated first (R8, R9). -/
def StationReport.observe (r : StationReport) (d : Direction) : Observation :=
  let f := limitMag 500000 r.force
  match d with
  | .normal => .valid r.count f r.drive r.trip r.response
  | .inverted => .valid (-r.count) (-f) r.drive r.trip r.response

/-- The merge of the lanes in use (R7). -/
def mergeLanes (lanes : LaneUse) (d : Direction) (a b : Option StationReport) : Observation :=
  match lanes with
  | .a => match a with | some r => r.observe d | none => .silent
  | .b => match b with | some r => r.observe d | none => .silent
  | .ab =>
    match a, b with
    | some r, some q => if r = q then r.observe d else .disagree
    | some r, none => r.observe d
    | none, some q => q.observe d
    | none, none => .silent

/-- A streak after a close: `lane` says that the lane brought a VALID report (R11). -/
def nextStreak (obs : Observation) (lane : Bool) (streak : Nat) : Nat :=
  match obs with
  | .valid _ _ _ _ _ => if lane then 0 else satAdd 64 streak 1
  | .disagree => 0
  | .silent => streak

/-- The lane's streak goes from 63 to 64 at this close (R12). -/
def degrades (obs : Observation) (lane : Bool) (streak : Nat) : Bool := streak == 63 && nextStreak obs lane streak == 64

/-- The merge and the streaks of one station: the observation is stored, a station on lanes AB has its streaks updated, and
LANE_DEGRADED is raised for a lane whose streak reaches 64 (R7, R11, R12). -/
def mergeStation (n : Station) (r : StationRec) (s : State) : State :=
  let x := s.link.st[n]
  let obs := mergeLanes r.block.lanes r.block.direction x.repA x.repB
  match r.block.lanes with
  | .ab =>
    let s := setLinkStation n { x with obs := some obs, streakA := nextStreak obs x.repA.isSome x.streakA,
                                       streakB := nextStreak obs x.repB.isSome x.streakB } s
    let s := if degrades obs x.repA.isSome x.streakA
      then raiseFault { kind := .laneDegraded, station := some n, lane := some .a } s else s
    if degrades obs x.repB.isSome x.streakB
      then raiseFault { kind := .laneDegraded, station := some n, lane := some .b } s else s
  | .a => setLinkStation n { x with obs := some obs } s
  | .b => setLinkStation n { x with obs := some obs } s

/-- The service response of an observation. -/
def Observation.response : Observation → Option ServiceResponse
  | .valid _ _ _ _ r => r
  | _ => none

/-- How an outstanding item stands after a close: still outstanding one older, or completed with a result and a value
(R17, R18). -/
def Outstanding.advance (o : Outstanding) (resp : Option ServiceResponse) : Outstanding ⊕ (ServiceResult × Int) :=
  let older := if o.age + 1 = 4 then .inr (.timeout, o.item.value) else .inl { o with age := o.age + 1 }
  match resp with
  | none => older
  | some p => if p.index = o.item.index then .inr (if p.ok then .ok else .refused, p.value) else older

/-- The outstanding item of a station at a cycle close, with its SERVICE_DONE report on completion (R17 to R19). -/
def serviceStation (n : Station) (s : State) : State :=
  let x := s.link.st[n]
  match x.outstanding with
  | none => s
  | some o =>
    match o.advance (x.obs.bind Observation.response) with
    | .inl o' => setLinkStation n { x with outstanding := some o' } s
    | .inr (res, v) => submit (.serviceDone n o.item res v) (setLinkStation n { x with outstanding := none } s)

/-- The drive link controller's work of a cycle close, station by station (R4). -/
def closeLink (s : State) : State := eachStation (fun n r s => serviceStation n (mergeStation n r s)) s

/-! ### Service items -/

/-- The operation of a code (12.2). -/
def serviceOpOf : Nat → Option ServiceOp
  | 1 => some .read
  | 2 => some .write
  | _ => none

/-- The item a SERVICE request queues: a READ carries value 0 (R13). -/
def newItem (op : ServiceOp) (index : Nat) (value : Int) : ServiceItem :=
  { op := op, index := index, value := match op with | .read => 0 | .write => value }

/-- SERVICE (R13). -/
def takeService (station operation index : Nat) (value : Int) (s : State) : State × Answer :=
  if !s.run.op.running then (s, answer .wrongState)
  else match stationOf station, serviceOpOf operation with
    | some n, some op =>
      if !s.has n then (s, answer .badValue)
      else if 2 ≤ s.link.st[n].waiting.length then (s, answer .queueFull)
      else
        (setLinkStation n { s.link.st[n] with waiting := s.link.st[n].waiting ++ [newItem op index value] } s, answer .ok)
    | _, _ => (s, answer .badValue)

/-- A station's items completed with CANCELLED: the outstanding item, then the waiting ones (R20). -/
def cancelStation (n : Station) (s : State) : State :=
  let x := s.link.st[n]
  let items := (x.outstanding.map Outstanding.item).toList ++ x.waiting
  items.foldl (fun s i => submit (.serviceDone n i .cancelled i.value) s)
    (setLinkStation n { x with waiting := [], outstanding := none } s)

/-- Every service item cancelled at a run reset, and the pointer at 7 (R20, R24). -/
def cancelService (s : State) : State :=
  let s := eachStation (fun n _ s => cancelStation n s) s
  { s with link := { s.link with pointer := 7 } }

end Sys2Proof.Machine
end

