-- ==== Sys2Proof/Machine/AxleStep.lean ====
section
/-! DEFINITION. The virtual axle generator: the force sum, the ROAD step, the SPEED step, the stop ramp and the distance
(02_the_virtual_axle.md, R28 to R41). -/

namespace Sys2Proof.Machine

/-- A station's share of the force sum (R31). -/
def StationRec.forceShare (r : StationRec) : Int :=
  if r.state = .faulted ∧ r.faultCommand = .torqueOff then 0 else r.force.getD 0

/-- ΣF over the commissioned stations (R31). -/
def State.forceSum (s : State) : Int :=
  stationList.foldl (fun f n => f + (match s.stations[n] with | some r => r.forceShare | none => 0)) 0

/-- F_grade: m × g × 980,665 / 100,000,000, rounded to nearest (R32). -/
def gradeForce (mass : Nat) (grade : Int) : Int := roundDiv ((mass : Int) * grade * 980665) 100000000

/-- F_road of a moving axle (R34). -/
def roadForce (a b c : Nat) (v vc : Int) : Int :=
  v.sign * ((a : Int) + roundDiv ((b : Int) * (vc.natAbs : Int)) 10000 + roundDiv ((c : Int) * vc * vc) 100000000)

/-- ΔV: F_net × T × T × 65,536 / (10,000 × m), rounded to nearest (R35). -/
def speedChange (net period : Int) (mass : Nat) : Int := roundDiv (net * period * period * 65536) (10000 * (mass : Int))

/-- The step of one computation for a limit in 0.01 m/s² (R40, R41). -/
def accelStep (limit : Nat) (period : Int) : Int := roundDiv ((limit : Int) * period * period * 65536) 100000

/-- v moved toward a target by at most one step (R40, R41). -/
def moveToward (v target step : Int) : Int :=
  if v < target - step then v + step else if target + step < v then v - step else target

/-- A step of the generator: V', the force terms it records, and whether V' was clamped at V_LIMIT. -/
structure AxleResult where
  v         : Int
  road      : Int
  grade     : Int
  net       : Int
  overspeed : Bool
deriving DecidableEq, Repr

/-- V' held within V_LIMIT (R37). -/
def limited (vLimit v road grade net : Int) : AxleResult :=
  { v := limitMag vLimit v, road := road, grade := grade, net := net, overspeed := vLimit < (v.natAbs : Int) }

/-- The ROAD step (R33 to R37). -/
def roadStep (p : Params) (period vLimit v grade fSum : Int) : AxleResult :=
  let fg := gradeForce p.mass grade
  if v = 0 then
    let drive := fSum - fg
    if (drive.natAbs : Int) ≤ p.a then { v := 0, road := 0, grade := fg, net := 0, overspeed := false }
    else
      let net := drive - drive.sign * p.a
      limited vLimit (speedChange net period p.mass) (drive.sign * p.a) fg net
  else
    let road := roadForce p.a p.b p.c v (displaySpeed v period)
    let net := fSum - road - fg
    let v' := v + speedChange net period p.mass
    if v' = 0 ∨ v'.sign = -v.sign then { v := 0, road := road, grade := fg, net := net, overspeed := false }
    else limited vLimit v' road fg net

/-- The SPEED step (R39, R40), with the clamp of R37. -/
def speedStep (p : Params) (period vLimit v traceSpeed : Int) : AxleResult :=
  limited vLimit (moveToward v (axleSpeed traceSpeed period) (accelStep p.accelLimit period)) 0 0 0

/-- The stop ramp (R41). -/
def stopStep (stopDecel : Nat) (period v : Int) : AxleResult :=
  { v := moveToward v 0 (accelStep stopDecel period), road := 0, grade := 0, net := 0, overspeed := false }

/-- The axle after a step: the distance advances with V', the force terms are recorded (R25, R28, R38). -/
def Axle.advance (x : Axle) (fSum : Int) (r : AxleResult) : Axle :=
  let sum := x.frac + r.v
  { x with v := r.v, whole := narrow64 (x.whole + sum / 65536), frac := sum % 65536, adv := sum / 65536, fSum := fSum,
           fRoad := r.road, fGrade := r.grade, fNet := r.net }

/-- The trace speed a computation uses: the one the player left at the completion before, and 0 in the first of a run (R39).
DEDUCED (log 24): 0 also where a START_RUN since the cycle close let that completion play the first cycle. -/
def State.traceSpeed (s : State) : Int := if s.run.fresh then 0 else s.player.speed

/-- The step a computation makes in RUN or STOPPING (R28). -/
def State.axleResult (s : State) : AxleResult :=
  if s.run.op = .stopping then stopStep s.cell.stopDecel s.period s.axle.v
  else match s.run.mode with
    | .road => roadStep s.params s.period s.axle.vLimit s.axle.v s.axle.grade s.forceSum
    | .speed => speedStep s.params s.period s.axle.vLimit s.axle.v s.traceSpeed

/-- The axle stage of a cycle computation: the step of the operating state, and OVERSPEED where V' was clamped; outside RUN
and STOPPING V and Δd are 0 and the distance stays (R28, R37). -/
def axleStage (s : State) : State :=
  if s.run.op.inRun then
    let r := s.axleResult
    let s := { s with axle := s.axle.advance s.forceSum r }
    if r.overspeed then raiseFault { kind := .overspeed } s else s
  else { s with axle := { s.axle with v := 0, adv := 0 } }

end Sys2Proof.Machine
end

