-- ==== Sys2Proof/Machine/Lock.lean ====
section
/-! DEFINITION. The station lock engine: judging, gearing and feedforward, demand assembly, the requests that change lock
states, the run reset's station values, GET_STATION (03_station_lock.md, R46 to R80). -/

namespace Sys2Proof.Machine

/-! ### The record -/

/-- A station record as created, with the trim in force (R46, R80, R189). -/
def newRecord (b : StationBlock) (ppm : Int) : StationRec :=
  { block := b, cnm := effectiveCirc b.circ ppm, trimPpm := ppm, state := .idle, cause := none, faultCommand := .torqueOff,
    baseline := false, lastRaw := 0, lastAt := 0, since := 0, judgement := none, measured := 0, tLast := 0, tNext := 0,
    tAccept := 0, residue := 0, e := 0, ff := 0, intervalFf := 0, trim := 0, trimSat := false, demand := 0,
    command := .torqueOff, streak := 0, age := 0, slipTimer := 0, miss := 0, force := none, drive := none, trip := none }

/-! ### Judging -/

/-- What a judging gives besides the record: the raises and the lock-state changes, in order (R62, R71). -/
inductive StationEvent where
  | fault (f : Raise)
  | changed (old : LockState) (new : StationRec) (reason : StationReason)
deriving DecidableEq, Repr

/-- A station in the course of its judging. -/
structure Judging where
  r      : StationRec
  events : List StationEvent
deriving DecidableEq, Repr

/-- The lock state and fields of a judging replaced, with the STATION report of the change (R62). -/
def Judging.move (j : Judging) (new : StationRec) (reason : StationReason) : Judging :=
  { r := new, events := j.events ++ [.changed j.r.state new reason] }

/-- The record replaced, no change of lock state reported. -/
def Judging.put (j : Judging) (new : StationRec) : Judging := { j with r := new }

/-- The fault kind of a station fault cause (7.2, R54, R56, R67, R69, R70). -/
def StationCause.kind : StationCause → FaultKind
  | .lostSilent => .stationLost | .lostDisagree => .stationLost | .lostJump => .stationLost | .slipTime => .stationSlip
  | .errorClamp => .stationSlip | .captureFail => .captureFail | .driveTrip => .driveTrip

/-- The raise of a station fault: a DRIVE_TRIP carries the trip code (R70, R71). -/
def stationRaise (n : Station) (r : StationRec) (cause : StationCause) : Raise :=
  { kind := cause.kind, station := some n, cause := some cause,
    detail := match cause with | .driveTrip => some (.trip (r.trip.getD 0)) | _ => none }

/-- The values of a station that enters FAULTED (R71, R72). -/
def StationRec.toFaulted (r : StationRec) (op : OpState) (cause : StationCause) : StationRec :=
  { r with state := .faulted, cause := some cause, streak := 0, age := 0, slipTimer := 0, trim := 0, trimSat := false,
           faultCommand := faultCommandOf op (some cause) }

/-- A station enters FAULTED: its values, the raise, the STATION report (R71). -/
def Judging.fault (j : Judging) (n : Station) (op : OpState) (cause : StationCause) : Judging :=
  let raised : Judging := { j with events := j.events ++ [StationEvent.fault (stationRaise n j.r cause)] }
  raised.move (j.r.toFaulted op cause) .fault

/-- A changed circumference trim takes effect (R76). -/
def trimChange (ppm : Int) (r : StationRec) : Judging :=
  let j : Judging := { r := r, events := [] }
  if ppm = r.trimPpm then j
  else
    let r := { r with trimPpm := ppm, cnm := effectiveCirc r.block.circ ppm }
    match r.state with
    | .locked => j.move { r with state := .capture, streak := 0, age := 0, e := 0, residue := 0, slipTimer := 0 } .trimChange
    | .slip => j.move { r with state := .capture, streak := 0, age := 0, e := 0, residue := 0, slipTimer := 0 } .trimChange
    | .capture => j.put { r with streak := 0 }
    | .idle => j.put r
    | .faulted => j.put r

/-- The steps of R49 before the observation is judged, with the capture age of R65. -/
def StationRec.beginStage (r : StationRec) : StationRec :=
  { r with tLast := if r.state.geared then r.tNext else r.tLast, since := satAdd 65535 r.since 1,
           age := if r.state = .capture then satAdd 65535 r.age 1 else r.age }

/-- The count delta: the difference of the counts modulo 2^32 read as signed (R50). -/
def countDelta (new last : Word32) : Int := (new - last).toInt

/-- The movement the plausibility check expects; none where no check is made (R51, R52). -/
def StationRec.expected (r : StationRec) : Option Int :=
  match r.state with
  | .locked => some (r.tLast - r.tAccept)
  | .slip => some (r.tLast - r.tAccept)
  | .idle => some ((r.intervalFf * r.since).tdiv 256)
  | .capture => some ((r.intervalFf * r.since).tdiv 256)
  | .faulted => none

/-- The observation's count is plausible: no baseline, no check, or within JUMP_LIMIT (R49, R51, R52). -/
def StationRec.plausible (r : StationRec) (limit : Nat) (count : Word32) : Bool :=
  !r.baseline || (match r.expected with
    | none => true
    | some x => ((countDelta count r.lastRaw - x).natAbs ≤ limit))

/-- The measured position after an accepted observation (R49, R53). -/
def StationRec.moved (r : StationRec) (count : Word32) : Int :=
  if r.baseline then narrow64 (r.measured + countDelta count r.lastRaw) else (count.toNat : Int)

/-- The fields an accepted observation sets in every lock state (R53). -/
def StationRec.take (r : StationRec) (now count : Word32) (force : Int) (drive : DriveState) (trip : Nat) : StationRec :=
  { r with measured := r.moved count, baseline := true, lastRaw := count, lastAt := now, since := 0, miss := 0,
           judgement := some .accepted, force := some force, drive := some drive, trip := some trip }

/-- The largest magnitude of a position error (R54). -/
def errorLimit : Int := 16777215

/-- The position error of a geared station after an acceptance (R54): clamped, with ERROR_CLAMP where it was. -/
def Judging.formError (j : Judging) (n : Station) (op : OpState) : Judging :=
  if j.r.state.geared then
    let d := j.r.tLast - j.r.measured
    let j' := j.put { j.r with e := limitMag errorLimit d, tAccept := j.r.tLast }
    if errorLimit < (d.natAbs : Int) then j'.fault n op .errorClamp else j'
  else j

/-- A TRIPPED observation faults the station unless its cause is DRIVE_TRIP already (R70). -/
def Judging.tripped (j : Judging) (n : Station) (op : OpState) (drive : DriveState) : Judging :=
  if drive = .tripped ∧ ¬(j.r.state = .faulted ∧ j.r.cause = some .driveTrip) then j.fault n op .driveTrip else j

/-- An observation not accepted raises the station's miss streak (R55). -/
def StationRec.countsMiss (r : StationRec) (op : OpState) : Bool :=
  op != .settle && (r.state != .faulted || r.faultCommand == .follow)

/-- The cause a lost station takes (R56). -/
def lostCause : MissCause → StationCause
  | .silent => .lostSilent | .disagree => .lostDisagree | .jump => .lostJump

/-- An observation not accepted (R55, R56). -/
def Judging.missed (j : Judging) (n : Station) (op : OpState) (limit : Nat) (cause : MissCause) : Judging :=
  let r := { j.r with judgement := some (.missed cause) }
  if r.countsMiss op then
    let j' := j.put { r with miss := satAdd 16 r.miss 1 }
    if limit < satAdd 16 r.miss 1 then j'.fault n op (lostCause cause) else j'
  else j.put r

/-- The measured speed of a capture cycle: delta × 256 / k, truncated toward zero (R65). -/
def measuredSpeed (delta : Int) (k : Nat) : Int := (delta * 256).tdiv k

/-- The capture streak after a judging: `speed` is the measured speed of an accepted observation that had a delta (R65). -/
def StationRec.nextStreak (r : StationRec) (window : Nat) (speed : Option Int) : Nat :=
  match speed with
  | none => 0
  | some v => if (v - r.intervalFf).natAbs ≤ window then satAdd 64 r.streak 1 else 0

/-- The values of a station that enters LOCKED from CAPTURE (R66). -/
def StationRec.toLocked (r : StationRec) : StationRec :=
  { r with state := .locked, tLast := r.measured, tAccept := r.measured, residue := 0, e := 0, slipTimer := 0 }

/-- The capture streak, the completion of a capture and CAPTURE_FAIL (R65 to R67). -/
def Judging.captureStep (j : Judging) (n : Station) (p : Params) (op : OpState) (speed : Option Int) : Judging :=
  if j.r.state = .capture then
    let k := j.r.nextStreak p.captureWindow speed
    let j' := j.put { j.r with streak := k }
    if p.captureCycles ≤ k then j'.move j'.r.toLocked .captured
    else if p.captureLimit < j.r.age then j'.fault n op .captureFail
    else j'
  else j

/-- The windows of a geared station (R68). -/
def Judging.windows (j : Judging) (p : Params) : Judging :=
  match j.r.state with
  | .locked => if p.slipWindow < j.r.e.natAbs then j.move { j.r with state := .slip, slipTimer := 0 } .slipped else j
  | .slip => if j.r.e.natAbs ≤ p.lockWindow then j.move { j.r with state := .locked, slipTimer := 0 } .relocked else j
  | _ => j

/-- The slip timer of a station that began the stage in SLIP and is still there (R69). -/
def Judging.slipStep (j : Judging) (n : Station) (p : Params) (op : OpState) (began : LockState) : Judging :=
  if began = .slip ∧ j.r.state = .slip then
    let k := satAdd 65535 j.r.slipTimer 1
    let j' := j.put { j.r with slipTimer := k }
    if p.slipTime < k then j'.fault n op .slipTime else j'
  else j

/-- The acceptance of a valid observation with the tests that follow from it (R53, R54, R70). -/
def Judging.accept (j : Judging) (n : Station) (op : OpState) (now count : Word32) (force : Int) (drive : DriveState)
    (trip : Nat) : Judging :=
  ((j.put (j.r.take now count force drive trip)).formError n op).tripped n op drive

/-- The judging of one observation with the capture, window and timer tests (R49, R53 to R56, R65 to R70). The station
began its stage in the lock state of `j`. -/
def Judging.observe (j : Judging) (n : Station) (p : Params) (op : OpState) (now : Word32) (obs : Observation) : Judging :=
  let began := j.r.state
  let rest (j : Judging) (speed : Option Int) : Judging :=
    ((j.captureStep n p op speed).windows p).slipStep n p op began
  match obs with
  | .silent => rest (j.missed n op p.missLimit .silent) none
  | .disagree => rest (j.missed n op p.missLimit .disagree) none
  | .valid count force drive trip _ =>
    if j.r.plausible p.jumpLimit count then
      rest (j.accept n op now count force drive trip)
        (if j.r.baseline then some (measuredSpeed (countDelta count j.r.lastRaw) j.r.since) else none)
    else rest (j.missed n op p.missLimit .jump) none

/-- One station's judging stage (R48, R49). DEDUCED (log 25): the trim change comes first, so the target at last SYNC of a
station that recaptures stays, and its capture age counts this computation. -/
def judge (n : Station) (p : Params) (op : OpState) (now : Word32) (obs : Observation) (r : StationRec) : Judging :=
  let j := trimChange p.circTrim[n] r
  (j.put j.r.beginStage).observe n p op now obs

/-- A station event carried out: the raise, or the STATION report (R62, R71). -/
def stationEvent (n : Station) (e : StationEvent) (s : State) : State :=
  match e with
  | .fault f => raiseFault f s
  | .changed old r reason =>
    submitStation n old r.state reason (if r.state = .faulted then r.cause else none) r.e r.measured r.block.axle s

/-- A judging carried out: the record and its events in order. -/
def applyJudging (n : Station) (j : Judging) (s : State) : State :=
  j.events.foldl (fun s e => stationEvent n e s) (setStation n j.r s)

/-- The judging of one station as the state stands. -/
def State.judging (s : State) (n : Station) (r : StationRec) : Judging :=
  judge n s.params s.run.op s.run.count (s.link.st[n].obs.getD .silent) r

/-- The judging stage (R48). -/
def judgeStage (s : State) : State := eachStation (fun n r s => applyJudging n (s.judging n r) s) s

/-! ### Gearing, feedforward, demand assembly -/

/-- The target and residue of a geared station advanced by Δd (R58). -/
def StationRec.gear (r : StationRec) (adv : Int) : StationRec :=
  if r.state.geared then
    let num := adv * r.block.cpr + r.residue
    { r with residue := num % r.cnm, tNext := narrow64 (r.tLast + num / r.cnm) }
  else r

/-- The feedforward of V' (R59). -/
def feedforward (v : Int) (cpr : Nat) (cnm : Int) : Int := clamp32 (roundDiv (v * cpr) (256 * cnm))

/-- The interval ff and the new ff (R59). -/
def StationRec.feed (r : StationRec) (v : Int) : StationRec :=
  { r with intervalFf := r.ff, ff := feedforward v r.block.cpr r.cnm }

/-- f applied to every station record. -/
def mapStations (f : Station → StationRec → StationRec) (s : State) : State :=
  { s with stations := ofEight fun n => s.stations[n].map (f n) }

/-- The gearing stage (R58, R59). -/
def gearStage (s : State) : State := mapStations (fun _ r => (r.gear s.axle.adv).feed s.axle.v) s

/-- The trim before its clamp (R60). -/
def StationRec.wantedTrim (r : StationRec) (kp : Nat) (cross : Int) : Int :=
  if r.state.geared && r.accepted then (r.e * kp).tdiv 16 + cross else 0

/-- Trim, command and demand of a station (R60, R61, R72). -/
def StationRec.assemble (r : StationRec) (p : Params) (op : OpState) (cross : Int) : StationRec :=
  let t := r.wantedTrim p.kp cross
  let trim := limitMag p.trimMax t
  let r := { r with trim := trim, trimSat := p.trimMax < t.natAbs }
  match r.state with
  | .idle => { r with command := .torqueOff, demand := 0 }
  | .capture => { r with command := .follow, demand := r.ff }
  | .locked => { r with command := .follow, demand := clamp32 (r.ff + trim) }
  | .slip => { r with command := .follow, demand := clamp32 (r.ff + trim) }
  | .faulted =>
    match faultCommandOf op r.cause with
    | .follow => { r with faultCommand := .follow, command := .follow, demand := r.ff }
    | .torqueOff => { r with faultCommand := .torqueOff, command := .torqueOff, demand := 0 }

/-- The demand assembly (R60, R61, R72). -/
def assembleStage (s : State) : State :=
  mapStations (fun n r => r.assemble s.params s.run.op (s.monitor.cross[n].getD 0)) s

/-! ### Requests -/

/-- The stations of a mask for which p holds of the record. -/
def State.pick (s : State) (m : Mask) (p : StationRec → Bool) : Mask :=
  maskOf fun n => inMask m n && (match s.stations[n] with | some r => p r | none => false)

/-- The stations of a mask moved in station-number order. -/
def moveMask (m : Mask) (f : StationRec → StationRec) (reason : StationReason) (s : State) : State :=
  eachStation (fun n r s => if inMask m n then moveStation n r f reason s else s) s

/-- The reply that lists the stations moved, and the move. -/
def moveAnswer (m : Mask) (f : StationRec → StationRec) (reason : StationReason) (s : State) : State × Answer :=
  (moveMask m f reason s, okWith [maskField m])

/-- ENGAGE (R63). -/
def takeEngage (m : Mask) (s : State) : State × Answer :=
  if s.run.op ≠ .run then (s, answer .wrongState)
  else if s.namesUnknown m then (s, answer .badValue)
  else moveAnswer (s.pick m fun r => r.state == .idle) StationRec.toCapture .engage s

/-- The values of a station that enters CAPTURE by RECAPTURE (R73). -/
def StationRec.toRecapture (r : StationRec) : StationRec := { r.toCapture with cause := none, miss := 0 }

/-- The station may be recaptured (R73). -/
def StationRec.recapturable (r : StationRec) : Bool :=
  r.state == .faulted && r.judgement == some .accepted && r.drive != some .tripped

/-- RECAPTURE (R73). -/
def takeRecapture (m : Mask) (s : State) : State × Answer :=
  if s.run.op ≠ .run then (s, answer .wrongState)
  else if s.namesUnknown m then (s, answer .badValue)
  else moveAnswer (s.pick m StationRec.recapturable) StationRec.toRecapture .recapture s

/-- RELEASE (R74). -/
def takeRelease (m : Mask) (s : State) : State × Answer :=
  if !s.run.op.running then (s, answer .wrongState)
  else if s.namesUnknown m then (s, answer .badValue)
  else moveAnswer (s.pick m fun r => r.state.engaged) StationRec.toIdle .release s

/-- The values of a FAULTED station after CLEAR_FAULT (R75). -/
def StationRec.toCleared (r : StationRec) : StationRec :=
  { r with state := .idle, cause := none, e := 0, miss := 0, command := .torqueOff, demand := 0 }

/-- Every FAULTED station to IDLE (R75). -/
def clearStations (s : State) : State :=
  eachStation (fun n r s => if r.state = .faulted then moveStation n r StationRec.toCleared .clearFault s else s) s

/-- The values of a station after a run reset (R78). -/
def StationRec.toReset (r : StationRec) : StationRec :=
  { r with state := .idle, cause := none, faultCommand := .torqueOff, command := .torqueOff, demand := 0, trim := 0, ff := 0,
           intervalFf := 0, e := 0, residue := 0, streak := 0, age := 0, slipTimer := 0, miss := 0, trimSat := false }

/-- Every station after a run reset, with a STATION report for each that was not IDLE (R78). -/
def resetStations (s : State) : State :=
  eachStation (fun n r s =>
    if r.state = .idle then setStation n r.toReset s else moveStation n r StationRec.toReset .runReset s) s

/-! ### GET_STATION -/

/-- Present only in FAULTED. -/
def StationRec.whenFaulted (r : StationRec) (x : Option Nat) : Field := .opt8 (if r.state = .faulted then x else none)

/-- The lock engine's part of a GET_STATION reply (R79, R212). -/
def StationRec.fields (n : Station) (r : StationRec) : List Field :=
  [.u8 n.val, .u8 r.block.axle.val, .u8 r.block.side.code, .u32 r.block.cpr, .u32 r.block.circ, .u8 r.block.lanes.code,
    .u8 r.block.direction.code, .u64 r.cnm.toNat, .u8 r.state.code, r.whenFaulted (r.cause.map StationCause.code),
    r.whenFaulted (some r.faultCommand.code), .opt8 (r.judgement.map Judgement.code), .u32 r.lastAt.toNat, .u16 r.since,
    .u32 r.lastRaw.toNat, .s64 r.measured, .s64 r.tLast, .s64 r.tNext, .u64 r.residue.toNat, .s32 r.e, .s32 r.ff,
    .s32 r.trim, .s32 r.demand, .u8 r.command.code, .u8 (flag r.trimSat), .u8 r.streak, .u16 r.age, .u16 r.slipTimer,
    .u8 r.miss] ++
  optFields 4 (fun f => [.s32 f]) (if r.baseline then r.force else none) ++
  [.opt8 (if r.baseline then r.drive.map DriveState.code else none)] ++
  optFields 1 (fun t => [.u8 t]) (if r.baseline then r.trip else none)

/-- The drive link controller's part of a GET_STATION reply (R22, 1.5, R212). -/
def LinkStation.fields (n : Station) (lanes : LaneUse) (x : LinkStation) : List Field :=
  let streak (k : Nat) : Field := .opt8 (if lanes = .ab then some k else none)
  [optOutcome x.outA, optOutcome x.outB, .opt8 (x.obs.map Observation.code), streak x.streakA, streak x.streakB,
    .u8 x.waiting.length] ++
  optFields 9 (fun o => [.u8 n.val, .u8 o.item.op.code, .u16 o.item.index, .s32 o.item.value, .u8 o.age]) x.outstanding

/-- GET_STATION (R79, R22). -/
def takeGetStation (station : Nat) (s : State) : State × Answer :=
  match stationOf station with
  | none => (s, answer .badValue)
  | some n =>
    match s.stationSeen n with
    | none => (s, answer .badValue)
    | some r => (s, okWith (r.fields n ++ (s.link.st[n]).fields n r.block.lanes))

end Sys2Proof.Machine
end

