-- ==== Sys2Proof/Machine/WindUp.lean ====
section
/-! DEFINITION. The wind-up monitor's stage: participating set, surface errors, spread and mean, cross terms, timer, warning
excursion, per-axle summaries (04_wind_up_supervision_and_cross_coupling.md, R81 to R89). -/

namespace Sys2Proof.Machine

/-- The station participates: LOCKED or SLIP after the judging stage, its observation accepted in it (R82). DEDUCED (log 48): a
station that a trim change moved out of LOCKED or SLIP and that completes its capture in the same judging stage participates,
though a bullet of R82 says that a station that left LOCKED or SLIP in this stage does not. -/
def StationRec.participates (r : StationRec) : Bool := r.state.geared && r.accepted

/-- The surface error of a participant in µm (R83). -/
def StationRec.surfaceError (r : StationRec) : Int := (r.e * r.cnm).tdiv (r.block.cpr * 1000)

/-- The surface error a station hands the monitor, none where it does not participate. -/
def State.surfaceOf (s : State) (n : Station) : Option Int :=
  match s.stations[n] with
  | some r => if r.participates then some r.surfaceError else none
  | none => none

/-- The participants with their surface errors, in station-number order. -/
def participants (surface : Vector (Option Int) 8) : List (Station × Int) :=
  stationList.filterMap fun n => surface[n].map fun e => (n, e)

/-- The participant with the largest surface error, the lowest-numbered of equals (R84). -/
def trailingOf (l : List (Station × Int)) : Option (Station × Int) :=
  l.foldl (fun best p => match best with | none => some p | some q => if q.2 < p.2 then some p else best) none

/-- The participant with the smallest surface error, the lowest-numbered of equals (R84). -/
def leadingOf (l : List (Station × Int)) : Option (Station × Int) :=
  l.foldl (fun best p => match best with | none => some p | some q => if p.2 < q.2 then some p else best) none

/-- The mean of some surface errors, truncated toward zero; none of none (R84, R89). -/
def meanOf (l : List Int) : Option Int := if l = [] then none else some ((l.sum).tdiv l.length)

/-- X of a participant against the mean (R85). -/
def crossTerm (kx : Nat) (r : StationRec) (surface mean : Int) : Int :=
  (((surface - mean) * (r.block.cpr * 1000)).tdiv r.cnm * kx).tdiv 16

/-- The cross term of a station, none where it does not participate (R85). -/
def State.crossOf (s : State) (surface : Vector (Option Int) 8) (mean : Option Int) (n : Station) : Option Int :=
  match s.stations[n], surface[n] with
  | some r, some e => some (match mean with | some m => crossTerm s.params.kx r e m | none => 0)
  | _, _ => none

/-- The records of the stations commissioned with an axle, with their numbers. -/
def State.onAxle (s : State) (a : Fin 4) : List (Station × StationRec) :=
  stationList.filterMap fun n => match s.stations[n] with
    | some r => if r.block.axle = a then some (n, r) else none
    | none => none

/-- The summary of one axle (R89). DEDUCED (log 40): in SETTLE too, where R92 says that the first computations leave the
values of reset, the accepted observations count, as R89 has it in every computation and lock state. -/
def State.summarise (s : State) (surface : Vector (Option Int) 8) (a : Fin 4) : Summary :=
  let l := s.onAxle a
  let acc := l.filter fun p => p.2.accepted
  let part := l.filterMap fun p => surface[p.1]
  { contributors := acc.length, force := (acc.map fun p => p.2.force.getD 0).sum, participants := part.length,
    mean := meanOf part }

/-- The spread is above a limit; an absent spread is not (R86, R87). -/
def spreadAbove (limit : Nat) (spread : Option Int) : Bool :=
  match spread with | some x => (limit : Int) < x | none => false

/-- The wind-up timer after a stage (R86). -/
def nextWindupTimer (limit : Nat) (spread : Option Int) (timer : Nat) : Nat :=
  if spreadAbove limit spread then satAdd 65535 timer 1 else 0

/-- What the monitor holds after its stage (R82 to R87, R89). -/
def State.monitorNext (s : State) : Monitor :=
  let surface := ofEight s.surfaceOf
  let l := participants surface
  let two := decide (2 ≤ l.length)
  let trail := if two then trailingOf l else none
  let lead := if two then leadingOf l else none
  let spread := match trail, lead with | some t, some d => some (t.2 - d.2) | _, _ => none
  let mean := if two then meanOf (l.map Prod.snd) else none
  { part := maskOf fun n => surface[n].isSome
    surface := surface
    cross := ofEight (s.crossOf surface mean)
    spread := spread
    mean := mean
    leading := lead.map Prod.fst
    trailing := trail.map Prod.fst
    timer := nextWindupTimer s.cell.windupLimit spread s.monitor.timer
    warn := spreadAbove (s.cell.windupLimit / 2) spread
    summaries := #v[s.summarise surface 0, s.summarise surface 1, s.summarise surface 2, s.summarise surface 3] }

/-- The detail of WINDUP and WINDUP_WARN: the spread and the trailing station (7.2). -/
def Monitor.detail (m : Monitor) : Option Detail :=
  match m.spread, m.trailing with | some x, some n => some (.spread x n) | _, _ => none

/-- The monitor's stage raises WINDUP: the timer goes from WINDUP_TIME to WINDUP_TIME + 1 (R86). -/
def State.windsUp (s : State) (m : Monitor) : Bool :=
  s.monitor.timer == s.cell.windupTime && m.timer == s.cell.windupTime + 1

/-- The monitor's stage opens a warning excursion (R87). -/
def State.warns (s : State) (m : Monitor) : Bool := m.warn && !s.monitor.warn

/-- The wind-up monitor's stage (R81). -/
def windupStage (s : State) : State :=
  let m := s.monitorNext
  let s' := { s with monitor := m }
  let s' := if s.windsUp m then raiseFault { kind := .windup, detail := m.detail } s' else s'
  if s.warns m then raiseFault { kind := .windupWarn, detail := m.detail } s' else s'

end Sys2Proof.Machine
end

