-- ==== Sys2Proof/Machine/Commission.lean ====
section
/-! DEFINITION. The commissioning store and the parameter table: the load, the commissioning requests, the store, the run
parameters (10_commissioning_and_parameters.md, R183 to R195, with R119 and R120). -/

namespace Sys2Proof.Machine

/-! ### The station table -/

/-- The station is commissioned by the working set: named in the mask, its block present (R183). -/
def Store.commissions (x : Store) (n : Station) : Option StationBlock :=
  match x.cell with
  | some k => if inMask k.mask n then x.blocks[n] else none
  | none => none

/-- The station needs a new record: newly commissioned, or its block just written (R189). -/
def State.renews (s : State) (written : Option Station) (n : Station) : Bool :=
  (s.store.commissions n).isSome && (!s.has n || written == some n)

/-- The station table and the drive link controller's stations follow the working set; `written` names a station whose block
a WRITE has replaced (R189). -/
def syncStations (written : Option Station) (s : State) : State :=
  { s with
    stations := ofEight fun n =>
      match s.store.commissions n with
      | none => none
      | some b => if s.renews written n then some (newRecord b s.params.circTrim[n]) else s.stations[n]
    link := { s.link with st := ofEight fun n => if s.renews written n then resetLinkStation else s.link.st[n] } }

/-- The station table follows a changed working set in CONFIG, and what names a station that has lost its record is told
(R189). -/
def followSet (written : Option Station) (s : State) : State := noteLost s.stations (syncStations written s)

/-- V_LIMIT of a cell block (R27). -/
def vLimitOf (k : CellBlock) : Int := axleSpeed k.vmax k.period

/-- V_LIMIT formed anew (R27). -/
def formLimit (k : CellBlock) (s : State) : State := { s with axle := { s.axle with vLimit := vLimitOf k } }

/-! ### The load -/

/-- The working set, the records, V_LIMIT and MASS of a load (R186). -/
def applyLoad (o : LoadOutcome) (w : Option (CellBlock × Vector (Option StationBlock) 8)) (s : State) : State :=
  match w with
  | some (k, blocks) =>
    formLimit k (syncStations none
      { s with store := { s.store with cell := some k, blocks := blocks, outcome := o },
               params := { s.params with mass := k.massMin } })
  | none =>
    syncStations none
      { s with store := { s.store with cell := none, blocks := Vector.replicate 8 none, outcome := o },
               params := { s.params with mass := 400 } }

/-- Where the part goes at load completion, with the STARTED report (R119): SETTLE, the link starting and the set locked, or
CONFIG. -/
def leaveLoading (s : State) : State :=
  let o := s.store.outcome
  if o = .valid ∧ s.run.stay = false then
    checkEstop (submit (.started s.run.reason o .settle) (startLink (settleValues s)))
  else submit (.started s.run.reason o .config) { s with run := { s.run with op := .config } }

/-- Load completion (R119, R186): acts only while the part loads. -/
def completeLoad (answers : Bool) (s : State) : State :=
  if s.run.op = .loading ∧ s.pins.resetHeld = false then
    let r := loadImage answers s.mem s.memCut
    leaveLoading (applyLoad r.1 r.2 s)
  else s

/-! ### Commissioning requests -/

/-- COMMISSION_CELL (R187). -/
def takeCommissionCell (k : CellBlock) (s : State) : State × Answer :=
  if s.store.locked then (s, answer .locked)
  else if !cellInRange k then (s, answer .badValue)
  else
    (followSet none (formLimit k
      { s with store := { s.store with cell := some k },
               params := { s.params with mass := max k.massMin (min k.massMax s.params.mass) } }), answer .ok)

/-- A block held or removed for a station. -/
def setBlock (n : Station) (b : Option StationBlock) (s : State) : State :=
  { s with store := { s.store with blocks := s.store.blocks.set n b } }

/-- COMMISSION_STATION with action WRITE (R188). -/
def takeCommissionWrite (station : Nat) (raw : RawStation) (s : State) : State × Answer :=
  if s.store.locked then (s, answer .locked)
  else match stationOf station, parseStation raw with
    | some n, some b =>
      if duplicatePosition s.store.blocks n b then (s, answer .duplicatePosition)
      else (followSet (some n) (setBlock n (some b) s), answer .ok)
    | _, _ => (s, answer .badValue)

/-- COMMISSION_STATION with action CLEAR (R188). -/
def takeCommissionClear (station : Nat) (s : State) : State × Answer :=
  if s.store.locked then (s, answer .locked)
  else match stationOf station with
    | some n => (followSet none (setBlock n none s), answer .ok)
    | none => (s, answer .badValue)

/-- COMMISSION_STATION with an action outside its set (R188). -/
def takeCommissionOther (s : State) : State × Answer :=
  if s.store.locked then (s, answer .locked) else (s, answer .badValue)

/-- BAD_VALUE with the first missing item (R202). -/
def missingAnswer (m : MissingItem) : Answer := { status := .badValue, fields := m.fields }

/-- LEAVE_CONFIG (R120, R191). -/
def takeLeaveConfig (s : State) : State × Answer :=
  if s.run.op ≠ .config then (s, answer .locked)
  else match s.missing with
    | some m => (s, missingAnswer m)
    | none => (checkEstop (submitState .config .leaveConfig none false (startLink (settleValues s))), answer .ok)

/-- STORE_COMMISSIONING: an accepted store has no reply yet (R190, R201). -/
def takeStore (s : State) : State × Option Answer :=
  if s.store.locked then (s, some (answer .locked))
  else match s.missing with
    | some m => (s, some (missingAnswer m))
    | none => ({ s with store := { s.store with storing := true } }, none)

/-- The image's byte writes; none with no cell block. -/
def State.imageWrites (s : State) : List (Nat × Byte) :=
  match s.store.cell with
  | some k => storeWrites k s.store.blocks
  | none => []

/-- L, the length of the image a store writes (R213). -/
def State.imageLength (s : State) : Nat :=
  match s.store.cell with
  | some k => (imageBytes k s.store.blocks).length
  | none => 0

/-- The memory after the writing and read-back of a store (R190): a failed store leaves the bytes the event names, and none
beyond L (R213). -/
def storedMemory (r : StoreResult) (s : State) : Memory :=
  match r with
  | .stored => memWrites s.mem s.imageWrites
  | .failed left => memWrites s.mem (placed 0 (left.take s.imageLength))

/-- The status of a store's reply (R190). -/
def storeStatus : StoreResult → Status
  | .stored => .ok
  | .failed _ => .storeFailed

/-- The memory, and whether it holds what a cut store left, after a full reset that may cut a store (R135, R190). -/
def cutMemory (x : StoreCut) (s : State) : Memory × Bool :=
  if s.store.storing then
    match x with
    | .writing done => (memWrites s.mem (s.imageWrites.take done), true)
    | .readBack => (memWrites s.mem s.imageWrites, false)
  else (s.mem, s.memCut)

/-- The cell block's fields (R183, 12.4). -/
def cellFields (k : CellBlock) : List Field :=
  [.u16 k.period, .u8 k.mask.toNat, .u16 k.vmax, .u16 k.stopDecel, .u32 k.massMin, .u32 k.massMax, .u32 k.windupLimit,
    .u16 k.windupTime, .u8 k.linkLostLimit, .u16 k.settleCount]

/-- The store's part of a GET_STATUS reply (R184, R212). -/
def State.storeFields (s : State) : List Field :=
  [.u8 (flag s.store.locked), .u8 s.store.outcome.code] ++ optFields 24 cellFields s.store.cell ++
  [maskField (maskOf fun n => s.store.blocks[n].isSome), .u8 (flag s.missing.isNone)] ++
  optFields 2 MissingItem.fields s.missing

/-! ### Run parameters -/

/-- The station whose circumference trim an identifier names (10.4). -/
def trimStation (ident : Nat) : Option Station := if 32 ≤ ident then stationOf (ident - 32) else none

/-- The bounds of MASS (10.4, R194). -/
def State.massBounds (s : State) : Nat × Nat :=
  match s.store.cell with | some k => (k.massMin, k.massMax) | none => (400, 80000)

/-- The range of a parameter (10.4). -/
def State.paramRange (s : State) (ident : Nat) : Int × Int :=
  match ident with
  | 1 => (0, 4096) | 2 => (0, 4096) | 3 => (0, 4000000) | 4 => (1, 1000000) | 5 => (2, 4000000) | 6 => (1, 65534)
  | 7 => (1, 1000000) | 8 => (1, 64) | 9 => (64, 65534) | 10 => (1, 15) | 11 => (16, 1000000) | 12 => (10, 1000)
  | 13 => (10, 1000) | 14 => (1, 10000) | 15 => (0, 1) | 16 => (1, 4) | 17 => (0, 1) | 18 => (0, 200000)
  | 19 => (0, 1000000) | 20 => (0, 1000000) | 21 => (s.massBounds.1, s.massBounds.2) | _ => (-5000, 5000)

/-- The stored value of a parameter; none for an identifier not in the table or a trim of a station with no record (R192,
R195). -/
def State.paramValue (s : State) (ident : Nat) : Option Int :=
  let p := s.params
  match ident with
  | 1 => some p.kp | 2 => some p.kx | 3 => some p.trimMax | 4 => some p.lockWindow | 5 => some p.slipWindow
  | 6 => some p.slipTime | 7 => some p.captureWindow | 8 => some p.captureCycles | 9 => some p.captureLimit
  | 10 => some p.missLimit | 11 => some p.jumpLimit | 12 => some p.accelLimit | 13 => some p.tolBand | 14 => some p.tolTime
  | 15 => some (flag p.underrunStop : Nat) | 16 => some p.reportLevel | 17 => some (flag p.countEnable : Nat)
  | 18 => some p.a | 19 => some p.b | 20 => some p.c | 21 => some p.mass
  | i => match trimStation i with
    | some n => if s.has n then some p.circTrim[n] else none
    | none => none

/-- A parameter stored. -/
def Params.put (p : Params) (ident : Nat) (v : Int) : Params :=
  let k := v.toNat
  match ident with
  | 1 => { p with kp := k } | 2 => { p with kx := k } | 3 => { p with trimMax := k } | 4 => { p with lockWindow := k }
  | 5 => { p with slipWindow := k } | 6 => { p with slipTime := k } | 7 => { p with captureWindow := k }
  | 8 => { p with captureCycles := k } | 9 => { p with captureLimit := k } | 10 => { p with missLimit := k }
  | 11 => { p with jumpLimit := k } | 12 => { p with accelLimit := k } | 13 => { p with tolBand := k }
  | 14 => { p with tolTime := k } | 15 => { p with underrunStop := k == 1 } | 16 => { p with reportLevel := k }
  | 17 => { p with countEnable := k == 1 } | 18 => { p with a := k } | 19 => { p with b := k } | 20 => { p with c := k }
  | 21 => { p with mass := k }
  | i => match trimStation i with
    | some n => { p with circTrim := p.circTrim.set n v }
    | none => p

/-- A value brought within its range, with the windows kept apart (R192, R193). -/
def State.fitParam (s : State) (ident : Nat) (v : Int) : Int :=
  let r := s.paramRange ident
  let x := clampInt r.1 r.2 v
  if ident = 4 then (if (s.params.slipWindow : Int) ≤ x then s.params.slipWindow - 1 else x)
  else if ident = 5 then (if x ≤ s.params.lockWindow then s.params.lockWindow + 1 else x)
  else x

/-- UNDERRUN_POLICY and COUNT_ENABLE take a value of their set or none (R192). -/
def setParameter (ident : Nat) : Bool := ident == 15 || ident == 17

/-- SET_PARAM (R192, R193). -/
def takeSetParam (ident : Nat) (value : Int) (s : State) : State × Answer :=
  match s.paramValue ident with
  | none => (s, answer .badValue)
  | some _ =>
    if setParameter ident && (value != 0 && value != 1) then (s, answer .badValue)
    else
      let v := s.fitParam ident value
      ({ s with params := s.params.put ident v },
        { status := if v = value then .ok else .clamped, fields := [.u8 ident, .s32 v] })

/-- GET_PARAM (R195). -/
def takeGetParam (ident : Nat) (s : State) : State × Answer :=
  match s.paramValue ident with
  | none => (s, answer .badValue)
  | some v => (s, okWith [.u8 ident, .s32 v])

/-- The road load stored (R194). -/
def State.roadLoad (s : State) (a b c mass : Nat) : Params :=
  { s.params with a := min a 200000, b := min b 1000000, c := min c 1000000,
                  mass := max s.massBounds.1 (min s.massBounds.2 mass) }

/-- SET_ROAD_LOAD (R194). -/
def takeSetRoadLoad (a b c mass : Nat) (s : State) : State × Answer :=
  let p := s.roadLoad a b c mass
  ({ s with params := p },
    { status := if p.a = a ∧ p.b = b ∧ p.c = c ∧ p.mass = mass then .ok else .clamped,
      fields := [.u32 p.a, .u32 p.b, .u32 p.c, .u32 p.mass] })

end Sys2Proof.Machine
end

