-- ==== Sys2Proof/Machine/TraceBuffer.lean ====
section
/-! DEFINITION. The trace buffer: capture at a completion, SET_TRACE, READ_TRACE (R176 to R180). -/

namespace Sys2Proof.Machine

/-- The number of stations in a mask. -/
def maskCount (m : Mask) : Nat := (stationList.filter (inMask m)).length

/-- The capacity in records of the ring of 8,192 words (R177). -/
def traceCapacity (m : Mask) : Nat := 8192 / (3 + 3 * maskCount m)

/-- A signed value as a 32-bit word. -/
def word (i : Int) : Word32 := BitVec.ofInt 32 i

/-- The three words of a masked station; 0 without a record, and force 0 without a baseline (R176, R177). One that has lost its
record since SET_TRACE counts as without one (`captureRecord`). -/
def stationWords : Option StationRec → List Word32
  | none => [0, 0, 0]
  | some r => [word r.e, word r.demand, word (if r.baseline then r.force.getD 0 else 0)]

/-- The capture record of this completion (R177): V' in whole nm per cycle, trace speed in the upper half of word 3 and the
player state in its lowest byte (12.2), and the masked stations as the demand assembly left them, those that lost their record
since SET_TRACE with 0 (R176; DEDUCED, log 42: also once commissioned again). -/
def captureRecord (records : Vector (Option StationRec) 8) (s : State) : List Word32 :=
  [s.run.count, word (s.axle.v.tdiv 65536),
    BitVec.ofNat 32 (s.player.speed.toNat * 65536 + s.player.mode.code)] ++
  (stationList.filter (inMask s.trace.mask)).flatMap (fun n => stationWords (if inMask s.trace.lost n then none else records[n]))

/-- A record to be stored (R179). -/
def storeRecord (r : List Word32) (s : State) : State :=
  if s.trace.records.length < traceCapacity s.trace.mask then
    { s with trace := { s.trace with records := s.trace.records ++ [r] } }
  else if s.trace.overwrite then
    { s with trace := { s.trace with records := s.trace.records.drop 1 ++ [r] } }
  else if s.trace.fullReported then s
  else submit (.traceFull s.trace.records.length s.run.count) { s with trace := { s.trace with fullReported := true } }

/-- The trace buffer's work at the completion of a computation, whose `capture` is a CAPTURE request that waited when it
began (R166, R178). -/
def traceCapture (k : Computation) (s : State) : State :=
  if s.run.op.inRun && s.trace.enable && (k.capture || s.run.count.toNat % s.trace.decimation == 0) then
    storeRecord (captureRecord k.records s) s
  else s

/-- The trace buffer after a run reset: emptied, configuration kept (R182). -/
def Trace.runReset (t : Trace) : Trace := { t with records := [], fullReported := false, waiting := false }

/-- SET_TRACE (R176). -/
def takeSetTrace (m : Mask) (decimation policy enable : Nat) (s : State) : State × Answer :=
  if s.namesUnknown m || decimation < 1 || 256 < decimation || 2 ≤ policy || !isFlag enable then (s, answer .badValue)
  else
    ({ s with trace := { s.trace with mask := m, decimation := decimation, overwrite := policy == 1, enable := enable == 1,
                                      records := [], fullReported := false, lost := 0 } },
      okWith [.u16 s.trace.records.length])

/-- How many records a READ_TRACE returns (R180). -/
def traceReturned (maximum : Nat) (t : Trace) : Nat :=
  min (min maximum t.records.length) (1016 / (12 + 12 * maskCount t.mask))

/-- READ_TRACE (R179, R180). -/
def takeReadTrace (maximum : Nat) (s : State) : State × Answer :=
  let n := traceReturned maximum s.trace
  let rest := s.trace.records.drop n
  ({ s with trace := { s.trace with records := rest, fullReported := if n = 0 then s.trace.fullReported else false } },
    okWith ([maskField s.trace.mask, .u16 n, .u32 rest.length] ++
      (s.trace.records.take n).flatMap (fun r => r.map (fun w => .u32 w.toNat))))

end Sys2Proof.Machine
end

