-- ==== Sys2Proof/Machine/EventTable.lean ====
section
/-! DEFINITION. The event table: firing, the three tests, ADD_EVENT, MODIFY_EVENT, REMOVE_EVENT, CLEAR_EVENTS (R155 to
R166). -/

namespace Sys2Proof.Machine

/-- The entry numbers in order. -/
def entryList : List (Fin 16) := [0, 1, 2, 3, 4, 5, 6, 7, 8, 9, 10, 11, 12, 13, 14, 15]

/-- Entry i replaced. -/
def setEntry (i : Fin 16) (e : Option EventEntry) (s : State) : State :=
  { s with events := { s.events with entries := s.events.entries.set i e } }

/-- The EVENT report of an entry that has fired (R164). -/
def eventReport (i : Fin 16) (e : EventEntry) (s : State) : ReportBody :=
  match e.trigger with
  | .cycle _ _ => .eventCycle i e.fires s.link.counter
  | .distance _ _ next => .eventDistance i e.fires s.distanceMm next
  | .traceTime _ => .eventTrace i e.fires s.player.clock

/-- A mark handed to the marker line (R163). -/
def handMark (s : State) : State := { s with events := { s.events with markPending := true } }

/-- An entry that fires, `e` being the entry with its trigger already advanced or disarmed: its fire count rises and its
actions are carried out (R159, R163 to R166). -/
def fire (i : Fin 16) (e : EventEntry) (s : State) : State :=
  let e := { e with fires := satAdd 65535 e.fires 1 }
  let s := setEntry i (some e) s
  let s := if e.actions.mark then handMark s else s
  let s := if e.actions.report then submit (eventReport i e s) s else s
  let s := if e.actions.snapshot then takeSnapshot i s else s
  if e.actions.capture then { s with trace := { s.trace with waiting := true } } else s

/-- The next mark after a firing at a distance in mm at or above it: the first mark above the distance (R161). -/
def nextMark (next period mm : Nat) : Nat := next + ((mm - next) / period + 1) * period

/-- The entry that fires at a cycle start, if it does (R160). -/
def EventEntry.cycleTest (e : EventEntry) (counter : BitVec 6) : Option EventEntry :=
  match e.trigger with
  | .cycle v m => if (counter ^^^ v) &&& m = 0 then some e else none
  | _ => none

/-- The entry that fires at a completion, if it does, its mark advanced or disarmed (R161, R162). -/
def EventEntry.completionTest (e : EventEntry) (mm : Int) (clock : Word32) : Option EventEntry :=
  match e.trigger with
  | .cycle _ _ => none
  | .distance st p next =>
    if (next : Int) ≤ mm then some { e with trigger := .distance st p (nextMark next p mm.toNat) } else none
  | .traceTime t => if e.armed ∧ clock.toNat = t then some { e with armed := false } else none

/-- The entries that a test lets fire, in entry-number order (R159). -/
def fireAll (test : EventEntry → Option EventEntry) (s : State) : State :=
  entryList.foldl (fun s i =>
    match s.events.entries[i].bind test with
    | some e => fire i e s
    | none => s) s

/-- The CYCLE tests of a cycle start in READY, RUN or STOPPING (R160). -/
def cycleTests (s : State) : State :=
  if s.run.op.enables then fireAll (fun e => e.cycleTest s.link.counter) s else s

/-- The DISTANCE and TRACE_TIME tests at the completion of a computation that began in RUN or STOPPING, SAFE not having been
entered within it and no run end made (R161, R162). -/
def completionTests (k : Computation) (s : State) : State :=
  if k.began.inRun && !k.void && s.run.op.inRun then fireAll (fun e => e.completionTest s.distanceMm s.player.clock) s else s

/-- The event table at a run reset: persistent entries only, re-based, no mark pending (R158, R163, R167). -/
def Events.runReset (t : Events) : Events :=
  { entries := rebaseEvents (keepEvents (fun e => e.persistent) t.entries), markPending := false }

/-! ### Requests -/

/-- A trigger in its ranges for a new entry: the next mark is the start mark (R155, R156). -/
def parseTrigger : TriggerArg → Option Trigger
  | .cycle v m => if v < 64 ∧ m < 64 then some (.cycle (BitVec.ofNat 6 v) (BitVec.ofNat 6 m)) else none
  | .distance st p => if st < 4294967296 ∧ 1 ≤ p ∧ p ≤ 1000000 then some (.distance st p st) else none
  | .traceTime t => if t < 4294967296 then some (.traceTime t) else none
  | .other _ => none

/-- The action set of its weights (12.2). -/
def actionsOf (n : Nat) : Actions :=
  { mark := n.testBit 0, report := n.testBit 1, snapshot := n.testBit 2, capture := n.testBit 3 }

/-- The lowest-numbered free entry (R156). -/
def freeEntry (t : Events) : Option (Fin 16) := entryList.find? fun i => t.entries[i].isNone

/-- ADD_EVENT (R156). -/
def takeAddEvent (trigger : TriggerArg) (actions runTag persistent : Nat) (s : State) : State × Answer :=
  match parseTrigger trigger with
  | none => (s, answer .badValue)
  | some t =>
    if actions = 0 ∨ 16 ≤ actions ∨ 255 < runTag ∨ !isFlag persistent then (s, answer .badValue)
    else match freeEntry s.events with
      | none => (s, answer .tableFull)
      | some i =>
        (setEntry i (some { trigger := t, actions := actionsOf actions, runTag := runTag, persistent := persistent == 1,
                            armed := true, fires := 0 }) s, okWith [.u8 i.val])

/-- The trigger of an entry after MODIFY_EVENT, none where the kinds differ: a DISTANCE entry keeps its next mark (R157). -/
def Trigger.modify : Trigger → Trigger → Option Trigger
  | .cycle _ _, .cycle v m => some (.cycle v m)
  | .distance _ _ next, .distance st p _ => some (.distance st p next)
  | .traceTime _, .traceTime t => some (.traceTime t)
  | _, _ => none

/-- The fields of a MODIFY_EVENT reply: the next mark is present for DISTANCE (R157, R211; DEDUCED, log 34). -/
def EventEntry.modifyFields (e : EventEntry) : List Field :=
  [.u16 e.fires, .u8 (flag e.armed)] ++
    optFields 8 (fun n => [.u64 n]) (match e.trigger with | .distance _ _ n => some n | _ => none)

/-- MODIFY_EVENT (R157). -/
def takeModifyEvent (entry : Nat) (trigger : TriggerArg) (s : State) : State × Answer :=
  if h : entry < 16 then
    match parseTrigger trigger with
    | none => (s, answer .badValue)
    | some t =>
      match s.events.entries[(⟨entry, h⟩ : Fin 16)] with
      | none => (s, answer .notFound)
      | some e =>
        match e.trigger.modify t with
        | none => (s, answer .badValue)
        | some t' =>
          let e' := { e with trigger := t', armed := true }
          (setEntry ⟨entry, h⟩ (some e') s, okWith e'.modifyFields)
  else (s, answer .badValue)

/-- REMOVE_EVENT (R158). -/
def takeRemoveEvent (entry : Nat) (s : State) : State × Answer :=
  if h : entry < 16 then
    match s.events.entries[(⟨entry, h⟩ : Fin 16)] with
    | none => (s, answer .notFound)
    | some e => (setEntry ⟨entry, h⟩ none s, okWith [.u16 e.fires])
  else (s, answer .badValue)

/-- The number of entries in use. -/
def entriesInUse (v : Vector (Option EventEntry) 16) : Nat := (entryList.filter fun i => v[i].isSome).length

/-- Entries removed by a request, with the number removed (R158). -/
def clearWith (keep : EventEntry → Bool) (s : State) : State × Answer :=
  let v := keepEvents keep s.events.entries
  ({ s with events := { s.events with entries := v } },
    okWith [.u8 (entriesInUse s.events.entries - entriesInUse v)])

/-- CLEAR_EVENTS (R158). -/
def takeClearEvents (sel : ClearArg) (s : State) : State × Answer :=
  match sel with
  | .other _ => (s, answer .badValue)
  | .all => clearWith (fun _ => false) s
  | .tag t => if 255 < t then (s, answer .badValue) else clearWith (fun e => e.persistent || e.runTag != t) s

end Sys2Proof.Machine
end

