-- ==== Sys2Proof/Machine/Profile.lean ====
section
/-! DEFINITION. The profile player: appending, discarding, playing, segment starts and ends, holds, underrun, the end of the
profile, the speed-band check (05_drive_profiles.md, R94 to R111). -/

namespace Sys2Proof.Machine

/-- A phase opened by a segment's phase number (R102). -/
def openPhase (new : Nat) (s : State) : State :=
  let s := handMark (submit (.phase new s.player.phase s.player.phaseTol s.player.clock) s)
  { s with player := { s.player with phase := some new, phaseTol := 0 } }

/-- A segment start (R101): `rest` is what still waits. -/
def startSegment (g : Segment) (rest : List Segment) (s : State) : State :=
  let s := { s with player := { s.player with active := some g, waiting := rest, mode := .playing, point := 0, elapsed := 0,
                                              start := s.player.speed, lastTag := some g.tag } }
  let s := submit (.segmentStarted g.tag s.player.clock rest.length) s
  let s := { s with axle := { s.axle with grade := g.grade } }
  match g.phase with
  | some p => openPhase p s
  | none => s

/-- The profile's end by LAST or FINISH (R109): a SPEED run enters STOPPING. -/
def endProfile (reason : EndReason) (s : State) : State :=
  let s := playerEnd reason s
  match s.run.mode with
  | .speed => enterStopping .profileEnd none s
  | .road => s

/-- The test of UNDERRUN_POLICY (R107). -/
def underrunTest (s : State) : State :=
  if s.run.mode = .speed ∧ s.inForce.underrunStop then enterStopping .underrunStop none s else s

/-- Entry to UNDERRUN (R106, R107). -/
def enterUnderrun (s : State) : State :=
  underrunTest (raiseFault { kind := .underrun } { s with player := { s.player with active := none, mode := .underrun } })

/-- The end of a segment decided, with or without its HOLD_AT_END (R103, R105). -/
def decideEnd (hold : Bool) (g : Segment) (s : State) : State :=
  if hold && g.holdAtEnd then
    submit (.hold g.tag s.player.speed s.player.clock) { s with player := { s.player with mode := .held } }
  else if g.last then endProfile .last s
  else match s.player.waiting with
    | next :: rest => startSegment next rest s
    | [] => enterUnderrun s

/-- The trace speed within a point (R100). -/
def interpolate (start : Int) (p : Point) (elapsed : Nat) : Int :=
  start + (((p.speed : Int) - start) * elapsed).tdiv p.duration

/-- One cycle of the current point played (R100): the player, and whether the segment's last point completed. -/
def Player.playCycle (y : Player) (g : Segment) : Player × Bool :=
  match g.points[y.point]? with
  | none => (y, false)
  | some p =>
    let y := { y with clock := y.clock + 1, elapsed := y.elapsed + 1, speed := interpolate y.start p (y.elapsed + 1) }
    if y.elapsed = p.duration then
      if y.point + 1 < g.points.length then
        ({ y with point := y.point + 1, elapsed := 0, start := p.speed }, false)
      else (y, true)
    else (y, false)

/-- The player's work at a completion (R100, R103, R107, R108). -/
def playerWork (s : State) : State :=
  match s.player.mode, s.player.active with
  | .playing, some g =>
    let y := s.player.playCycle g
    let s := { s with player := y.1 }
    if y.2 then decideEnd true g (submit (.segmentEnded g.tag s.player.clock) s) else s
  | .underrun, _ =>
    match s.player.waiting with
    | next :: rest => startSegment next rest s
    | [] => underrunTest s
  | _, _ => s

/-- The player after a check that finds the speed outside the band (R110). -/
def Player.outside (y : Player) : Player := { y with excursion := satAdd 65535 y.excursion 1 }

/-- The player after a check that finds it inside (R110). -/
def Player.inside (y : Player) : Player := { y with excursion := 0, raised := false }

/-- The speed lies outside the band around the trace (R110). -/
def State.outOfBand (s : State) : Bool :=
  s.inForce.tolBand < (displaySpeed s.axle.v s.period - s.player.speed).natAbs

/-- The check is made: RUN, ROAD, PLAYING (R110). -/
def State.checksBand (s : State) : Bool :=
  s.run.op == .run && s.run.mode == .road && s.player.mode == .playing

/-- TOLERANCE raised for the open excursion (R111). -/
def raiseTolerance (s : State) : State :=
  let s := raiseFault { kind := .tolerance, detail := some (.phase s.player.phase) } s
  { s with player := { s.player with raised := true, phaseTol := satAdd 255 s.player.phaseTol 1 } }

/-- The check would raise TOLERANCE (R111). -/
def State.exceedsTolerance (s : State) : Bool :=
  s.checksBand && s.outOfBand && !s.player.raised && s.inForce.tolTime < s.player.outside.excursion

/-- The speed-band check (R110, R111). -/
def bandCheck (s : State) : State :=
  if s.checksBand then
    if s.outOfBand then
      let s' := { s with player := s.player.outside }
      if s.exceedsTolerance then raiseTolerance s' else s'
    else { s with player := s.player.inside }
  else s

/-! ### Requests -/

/-- The segment's fields lie within their ranges (R94). -/
def segmentInRange (vmax : Nat) (g : Segment) : Bool :=
  within 1 48 g.points.length && g.points.all (fun p => 1 ≤ p.duration && p.speed ≤ vmax) &&
    decide (-3000 ≤ g.grade) && decide (g.grade ≤ 3000) && (match g.phase with | some p => decide (p ≤ 15) | none => true)

/-- APPEND_SEGMENT (R94). -/
def takeAppend (g : Segment) (s : State) : State × Answer :=
  if s.run.op ≠ .ready ∧ s.run.op ≠ .run then (s, answer .wrongState)
  else if !segmentInRange s.cell.vmax g then (s, answer .badValue)
  else if 4 ≤ s.player.waiting.length then (s, answer .queueFull)
  else
    ({ s with player := { s.player with waiting := s.player.waiting ++ [g] } },
      okWith [.u8 (s.player.waiting.length + 1)])

/-- DISCARD_SEGMENTS (R97). -/
def takeDiscard (s : State) : State × Answer :=
  ({ s with player := { s.player with waiting := [] } }, okWith [.u8 s.player.waiting.length])

/-- A release carried out on the held segment (R105). -/
def releaseHeld (a : HoldAction) (g : Segment) (s : State) : State :=
  match a with
  | .goOn => decideEnd false g s
  | .again => startSegment g s.player.waiting s
  | .finish => endProfile .finish s
  | .other _ => s

/-- RELEASE_HOLD (R105). -/
def takeReleaseHold (a : HoldAction) (s : State) : State × Answer :=
  match a with
  | .other _ => (s, answer .badValue)
  | a =>
    match s.player.mode, s.player.active with
    | .held, some g => (releaseHeld a g s, answer .ok)
    | _, _ => (s, answer .notHeld)

/-- The player at the start of a run, before its first segment (R99). -/
def Player.started (y : Player) : Player :=
  { y with clock := 0, speed := 0, phase := none, phaseTol := 0, excursion := 0, raised := false, ended := none,
           lastTag := none }

/-- The player's part of START_RUN (R99). -/
def playerStart (s : State) : State :=
  let s := { s with player := s.player.started }
  match s.player.waiting with
  | next :: rest => startSegment next rest s
  | [] => s

/-! ### GET_STATUS -/

/-- The current point's index, elapsed, duration and end speed with the active segment's tag (R112). -/
def activeFields (y : Player) (g : Segment) : List Field :=
  let p := (g.points[y.point]?).getD { duration := 0, speed := 0 }
  [.u16 g.tag, .u8 y.point, .u16 y.elapsed, .u16 p.duration, .u16 p.speed]

/-- The player's part of a GET_STATUS reply (R112, R212). -/
def Player.fields (y : Player) : List Field :=
  [.u8 y.mode.code, .opt8 (if y.mode = .ended then y.ended.map EndReason.code else none)] ++
  optFields 9 (activeFields y) y.active ++
  [.u8 y.waiting.length] ++ y.waiting.map (fun g => .u16 g.tag) ++
  [.u16 y.speed.toNat, .u32 y.clock.toNat, .opt8 y.phase, .u8 y.phaseTol, .u16 y.excursion, .u8 (flag y.raised)]

end Sys2Proof.Machine
end

