-- ==== Sys2Proof/Machine/RunControl.lean ====
section
/-! DEFINITION. The run controller and the fault manager's requests: START_RUN, STOP_RUN, run end, the resets, CLEAR_FAULT,
settling, the LINK_LOST check, READ_FAULTS (06_run_control.md, 07_faults_and_reactions.md). -/

namespace Sys2Proof.Machine

/-! ### Runs -/

/-- The run mode of a code (12.2). -/
def runModeOf : Nat → Option RunMode
  | 0 => some .road
  | 1 => some .speed
  | _ => none

/-- The generator at the start of a run (R42). -/
def Axle.started (x : Axle) : Axle :=
  { x with v := 0, whole := 0, frac := 0, grade := 0, fSum := 0, fRoad := 0, fGrade := 0, fNet := 0 }

/-- The stations START_RUN engages (R64). -/
def State.engaging (s : State) (m : Mask) : Mask := s.pick m fun r => r.state == .idle

/-- The effects of an accepted START_RUN, in the order of R125, with the re-basing of R158. -/
def startRun (mode : RunMode) (tag : Nat) (engage : Mask) (count : Bool) (s : State) : State :=
  let s := { s with run := { s.run with count := 0, tag := tag, mode := mode, countEnable := count, fresh := true } }
  let s := { s with axle := s.axle.started, events := { s.events with entries := rebaseEvents s.events.entries } }
  let s := playerStart s
  let s := moveMask engage StationRec.toCapture .startRun s
  submitState .ready .startRun none false { s with run := { s.run with op := .run } }

/-- START_RUN (R124, R125). DEDUCED (log 17): a run tag above 255 or a flag code other than 0 and 1 makes BAD_VALUE. -/
def takeStartRun (mode tag : Nat) (engage : Mask) (count : Nat) (s : State) : State × Answer :=
  if s.run.op ≠ .ready then (s, answer .wrongState)
  else if s.faults.reaction ≠ .none then (s, answer .faultPending)
  else match runModeOf mode with
    | none => (s, answer .badValue)
    | some m =>
      if s.namesUnknown engage || 255 < tag || !isFlag count then (s, answer .badValue)
      else if m = .speed ∧ s.player.waiting = [] then (s, answer .profileEmpty)
      else (startRun m tag (s.engaging engage) (count == 1) s, okWith [maskField (s.engaging engage)])

/-- STOP_RUN (R126). -/
def takeStopRun (s : State) : State × Answer :=
  match s.run.op with
  | .run => (enterStopping .stopRun none s, answer .ok)
  | .stopping => (s, answer .ok)
  | _ => (s, answer .wrongState)

/-- Run end (R127). -/
def runEnd (s : State) : State :=
  let s := idleEngaged .runEnd s
  let s := { s with player := s.player.emptied }
  let s := removeRunEvents s
  submitState .stopping .standstill none false
    { s with run := { s.run with countEnable := false, stopCause := none, op := .ready },
             pins := { s.pins with driveEnable := true } }

/-! ### Resets -/

/-- The run controller after a run reset, before the entry to SETTLE (R133, R137). -/
def Run.cleared (r : Run) : Run :=
  { r with count := 0, countEnable := false, stopCause := none, orderly := false, settleCount := 0, settleTimer := 0 }

/-- The run reset's effects on the blocks after the service items and before the stations: any computation is dropped, the
generator and the monitor emptied (R45, R93). -/
def resetCore (s : State) : State :=
  { s with comp := none, axle := { resetAxle with vLimit := s.axle.vLimit }, monitor := resetMonitor }

/-- The run reset's effects on the remaining blocks (R115, R133, R154, R158, R167, R181, R182). -/
def resetBlocks (s : State) : State :=
  { s with player := resetPlayer, run := s.run.cleared, faults := { s.faults with silence := 0 },
           events := s.events.runReset, stats := s.stats.runReset, trace := s.trace.runReset }

/-- SETTLE entered from a running state with its STATE report; an asserted ESTOP is then acted on (R118, R131). -/
def resettle (prev : OpState) (cause : StateCause) (s : State) : State :=
  checkEstop (submitState prev cause none false (settleValues s))

/-- A run reset (R133): its effects in the order of its table, then SETTLE; in CONFIG the part stays there. -/
def runReset (s : State) : State :=
  let prev := s.run.op
  let s := resetBlocks (resetStations (resetCore (cancelService s)))
  if prev.running then resettle prev .runReset s else s

/-- RESET at level RUN (R133, R134). -/
def takeResetRun (orderly : Bool) (s : State) : State × Answer :=
  if s.run.op = .safe ∧ s.pins.estop = true then (s, answer .causePresent)
  else if orderly ∧ s.run.op = .run then
    (enterStopping .orderlyReset none { s with run := { s.run with orderly := true } }, answer .ok)
  else if orderly ∧ s.run.op = .stopping then ({ s with run := { s.run with orderly := true } }, answer .ok)
  else (runReset s, answer .ok)

/-- RESET (R133, R134). DEDUCED (log 17): a flag code other than 0 and 1 makes BAD_VALUE. -/
def takeReset (level manner stay : Nat) (s : State) : State × Answer :=
  if 2 ≤ level ∨ 2 ≤ manner ∨ 2 ≤ stay then (s, answer .badValue)
  else if level = 0 then
    ({ s with port := { s.port with fullReset := some { stay := stay == 1, sent := false } } }, answer .ok)
  else takeResetRun (manner == 0) s

/-- The line rate of the straps (R196). -/
def rateOf (x : Straps) : Nat :=
  match x.rateA, x.rateB with
  | true, false => 2
  | false, true => 4
  | _, _ => 1

/-- A full reset begins: every block at its full-reset values, the part in LOADING. The ESTOP line, the commissioning memory,
the waiting commands and the count of open orders stay (R23, R44, R80, R92, R114, R133, R137, R153, R167, R181, R182, R195,
R208). -/
def fullReset (reason : ResetReason) (stay held : Bool) (rate : Nat) (mem : Memory × Bool) (s : State) : State :=
  { State.reset with
    pending := s.pending
    pins := { estop := s.pins.estop, driveEnable := false, marker := false, resetHeld := held }
    run := { resetRun with reason := reason, stay := stay }
    port := resetPort rate
    mem := mem.1
    memCut := mem.2
    free := s.free }

/-! ### Faults -/

/-- The fault list emptied (R151). -/
def Faults.cleared (f : Faults) : Faults := { f with entries := [], overflow := false, reaction := .none }

/-- CLEAR_FAULT (R132, R151, R75). DEDUCED (log 46): accepted in SAFE, its STATION reports carry SAFE, the stations being moved
before the part enters SETTLE. -/
def takeClearFault (s : State) : State × Answer :=
  match s.run.op with
  | .loading => (s, answer .wrongState)
  | .run => (s, answer .wrongState)
  | .stopping => (s, answer .wrongState)
  | .config => (updateFaults Faults.cleared s, answer .ok)
  | op =>
    if s.pins.estop then (s, answer .causePresent)
    else
      let s := clearStations (updateFaults Faults.cleared s)
      (if op = .safe then resettle .safe .clearFault s else s, answer .ok)

/-- One entry of the fault list in a reply (7.4, R150, R212). -/
def entryFields (i : Nat) (e : FaultEntry) : List Field :=
  [.u8 i, .u8 e.kind.code, .u8 e.kind.level, optStation e.station, .opt8 (e.lane.map laneCode),
    .opt8 (e.cause.map StationCause.code)] ++ optFields 9 Detail.fields e.detail ++
  [.u32 e.firstAt.toNat, .u32 e.lastAt.toNat, .u8 e.repeats, .u8 e.state.code]

/-- Entries with their positions. -/
def listFields (i : Nat) : List FaultEntry → List Field
  | [] => []
  | e :: rest => entryFields i e ++ listFields (i + 1) rest

/-- READ_FAULTS (R150, R212). -/
def takeReadFaults (s : State) : State × Answer :=
  (s, okWith ([.u8 s.faults.entries.length] ++ listFields 0 s.faults.entries ++
    [.u8 (flag s.faults.overflow), .u8 s.faults.reaction.code]))

/-- The link-silence count after a cycle close (R149). -/
def State.nextSilence (s : State) : Nat :=
  if s.run.op.enables && s.noneValid then satAdd 64 s.faults.silence 1 else 0

/-- This cycle close raises LINK_LOST (R149). -/
def State.losesLink (s : State) : Bool :=
  s.run.op.enables && s.noneValid && s.faults.silence < s.cell.linkLostLimit && s.nextSilence == s.cell.linkLostLimit

/-- The LINK_LOST check of a cycle close (R149). -/
def silenceUpdate (s : State) : State :=
  let s' := { s with faults := { s.faults with silence := s.nextSilence } }
  if s.losesLink then raiseFault { kind := .linkLost } s' else s'

/-! ### Settling -/

/-- The settle count and timer after a cycle close in SETTLE: steps 1 and 2 of R121. -/
def State.settleCounted (s : State) : Run :=
  { s.run with settleTimer := satAdd 16384 s.run.settleTimer 1,
               settleCount := if s.allValid then satAdd 1024 s.run.settleCount 1 else 0 }

/-- The settle count has reached SETTLE_COUNT at this cycle close: step 3 of R121. -/
def State.settles (s : State) : Bool := s.run.op == .settle && s.cell.settleCount ≤ s.settleCounted.settleCount

/-- The settle timer has reached 16 × SETTLE_COUNT at this cycle close: step 4 of R121. -/
def State.failsSettle (s : State) : Bool :=
  s.run.op == .settle && !s.settles && 16 * s.cell.settleCount ≤ s.settleCounted.settleTimer

/-- The settle's work at a cycle close (R121). -/
def settleUpdate (s : State) : State :=
  if s.run.op = .settle then
    let s' := { s with run := s.settleCounted }
    if s.settles then
      submitState .settle .settled none false
        { s' with run := { s'.run with op := .ready }, pins := { s.pins with driveEnable := true } }
    else if s.failsSettle then raiseFault { kind := .settleFail, detail := some (.stations s.invalidMask) } s'
    else s'
  else s

/-- The run cycle count raised at a cycle close in RUN or STOPPING (R123). -/
def countCycle (s : State) : State :=
  if s.run.op.inRun then { s with run := { s.run with count := s.run.count + 1 } } else s

/-! ### GET_STATUS -/

/-- The run controller's part of a GET_STATUS reply (R136). -/
def Run.fields (r : Run) (p : Pins) : List Field :=
  [.u8 r.op.code, .u8 r.tag, .u8 r.mode.code, .u32 r.count.toNat, .u8 (flag r.countEnable),
    .opt8 (r.stopCause.map StopCause.code), .u8 (flag r.orderly), .u16 r.settleCount, .u16 r.settleTimer,
    .u8 (flag p.estop), .u8 (flag p.driveEnable)]

/-- The generator's part of a GET_STATUS reply (R43, R212). DEDUCED (log 34): ΣF has a stated range and takes four bytes, the
other force terms and Δd have none and take eight. The display speed has none either, and takes two: it lies within VMAX. -/
def State.axleFields (s : State) : List Field :=
  let x := s.axleSeen
  [.u8 s.run.mode.code, .s64 x.v, .s16 (displaySpeed x.v s.period), .s64 x.whole, .u16 x.frac.toNat, .s16 x.grade,
    .u32 s.params.mass, .s64 x.adv, .s32 x.fSum, .s64 x.fRoad, .s64 x.fGrade, .s64 x.fNet]

/-- The monitor's part of a GET_STATUS reply (R91, R212). -/
def Monitor.fields (m : Monitor) : List Field :=
  [maskField m.part] ++ optFields 8 (fun x => [.u64 x.toNat]) m.spread ++ optFields 8 (fun x => [.s64 x]) m.mean ++
  [optStation m.leading, optStation m.trailing, .u16 m.timer, .u8 (flag m.warn)] ++
  m.summaries.toList.flatMap Summary.fields

/-- The fault manager's part of a GET_STATUS reply (R152). -/
def Faults.fields (f : Faults) : List Field :=
  [.u8 f.reaction.code, .u8 f.entries.length, .u8 (flag f.overflow), .u8 f.silence]

/-- The mask of event entries in use (R167). -/
def entryMask (v : Vector (Option EventEntry) 16) : Nat :=
  entryList.foldl (fun m i => if v[i].isSome then m + 2 ^ i.val else m) 0

/-- The port's part of a GET_STATUS reply, with REPORT_LEVEL (R207, R212). -/
def State.portFields (s : State) : List Field :=
  [.u8 s.port.rate, .u16 s.port.discards, .u8 s.port.refusals, .u8 s.port.requests.length, .u8 s.port.reports.length,
    .u8 s.port.lost, .u8 s.params.reportLevel]

/-- GET_STATUS: the parts in the order of R206 and R212, read together, as the last completion left them. -/
def takeGetStatus (s : State) : State × Answer :=
  (s, okWith ([.u8 s.link.counter.toNat, .u8 (flag s.link.running)] ++ s.axleFields ++ s.monitorSeen.fields ++
    s.playerSeen.fields ++ s.runSeen.fields s.pins ++ s.faultsSeen.fields ++ [.u16 (entryMask s.events.entries), .u8 (flag s.events.markPending)]
    ++ s.storeFields ++ s.portFields))

end Sys2Proof.Machine
end

