-- ==== Sys2Proof/Machine/Port.lean ====
section
/-! DEFINITION. The cell link port: the request queue, service, replies, the transmitter, the receiver's discards
(11_the_cell_link.md, R196 to R209). -/

namespace Sys2Proof.Machine

/-- The kind of a reply: its request's kind plus 128 (R202). For a kind of 128 or more the sum is no byte: an open value
(log 14). -/
def replyKind (kind : Byte) : Byte := if kind.toNat < 128 then kind + 128#8 else Config.highReplyKind kind

/-- A request refused before its owning block sees it (R200). -/
def refuse (st : Status) (s : State) : State × Option Answer := (s, some (answer st))

/-- A block's answer at the moment the request is taken. -/
def now (r : State × Answer) : State × Option Answer := (r.1, some r.2)

/-- The request is taken in LOADING: GET_STATUS and RESET at level FULL (R119, R200). -/
def Request.inLoading : Request → Bool
  | .getStatus => true
  | .reset level _ _ => level == 0
  | _ => false

/-- A request handed to its owning block; none while its reply is still to be formed (R200 step 4, R201). -/
def takeBlock (r : Request) (s : State) : State × Option Answer :=
  match r with
  | .badKind => refuse .badKind s
  | .badLength => refuse .badLength s
  | .getStatus => now (takeGetStatus s)
  | .getStation n => now (takeGetStation n s)
  | .commissionCell k => now (takeCommissionCell k s)
  | .commissionWrite n b => now (takeCommissionWrite n b s)
  | .commissionClear n => now (takeCommissionClear n s)
  | .commissionOther => now (takeCommissionOther s)
  | .storeCommissioning => takeStore s
  | .leaveConfig => now (takeLeaveConfig s)
  | .setParam i v => now (takeSetParam i v s)
  | .getParam i => now (takeGetParam i s)
  | .setRoadLoad a b c m => now (takeSetRoadLoad a b c m s)
  | .appendSegment g => now (takeAppend g s)
  | .discardSegments => now (takeDiscard s)
  | .startRun m t e k => now (takeStartRun m t e k s)
  | .stopRun => now (takeStopRun s)
  | .releaseHold a => now (takeReleaseHold a s)
  | .engage m => now (takeEngage m s)
  | .release m => now (takeRelease m s)
  | .recapture m => now (takeRecapture m s)
  | .addEvent t a r p => now (takeAddEvent t a r p s)
  | .modifyEvent n t => now (takeModifyEvent n t s)
  | .removeEvent n => now (takeRemoveEvent n s)
  | .clearEvents x => now (takeClearEvents x s)
  | .setCounter x => now (takeSetCounter x s)
  | .setWatch n st => now (takeSetWatch n st s)
  | .readCounters => now (takeReadCounters s)
  | .setTrace m d p e => now (takeSetTrace m d p e s)
  | .readTrace n => now (takeReadTrace n s)
  | .readFaults => now (takeReadFaults s)
  | .clearFault => now (takeClearFault s)
  | .service n o i v => now (takeService n o i v s)
  | .reset l m x => now (takeReset l m x s)

/-- A request in service, with the checks of R200 in their order. -/
def takeRequest (r : Request) (s : State) : State × Option Answer :=
  match r with
  | .badKind => refuse .badKind s
  | .badLength => refuse .badLength s
  | r => if s.run.op = .loading ∧ r.inLoading = false then refuse .wrongState s else takeBlock r s

/-- A reply joins the reply queue (R200, R202). -/
def pushReply (kind tag : Byte) (served : Bool) (a : Answer) (s : State) : State :=
  { s with port := { s.port with
      replies := s.port.replies ++ [{ kind := replyKind kind, tag := tag, served := served, answer := a }] } }

/-- The port may put a request into service: not serving, no reply of a served request waiting, no full reset under way, the
RESET line high (R200, R201, R135). -/
def Port.canServe (p : Port) : Bool := !p.serving && p.replies.all (fun r => !r.served) && p.fullReset.isNone

/-- The oldest request leaves the request queue with its reply formed (R200). -/
def formReply (q : Queued) (a : Answer) (s : State) : State :=
  pushReply q.kind q.tag true a { s with port := { s.port with serving := false, requests := s.port.requests.drop 1 } }

/-- The oldest request goes into service, if one may (R200). -/
def serveFront (s : State) : State :=
  if s.port.canServe && !s.pins.resetHeld then
    match s.port.requests with
    | [] => s
    | q :: _ =>
      match takeRequest q.req s with
      | (s', some a) => formReply q a s'
      | (s', none) => { s' with port := { s'.port with serving := true } }
  else s

/-- The refusals waiting in the reply queue (R199). -/
def Port.refused (p : Port) : Nat := (p.replies.filter fun r => !r.served).length

/-- A request whose record is complete: queued, refused QUEUE_FULL, or dropped and counted (R199). -/
def arrive (q : Queued) (s : State) : State :=
  if s.port.requests.length < 8 then { s with port := { s.port with requests := s.port.requests ++ [q] } }
  else if s.port.refused < 4 then pushReply q.kind q.tag false (answer .queueFull) s
  else { s with port := { s.port with refusals := satAdd 255 s.port.refusals 1 } }

/-- The transmitter chooses its next record when it is idle (R205); it sends nothing while the RESET line is low (R196) or
when the reply to a RESET at level FULL has gone out (R201). -/
def pumpTx (s : State) : State :=
  if s.pins.resetHeld then s
  else if s.port.fullReset.any PendingFull.sent then s
  else match s.port.tx with
    | .idle =>
      match s.port.replies, s.port.reports with
      | _ :: _, _ => { s with port := { s.port with tx := .reply } }
      | [], r :: rest => { s with port := { s.port with tx := .report r, reports := rest } }
      | [], [] => s
    | .reply => s
    | .report _ => s

/-- The outcome of a command: the state it leaves, the transmitter having chosen its next record. -/
def done (s : State) : Host.Outcome State Fault Refusal := .next (pumpTx s)

/-- A record of a request received whole: it is queued and served if the port is free; nothing is received while the RESET
line is low (R135, R197, R199, R200). -/
def received (q : Queued) (s : State) : State :=
  if s.pins.resetHeld then s
  else serveFront (arrive q { s with port := { s.port with receiving := false } })

/-- The record in reception discarded and counted (R198). -/
def discardRecord (s : State) : State :=
  { s with port := { s.port with receiving := false, discards := satAdd 65535 s.port.discards 1 } }

/-- A record complete (R197, R198): a CRC that does not hold, or a length above 1,024, discards it. -/
def completeRecord (r : Record) (s : State) : State :=
  if s.pins.resetHeld then s
  else if 1024 < r.body.length ∨ recordCrcHolds r = false then discardRecord s
  else received { kind := r.kind, tag := r.tag, req := decodeRequest r.kind r.body } s

/-- A discard of the record in reception; nothing happens while the receiver is hunting (R198). -/
def discardIfReceiving (s : State) : State := if s.port.receiving then discardRecord s else s

/-- A start byte while the receiver is hunting begins a record (R197). -/
def beginRecord (s : State) : State :=
  if s.pins.resetHeld then s else { s with port := { s.port with receiving := true } }

/-- A reply transmitted in full leaves the reply queue (R205). A RESET at level FULL that waited for it may now begin (R201);
otherwise the end of a served request's reply lets the next request into service (R200). -/
def replySent (s : State) : State :=
  match s.port.replies with
  | [] => { s with port := { s.port with tx := .idle } }
  | r :: rest =>
    let s := { s with port := { s.port with tx := .idle, replies := rest } }
    match s.port.fullReset with
    | some f => if r.served then { s with port := { s.port with fullReset := some { f with sent := true } } } else s
    | none => serveFront s

/-- The transmitter finishes a record (R205). -/
def transmitEnd (s : State) : State :=
  match s.port.tx with
  | .idle => s
  | .report _ => { s with port := { s.port with tx := .idle } }
  | .reply => replySent s

/-- The reply of a store formed at its completion (R190, R201). -/
def completeStore (r : StoreResult) (s : State) : State :=
  if s.store.storing then
    let s := { s with mem := storedMemory r s, memCut := false, store := { s.store with storing := false } }
    match s.port.requests with
    | q :: _ => formReply q (answer (storeStatus r)) s
    | [] => { s with port := { s.port with serving := false } }
  else s

end Sys2Proof.Machine
end

