-- ==== Sys2Proof/Machine/Cycle.lean ====
section
/-! DEFINITION. The link cycle as the commands give it: cycle start, cycle close with the cycle computation, completion, and
the threshold steps of the table (1.1, R2, R4, R28, R48; 95_what_each_step_holds.md). -/

namespace Sys2Proof.Machine

/-! ### Cycle start -/

/-- The stations a SETTLE report lists: every commissioned one before the first cycle close since entry (R122). -/
def State.unsettled (s : State) : Mask :=
  maskOf fun n => s.has n && (s.run.settleTimer == 0 || !s.lastValid n)

/-- The SETTLE report of a round start in SETTLE (R122). -/
def settleReport (s : State) : State :=
  if s.run.op = .settle then submit (.settle s.run.settleCount s.run.settleTimer s.unsettled) s else s

/-- A pending mark gives its pulse as the SYNC frame begins (R163). -/
def beginPulse (s : State) : State :=
  if s.events.markPending then
    { s with pins := { s.pins with marker := true }, events := { s.events with markPending := false } }
  else s

/-- The work of a round start with the CYCLE tests, in one of its two orders (R122, R165, R173). -/
def roundStart (publishFirst : Bool) (s : State) : State :=
  settleReport (if publishFirst then cycleTests (publish s) else publish (cycleTests s))

/-- A cycle start while the link runs, the order at a round start given (R2, R5, R16, R160, R163). -/
def cycleStartWith (publishFirst : Nat → Bool) (s : State) : State :=
  let s := beginPulse (openCycle s)
  if s.link.counter = 0 then roundStart (publishFirst s.free) { s with free := s.free + 1 } else cycleTests s

/-! ### Cycle close -/

/-- The drive link controller's work and the run control's checks of a cycle close, with the place of R123 given (R4, R121,
R123, R149). -/
def closeChecks (order : CountOrder) (s : State) : State :=
  match order with
  | .beforeLink => settleUpdate (silenceUpdate (closeLink (countCycle s)))
  | .beforeSilence => settleUpdate (silenceUpdate (countCycle (closeLink s)))
  | .afterSilence => settleUpdate (countCycle (silenceUpdate (closeLink s)))

/-- The parameters in force from the beginning of a cycle computation (R30, R98, R169). -/
def Params.inForce (p : Params) : InForce :=
  { tolBand := p.tolBand, tolTime := p.tolTime, underrunStop := p.underrunStop, countEnable := p.countEnable }

/-- The stages of the cycle computation in their order (R48, R81). -/
def stages (s : State) : State := countLocks (assembleStage (windupStage (gearStage (axleStage (judgeStage s)))))

/-- The cycle computation (R28, R48): the parameters are read, the stages run, and what the completion and the replies before
it will need is kept. -/
def compute (s : State) : State :=
  let capture := s.trace.waiting
  let s0 := { s with inForce := s.params.inForce, trace := { s.trace with waiting := false } }
  let s1 := stages s0
  { s1 with
    run := { s1.run with fresh := false }
    comp := some
      { began := s.run.op, void := false, standstill := s.run.op == .stopping && s1.axle.v == 0, capture := capture,
        records := s1.stations, axleBefore := s.axle, monitorBefore := s.monitor, faultsBefore := s.faults,
        recordsBefore := s.stations,
        stopped := if s.run.op = .run ∧ s1.run.op = .stopping then some s.player else none } }

/-- A cycle close while the link runs, the place of R123 given where it matters (R4). -/
def cycleCloseWith (order : Nat → CountOrder) (s : State) : State :=
  let s := { s with comp := none }
  if s.run.op.inRun then compute (closeChecks (order s.free) { s with free := s.free + 1 })
  else compute (closeChecks .beforeLink s)

/-! ### Completion -/

/-- Run end, or a pending orderly reset in its place, at the completion that reports standstill (R127, R134). -/
def finishRun (standstill : Bool) (s : State) : State :=
  if standstill && s.run.op == .stopping then (if s.run.orderly then runReset s else runEnd s) else s

/-- The event tests, the trace capture and the run end in one of their orders (R161, R162, R178, R127). -/
def completionWork (order : CompletionOrder) (k : Computation) (s : State) : State :=
  let e := completionTests k
  let t := traceCapture k
  let r := finishRun k.standstill
  match order with
  | .eventsCaptureEnd => r (t (e s))
  | .eventsEndCapture => t (r (e s))
  | .captureEventsEnd => r (e (t s))
  | .captureEndEvents => e (r (t s))
  | .endEventsCapture => t (e (r s))
  | .endCaptureEvents => e (t (r s))

/-- The computation a completion completes; with none in progress, what the present state makes of one (log 27). -/
def State.computation (s : State) : Computation :=
  s.comp.getD
    { began := s.run.op, void := false, standstill := s.run.op == .stopping && s.axle.v == 0, capture := s.trace.waiting,
      records := s.stations, axleBefore := s.axle, monitorBefore := s.monitor, faultsBefore := s.faults,
      recordsBefore := s.stations, stopped := none }

/-- The player's work at a completion and the speed-band check after it (R100 to R111); outside a run the player is EMPTY
(R98). -/
def playAndCheck (s : State) : State := if s.run.op.inRun then bandCheck (playerWork s) else s

/-- The completion of a cycle computation while the link runs (R28): the player plays and checks the band, then comes the work
whose order is open. DESIGN CHOICE (log 41): the check and its TOLERANCE come before the event tests. At a completion whose
computation began in READY, START_RUN having come since, the player plays, the band is checked and a record may be taken, with
run cycle count 0 (R100, R110, R178; DEDUCED, log 24), and no entry is tested (R161, R162). -/
def completionWith (order : Nat → CompletionOrder) (s : State) : State :=
  let k := s.computation
  let s := { s with comp := none, trace := { s.trace with waiting := if s.comp.isSome then s.trace.waiting else false } }
  if k.began.inRun then completionWork (order s.free) k (playAndCheck { s with free := s.free + 1 })
  else traceCapture k (playAndCheck s)

/-! ### Threshold steps

Each of these rows names a moment inside a cycle close or a completion (95_what_each_step_holds.md). DESIGN CHOICE (log 18),
unsafe: given alone, the command makes the block's own update of that moment on the state as it stands, if that update
crosses the threshold the row names; otherwise it changes nothing. -/

/-- The outstanding item of the station times out at this update (R18). -/
def State.timesOut (s : State) (n : Station) : Bool :=
  match s.link.st[n].outstanding with
  | some o =>
    (match o.advance (s.link.st[n].obs.bind Observation.response) with
      | .inr (.timeout, _) => true
      | _ => false)
  | none => false

/-- SERVICE_TIMEOUT (R18, R19). -/
def serviceTimeout (n : Station) (s : State) : State :=
  if s.link.running && s.has n && s.timesOut n then serviceStation n s else s

/-- SETTLED (R121). -/
def settledStep (s : State) : State := if s.settles then settleUpdate s else s

/-- SETTLE_FAIL (R121). -/
def settleFailStep (s : State) : State := if s.failsSettle then settleUpdate s else s

/-- LINK_LOST (R149). -/
def linkLostStep (s : State) : State := if s.losesLink then silenceUpdate s else s

/-- WINDUP (R86). -/
def windupStep (s : State) : State := if s.link.running && s.windsUp s.monitorNext then windupStage s else s

/-- The event faults a station with this cause. -/
def StationEvent.faultsWith (cause : StationCause) : StationEvent → Bool
  | .fault f => f.cause == some cause
  | .changed _ _ _ => false

/-- The event moves a station from CAPTURE to LOCKED. -/
def StationEvent.captures : StationEvent → Bool
  | .fault _ => false
  | .changed _ _ reason => reason == .captured

/-- The judging of a station carried out if it holds an event of this kind; given alone, it shows at once. -/
def judgeIf (p : StationEvent → Bool) (n : Station) (s : State) : State :=
  match s.stations[n] with
  | none => s
  | some r =>
    let j := s.judging n r
    if s.link.running && j.events.any p then applyJudging n j (updateSeen n (fun _ => j.r) s) else s

/-- LANE_DEGRADED (R12). -/
def laneDegradedStep (n : Station) (lane : Lane) (s : State) : State :=
  match s.stations[n] with
  | none => s
  | some r =>
    let x := s.link.st[n]
    let obs := mergeLanes r.block.lanes r.block.direction x.repA x.repB
    let hit := match lane with
      | .a => degrades obs x.repA.isSome x.streakA
      | .b => degrades obs x.repB.isSome x.streakB
    if s.link.running && r.block.lanes == .ab && hit then mergeStation n r s else s

/-- TOLERANCE (R111). -/
def toleranceStep (s : State) : State := if s.exceedsTolerance then bandCheck s else s

end Sys2Proof.Machine
end

