-- ==== Sys2Proof/Machine/Events.lean ====
section
/-! DEFINITION. The meanings of the event rows of spec/opcode_table.json: the lines, the resets, the commissioning memory, the
link cycle, the cell link port's own events, the threshold steps. DESIGN CHOICE (log 13): an event that cannot occur in the
state it meets leaves the state as it stands. -/

namespace Sys2Proof.Machine

/-! ### Lines and resets -/

/-- POWER_UP (R135): a full reset with reason POWER; the straps are read (R196). DEDUCED (log 43): a store in progress is cut as
by the RESET line, of which R135 and R190 speak alone. -/
def execPowerUp (straps : Straps) (cut : StoreCut) (s : State) : Host.Outcome State Fault Refusal :=
  done (fullReset .power false false (rateOf straps) (cutMemory cut s) s)

/-- RESET_LINE_LOW (R135, R190): the part is held at the start of a full reset with reason LINE. -/
def execResetLineLow (cut : StoreCut) (s : State) : Host.Outcome State Fault Refusal :=
  done (if s.pins.resetHeld then s else fullReset .line false true s.port.rate (cutMemory cut s) s)

/-- RESET_LINE_HIGH (R135, R196): the straps are read and the part enters LOADING. -/
def execResetLineHigh (straps : Straps) (s : State) : Host.Outcome State Fault Refusal :=
  done (if s.pins.resetHeld then fullReset .line false false (rateOf straps) (s.mem, s.memCut) s else s)

/-- ESTOP_ASSERTED (R131). -/
def execEstopAsserted (s : State) : Host.Outcome State Fault Refusal :=
  done (checkEstop { s with pins := { s.pins with estop := true } })

/-- ESTOP_RELEASED (R131). -/
def execEstopReleased (s : State) : Host.Outcome State Fault Refusal :=
  done { s with pins := { s.pins with estop := false } }

/-- MARKER_PULSE_END (R163). -/
def execMarkerPulseEnd (s : State) : Host.Outcome State Fault Refusal :=
  done { s with pins := { s.pins with marker := false } }

/-- The full reset of a RESET request begins, its reply having gone out (R133, R201). -/
def beginFullReset (straps : Straps) (s : State) : State :=
  match s.port.fullReset with
  | some f => if f.sent then fullReset .request f.stay false (rateOf straps) (s.mem, s.memCut) s else s
  | none => s

/-- FULL_RESET (R133, R201): acts once the reply to a RESET at level FULL has been transmitted in full. -/
def execFullReset (straps : Straps) (s : State) : Host.Outcome State Fault Refusal := done (beginFullReset straps s)

/-! ### Commissioning memory -/

/-- LOAD_COMPLETION (R119, R185, R186); `answers` says that the memory answers. -/
def execLoadCompletion (answers : Bool) (s : State) : Host.Outcome State Fault Refusal := done (completeLoad answers s)

/-- STORE_COMPLETION (R190). -/
def execStoreCompletion (result : StoreResult) (s : State) : Host.Outcome State Fault Refusal :=
  done (completeStore result s)

/-! ### Link cycle -/

/-- CYCLE_START (R2). -/
def execCycleStart (s : State) : Host.Outcome State Fault Refusal :=
  done (if s.link.running then cycleStartWith Config.publishFirst s else s)

/-- SLOT_END (R3). -/
def execSlotEnd (station : Station) (a b : Reception) (s : State) : Host.Outcome State Fault Refusal :=
  done (if s.link.running then endSlot station a b s else s)

/-- CYCLE_CLOSE (R4). -/
def execCycleClose (s : State) : Host.Outcome State Fault Refusal :=
  done (if s.link.running then cycleCloseWith Config.countOrder s else s)

/-- CYCLE_COMPUTATION_COMPLETION (R28). -/
def execCompletion (s : State) : Host.Outcome State Fault Refusal :=
  done (if s.link.running then completionWith Config.completionOrder s else s)

/-! ### Cell link port -/

/-- RECORD_RECEIVED (R197, R198, R199). -/
def execRecordReceived (record : Record) (s : State) : Host.Outcome State Fault Refusal := done (completeRecord record s)

/-- RECEPTION_TIMEOUT (R198). -/
def execReceptionTimeout (s : State) : Host.Outcome State Fault Refusal := done (discardIfReceiving s)

/-- LINE_FRAMING_ERROR (R198). -/
def execLineFramingError (s : State) : Host.Outcome State Fault Refusal := done (discardIfReceiving s)

/-- BODY_LENGTH_ABOVE_LIMIT (R198). -/
def execBodyLengthAboveLimit (s : State) : Host.Outcome State Fault Refusal := done (discardIfReceiving s)

/-- START_BYTE (R197). -/
def execStartByte (s : State) : Host.Outcome State Fault Refusal := done (beginRecord s)

/-- TRANSMIT_COMPLETE (R205). -/
def execTransmitComplete (s : State) : Host.Outcome State Fault Refusal := done (transmitEnd s)

/-! ### Threshold steps -/

/-- SERVICE_TIMEOUT (R18). -/
def execServiceTimeout (station : Station) (s : State) : Host.Outcome State Fault Refusal := done (serviceTimeout station s)

/-- SETTLED (R121). -/
def execSettled (s : State) : Host.Outcome State Fault Refusal := done (settledStep s)

/-- SETTLE_FAIL (R121). -/
def execSettleFail (s : State) : Host.Outcome State Fault Refusal := done (settleFailStep s)

/-- LINK_LOST (R149). -/
def execLinkLost (s : State) : Host.Outcome State Fault Refusal := done (linkLostStep s)

/-- WINDUP (R86). -/
def execWindup (s : State) : Host.Outcome State Fault Refusal := done (windupStep s)

/-- SLIP_TIMER_EXPIRY (R69). -/
def execSlipTimerExpiry (station : Station) (s : State) : Host.Outcome State Fault Refusal :=
  done (judgeIf (StationEvent.faultsWith .slipTime) station s)

/-- CAPTURE_FAIL (R67). -/
def execCaptureFail (station : Station) (s : State) : Host.Outcome State Fault Refusal :=
  done (judgeIf (StationEvent.faultsWith .captureFail) station s)

/-- STATION_LOST (R56). -/
def execStationLost (station : Station) (cause : MissCause) (s : State) : Host.Outcome State Fault Refusal :=
  done (judgeIf (StationEvent.faultsWith (lostCause cause)) station s)

/-- LANE_DEGRADED (R12). -/
def execLaneDegraded (station : Station) (lane : Lane) (s : State) : Host.Outcome State Fault Refusal :=
  done (laneDegradedStep station lane s)

/-- TOLERANCE (R111). -/
def execTolerance (s : State) : Host.Outcome State Fault Refusal := done (toleranceStep s)

/-- CAPTURED (R66). -/
def execCaptured (station : Station) (s : State) : Host.Outcome State Fault Refusal :=
  done (judgeIf StationEvent.captures station s)

end Sys2Proof.Machine
end

