-- ==== Sys2Proof/Machine/Requests.lean ====
section
/-! DEFINITION. The meanings of the request rows of spec/opcode_table.json. A row stands for a record of that request received
whole with a correct CRC-16 (R197): it is queued, and served at once if the port is free (R199, R200); the owning rule then
decides its effect. -/

namespace Sys2Proof.Machine

/-- A record of a request kind received whole. -/
def request (kind tag : Byte) (r : Request) (s : State) : Host.Outcome State Fault Refusal :=
  done (received { kind := kind, tag := tag, req := r } s)

/-- BAD_KIND (R200): a record whose kind is not a request kind; no record of a request kind is meant. -/
def execBadKind (kind tag : Byte) (s : State) : Host.Outcome State Fault Refusal :=
  if isRequestKind kind then done s else request kind tag .badKind s

/-- GET_STATUS (R206). -/
def execGetStatus (tag : Byte) (s : State) : Host.Outcome State Fault Refusal := request 0x01#8 tag .getStatus s

/-- GET_STATION (R79). -/
def execGetStation (tag : Byte) (station : Nat) (s : State) : Host.Outcome State Fault Refusal :=
  request 0x02#8 tag (.getStation station) s

/-- COMMISSION_CELL (R187). -/
def execCommissionCell (tag : Byte) (cell : CellBlock) (s : State) : Host.Outcome State Fault Refusal :=
  request 0x03#8 tag (.commissionCell cell) s

/-- COMMISSION_STATION with action WRITE (R188). -/
def execCommissionStationWrite (tag : Byte) (station : Nat) (block : RawStation) (s : State) :
    Host.Outcome State Fault Refusal :=
  request 0x04#8 tag (.commissionWrite station block) s

/-- COMMISSION_STATION with action CLEAR (R188). -/
def execCommissionStationClear (tag : Byte) (station : Nat) (s : State) : Host.Outcome State Fault Refusal :=
  request 0x04#8 tag (.commissionClear station) s

/-- STORE_COMMISSIONING (R190). -/
def execStoreCommissioning (tag : Byte) (s : State) : Host.Outcome State Fault Refusal :=
  request 0x05#8 tag .storeCommissioning s

/-- LEAVE_CONFIG (R120). -/
def execLeaveConfig (tag : Byte) (s : State) : Host.Outcome State Fault Refusal := request 0x06#8 tag .leaveConfig s

/-- SET_PARAM (R192). -/
def execSetParam (tag : Byte) (ident : Nat) (value : Int) (s : State) : Host.Outcome State Fault Refusal :=
  request 0x07#8 tag (.setParam ident value) s

/-- GET_PARAM (R195). -/
def execGetParam (tag : Byte) (ident : Nat) (s : State) : Host.Outcome State Fault Refusal :=
  request 0x08#8 tag (.getParam ident) s

/-- SET_ROAD_LOAD (R194). -/
def execSetRoadLoad (tag : Byte) (a b c mass : Nat) (s : State) : Host.Outcome State Fault Refusal :=
  request 0x09#8 tag (.setRoadLoad a b c mass) s

/-- APPEND_SEGMENT (R94). -/
def execAppendSegment (tag : Byte) (segment : Segment) (s : State) : Host.Outcome State Fault Refusal :=
  request 0x0A#8 tag (.appendSegment segment) s

/-- DISCARD_SEGMENTS (R97). -/
def execDiscardSegments (tag : Byte) (s : State) : Host.Outcome State Fault Refusal := request 0x0B#8 tag .discardSegments s

/-- START_RUN (R124, R125). -/
def execStartRun (tag : Byte) (mode runTag : Nat) (engage : Mask) (count : Nat) (s : State) :
    Host.Outcome State Fault Refusal :=
  request 0x0C#8 tag (.startRun mode runTag engage count) s

/-- STOP_RUN (R126). -/
def execStopRun (tag : Byte) (s : State) : Host.Outcome State Fault Refusal := request 0x0D#8 tag .stopRun s

/-- RELEASE_HOLD with action CONTINUE (R105). -/
def execReleaseHoldContinue (tag : Byte) (s : State) : Host.Outcome State Fault Refusal :=
  request 0x0E#8 tag (.releaseHold .goOn) s

/-- RELEASE_HOLD with action REPEAT (R105). -/
def execReleaseHoldRepeat (tag : Byte) (s : State) : Host.Outcome State Fault Refusal :=
  request 0x0E#8 tag (.releaseHold .again) s

/-- RELEASE_HOLD with action FINISH (R105). -/
def execReleaseHoldFinish (tag : Byte) (s : State) : Host.Outcome State Fault Refusal :=
  request 0x0E#8 tag (.releaseHold .finish) s

/-- ENGAGE (R63). -/
def execEngage (tag : Byte) (stations : Mask) (s : State) : Host.Outcome State Fault Refusal :=
  request 0x0F#8 tag (.engage stations) s

/-- RELEASE (R74). -/
def execRelease (tag : Byte) (stations : Mask) (s : State) : Host.Outcome State Fault Refusal :=
  request 0x10#8 tag (.release stations) s

/-- RECAPTURE (R73). -/
def execRecapture (tag : Byte) (stations : Mask) (s : State) : Host.Outcome State Fault Refusal :=
  request 0x11#8 tag (.recapture stations) s

/-- ADD_EVENT (R156). -/
def execAddEvent (tag : Byte) (trigger : TriggerArg) (actions runTag persistent : Nat) (s : State) :
    Host.Outcome State Fault Refusal :=
  request 0x12#8 tag (.addEvent trigger actions runTag persistent) s

/-- MODIFY_EVENT (R157). -/
def execModifyEvent (tag : Byte) (entry : Nat) (trigger : TriggerArg) (s : State) : Host.Outcome State Fault Refusal :=
  request 0x13#8 tag (.modifyEvent entry trigger) s

/-- REMOVE_EVENT (R158). -/
def execRemoveEvent (tag : Byte) (entry : Nat) (s : State) : Host.Outcome State Fault Refusal :=
  request 0x14#8 tag (.removeEvent entry) s

/-- CLEAR_EVENTS (R158). -/
def execClearEvents (tag : Byte) (selector : ClearArg) (s : State) : Host.Outcome State Fault Refusal :=
  request 0x15#8 tag (.clearEvents selector) s

/-- SET_COUNTER (R168). -/
def execSetCounter (tag : Byte) (config : CounterArg) (s : State) : Host.Outcome State Fault Refusal :=
  request 0x16#8 tag (.setCounter config) s

/-- SET_WATCH (R174). -/
def execSetWatch (tag : Byte) (number station : Nat) (s : State) : Host.Outcome State Fault Refusal :=
  request 0x17#8 tag (.setWatch number station) s

/-- READ_COUNTERS (R175). -/
def execReadCounters (tag : Byte) (s : State) : Host.Outcome State Fault Refusal := request 0x18#8 tag .readCounters s

/-- SET_TRACE (R176). -/
def execSetTrace (tag : Byte) (stations : Mask) (decimation policy enable : Nat) (s : State) :
    Host.Outcome State Fault Refusal :=
  request 0x19#8 tag (.setTrace stations decimation policy enable) s

/-- READ_TRACE (R180). -/
def execReadTrace (tag : Byte) (maximum : Nat) (s : State) : Host.Outcome State Fault Refusal :=
  request 0x1A#8 tag (.readTrace maximum) s

/-- READ_FAULTS (R150). -/
def execReadFaults (tag : Byte) (s : State) : Host.Outcome State Fault Refusal := request 0x1B#8 tag .readFaults s

/-- CLEAR_FAULT (R132, R151). -/
def execClearFault (tag : Byte) (s : State) : Host.Outcome State Fault Refusal := request 0x1C#8 tag .clearFault s

/-- SERVICE (R13). -/
def execService (tag : Byte) (station operation index : Nat) (value : Int) (s : State) : Host.Outcome State Fault Refusal :=
  request 0x1D#8 tag (.service station operation index value) s

/-- RESET at level FULL (R133). -/
def execResetFull (tag : Byte) (manner stay : Nat) (s : State) : Host.Outcome State Fault Refusal :=
  request 0x1E#8 tag (.reset 0 manner stay) s

/-- RESET at level RUN, manner IMMEDIATE (R133). -/
def execResetRunImmediate (tag : Byte) (stay : Nat) (s : State) : Host.Outcome State Fault Refusal :=
  request 0x1E#8 tag (.reset 1 1 stay) s

/-- RESET at level RUN, manner ORDERLY (R133, R134). -/
def execResetRunOrderly (tag : Byte) (stay : Nat) (s : State) : Host.Outcome State Fault Refusal :=
  request 0x1E#8 tag (.reset 1 0 stay) s

end Sys2Proof.Machine
end

