-- ==== Sys2Proof/Machine/Dispatch.lean ====
section
/-! DEFINITION. The dispatch of every command to its meaning. -/

namespace Sys2Proof.Machine

def exec (i : Instr) (s : State) : Host.Outcome State Fault Refusal :=
  match i with
  | .powerUp straps cut => Sys2Proof.Machine.execPowerUp straps cut s
  | .resetLineLow cut => Sys2Proof.Machine.execResetLineLow cut s
  | .resetLineHigh straps => Sys2Proof.Machine.execResetLineHigh straps s
  | .estopAsserted => Sys2Proof.Machine.execEstopAsserted s
  | .estopReleased => Sys2Proof.Machine.execEstopReleased s
  | .loadCompletion answers => Sys2Proof.Machine.execLoadCompletion answers s
  | .storeCompletion result => Sys2Proof.Machine.execStoreCompletion result s
  | .fullReset straps => Sys2Proof.Machine.execFullReset straps s
  | .cycleStart => Sys2Proof.Machine.execCycleStart s
  | .slotEnd station a b => Sys2Proof.Machine.execSlotEnd station a b s
  | .cycleClose => Sys2Proof.Machine.execCycleClose s
  | .cycleComputationCompletion => Sys2Proof.Machine.execCompletion s
  | .markerPulseEnd => Sys2Proof.Machine.execMarkerPulseEnd s
  | .recordReceived record => Sys2Proof.Machine.execRecordReceived record s
  | .receptionTimeout => Sys2Proof.Machine.execReceptionTimeout s
  | .lineFramingError => Sys2Proof.Machine.execLineFramingError s
  | .transmitComplete => Sys2Proof.Machine.execTransmitComplete s
  | .badKind kind tag => Sys2Proof.Machine.execBadKind kind tag s
  | .getStatus tag => Sys2Proof.Machine.execGetStatus tag s
  | .getStation tag station => Sys2Proof.Machine.execGetStation tag station s
  | .commissionCell tag cell => Sys2Proof.Machine.execCommissionCell tag cell s
  | .commissionStationWrite tag station block => Sys2Proof.Machine.execCommissionStationWrite tag station block s
  | .commissionStationClear tag station => Sys2Proof.Machine.execCommissionStationClear tag station s
  | .storeCommissioning tag => Sys2Proof.Machine.execStoreCommissioning tag s
  | .leaveConfig tag => Sys2Proof.Machine.execLeaveConfig tag s
  | .setParam tag ident value => Sys2Proof.Machine.execSetParam tag ident value s
  | .getParam tag ident => Sys2Proof.Machine.execGetParam tag ident s
  | .setRoadLoad tag a b c mass => Sys2Proof.Machine.execSetRoadLoad tag a b c mass s
  | .appendSegment tag segment => Sys2Proof.Machine.execAppendSegment tag segment s
  | .discardSegments tag => Sys2Proof.Machine.execDiscardSegments tag s
  | .startRun tag mode runTag engage count => Sys2Proof.Machine.execStartRun tag mode runTag engage count s
  | .stopRun tag => Sys2Proof.Machine.execStopRun tag s
  | .releaseHoldContinue tag => Sys2Proof.Machine.execReleaseHoldContinue tag s
  | .releaseHoldRepeat tag => Sys2Proof.Machine.execReleaseHoldRepeat tag s
  | .releaseHoldFinish tag => Sys2Proof.Machine.execReleaseHoldFinish tag s
  | .engage tag stations => Sys2Proof.Machine.execEngage tag stations s
  | .release tag stations => Sys2Proof.Machine.execRelease tag stations s
  | .recapture tag stations => Sys2Proof.Machine.execRecapture tag stations s
  | .addEvent tag trigger actions runTag persistent => Sys2Proof.Machine.execAddEvent tag trigger actions runTag persistent s
  | .modifyEvent tag entry trigger => Sys2Proof.Machine.execModifyEvent tag entry trigger s
  | .removeEvent tag entry => Sys2Proof.Machine.execRemoveEvent tag entry s
  | .clearEvents tag selector => Sys2Proof.Machine.execClearEvents tag selector s
  | .setCounter tag config => Sys2Proof.Machine.execSetCounter tag config s
  | .setWatch tag number station => Sys2Proof.Machine.execSetWatch tag number station s
  | .readCounters tag => Sys2Proof.Machine.execReadCounters tag s
  | .setTrace tag stations decimation policy enable => Sys2Proof.Machine.execSetTrace tag stations decimation policy enable s
  | .readTrace tag maximum => Sys2Proof.Machine.execReadTrace tag maximum s
  | .readFaults tag => Sys2Proof.Machine.execReadFaults tag s
  | .clearFault tag => Sys2Proof.Machine.execClearFault tag s
  | .service tag station operation index value => Sys2Proof.Machine.execService tag station operation index value s
  | .resetFull tag manner stay => Sys2Proof.Machine.execResetFull tag manner stay s
  | .resetRunImmediate tag stay => Sys2Proof.Machine.execResetRunImmediate tag stay s
  | .resetRunOrderly tag stay => Sys2Proof.Machine.execResetRunOrderly tag stay s
  | .serviceTimeout station => Sys2Proof.Machine.execServiceTimeout station s
  | .settled => Sys2Proof.Machine.execSettled s
  | .settleFail => Sys2Proof.Machine.execSettleFail s
  | .linkLost => Sys2Proof.Machine.execLinkLost s
  | .windup => Sys2Proof.Machine.execWindup s
  | .slipTimerExpiry station => Sys2Proof.Machine.execSlipTimerExpiry station s
  | .captureFail station => Sys2Proof.Machine.execCaptureFail station s
  | .stationLost station cause => Sys2Proof.Machine.execStationLost station cause s
  | .laneDegraded station lane => Sys2Proof.Machine.execLaneDegraded station lane s
  | .tolerance => Sys2Proof.Machine.execTolerance s
  | .captured station => Sys2Proof.Machine.execCaptured station s
  | .startByte => Sys2Proof.Machine.execStartByte s
  | .bodyLengthAboveLimit => Sys2Proof.Machine.execBodyLengthAboveLimit s

end Sys2Proof.Machine
end

