-- ==== Sys2Proof/Machine/Records.lean ====
section
/-! DEFINITION. The record that carries each request row, as a host would send it (12.2): kind, tag, body and CRC-16. Bytes a
layout leaves unused are 0 (R211). No meaning uses it: it is the sender's side of Machine/Operands.lean. -/

namespace Sys2Proof.Machine

/-- The 12 bytes of a station block from its axle field onward, codes as they stand (12.2, 12.4). -/
def rawStationBody (b : RawStation) : List Byte :=
  be1 b.axle ++ be1 b.side ++ be4 b.cpr ++ be4 b.circ ++ be1 b.lanes ++ be1 b.direction

/-- The four bytes of a point (12.2). -/
def pointBody (p : Point) : List Byte := be2 p.duration ++ be2 p.speed

/-- The flags of a segment (12.2). -/
def segmentFlags (g : Segment) : Nat := flag g.last + 2 * flag g.holdAtEnd + 4 * flag g.phase.isSome

/-- The body of APPEND_SEGMENT (12.2). -/
def segmentBody (g : Segment) : List Byte :=
  be2 g.tag ++ be1 (segmentFlags g) ++ be1 (g.phase.getD 0) ++ be2 (twos 16 g.grade) ++ be1 g.points.length ++
    g.points.flatMap pointBody

/-- A trigger kind with its eight bytes of values (12.2). -/
def triggerBody : TriggerArg → List Byte
  | .cycle v m => be1 0 ++ be1 v ++ be1 m ++ List.replicate 6 0#8
  | .distance s p => be1 1 ++ be4 s ++ be4 p
  | .traceTime t => be1 2 ++ be4 t ++ List.replicate 4 0#8
  | .other k => be1 k ++ List.replicate 8 0#8

/-- The body of CLEAR_EVENTS (12.2). -/
def clearBody : ClearArg → List Byte
  | .tag t => be1 0 ++ be1 t
  | .all => be1 1 ++ be1 0
  | .other k => be1 k ++ be1 0

/-- The body of SET_COUNTER (12.2). -/
def counterBody (c : CounterArg) : List Byte :=
  be1 c.number ++ be1 c.enable ++ be1 c.station ++ be1 c.lane ++ be1 c.slot ++ be1 c.lock ++ be1 c.acc

/-- Kind, tag and body of a request row; none for the other rows. -/
def requestParts : Instr → Option (Byte × Byte × List Byte)
  | .badKind k t => some (k, t, [])
  | .getStatus t => some (0x01#8, t, [])
  | .getStation t n => some (0x02#8, t, be1 n)
  | .commissionCell t c => some (0x03#8, t, cellBytes c)
  | .commissionStationWrite t n b => some (0x04#8, t, be1 1 ++ be1 n ++ rawStationBody b)
  | .commissionStationClear t n => some (0x04#8, t, be1 2 ++ be1 n)
  | .storeCommissioning t => some (0x05#8, t, [])
  | .leaveConfig t => some (0x06#8, t, [])
  | .setParam t i v => some (0x07#8, t, be1 i ++ be4 (twos 32 v))
  | .getParam t i => some (0x08#8, t, be1 i)
  | .setRoadLoad t a b c m => some (0x09#8, t, be4 a ++ be4 b ++ be4 c ++ be4 m)
  | .appendSegment t g => some (0x0A#8, t, segmentBody g)
  | .discardSegments t => some (0x0B#8, t, [])
  | .startRun t m r e c => some (0x0C#8, t, be1 m ++ be1 r ++ be1 e.toNat ++ be1 c)
  | .stopRun t => some (0x0D#8, t, [])
  | .releaseHoldContinue t => some (0x0E#8, t, be1 0)
  | .releaseHoldRepeat t => some (0x0E#8, t, be1 1)
  | .releaseHoldFinish t => some (0x0E#8, t, be1 2)
  | .engage t m => some (0x0F#8, t, be1 m.toNat)
  | .release t m => some (0x10#8, t, be1 m.toNat)
  | .recapture t m => some (0x11#8, t, be1 m.toNat)
  | .addEvent t g a r p => some (0x12#8, t, triggerBody g ++ be1 a ++ be1 r ++ be1 p)
  | .modifyEvent t n g => some (0x13#8, t, be1 n ++ triggerBody g)
  | .removeEvent t n => some (0x14#8, t, be1 n)
  | .clearEvents t x => some (0x15#8, t, clearBody x)
  | .setCounter t c => some (0x16#8, t, counterBody c)
  | .setWatch t n s => some (0x17#8, t, be1 n ++ be1 s)
  | .readCounters t => some (0x18#8, t, [])
  | .setTrace t m d p e => some (0x19#8, t, be1 m.toNat ++ be2 d ++ be1 p ++ be1 e)
  | .readTrace t m => some (0x1A#8, t, be2 m)
  | .readFaults t => some (0x1B#8, t, [])
  | .clearFault t => some (0x1C#8, t, [])
  | .service t s o i v => some (0x1D#8, t, be1 s ++ be1 o ++ be2 i ++ be4 (twos 32 v))
  | .resetFull t m s => some (0x1E#8, t, be1 0 ++ be1 m ++ be1 s)
  | .resetRunImmediate t s => some (0x1E#8, t, be1 1 ++ be1 1 ++ be1 s)
  | .resetRunOrderly t s => some (0x1E#8, t, be1 1 ++ be1 0 ++ be1 s)
  | .powerUp _ _ => none
  | .resetLineLow _ => none
  | .resetLineHigh _ => none
  | .estopAsserted => none
  | .estopReleased => none
  | .loadCompletion _ => none
  | .storeCompletion _ => none
  | .fullReset _ => none
  | .cycleStart => none
  | .slotEnd _ _ _ => none
  | .cycleClose => none
  | .cycleComputationCompletion => none
  | .markerPulseEnd => none
  | .recordReceived _ => none
  | .receptionTimeout => none
  | .lineFramingError => none
  | .transmitComplete => none
  | .serviceTimeout _ => none
  | .settled => none
  | .settleFail => none
  | .linkLost => none
  | .windup => none
  | .slipTimerExpiry _ => none
  | .captureFail _ => none
  | .stationLost _ _ => none
  | .laneDegraded _ _ => none
  | .tolerance => none
  | .captured _ => none
  | .startByte => none
  | .bodyLengthAboveLimit => none

/-- The record with the CRC-16 of its bytes (R210). -/
def sealed (p : Byte × Byte × List Byte) : Record :=
  { kind := p.1, tag := p.2.1, body := p.2.2, crc := crc16 (recordCovered p.1 p.2.1 p.2.2) }

/-- The record a host sends for a request row (12.2). -/
def recordOf (i : Instr) : Option Record := (requestParts i).map sealed

end Sys2Proof.Machine
end

