-- ==== Sys2Proof/Safety.lean ====
section
/-! DEFINITION. What counts as a sound and safe state of the part, in the terms the manual uses: the outputs follow the
operating state, the axle rests outside a run, the queues and tables keep their bounds, the stations keep their ranges. -/

namespace Sys2Proof.Machine

/-- A condition holds of every station number. -/
def everyStation (p : Station → Bool) : Bool := stationList.all p

/-- DRIVE_ENABLE, the drive link and the commissioning lock follow the operating state (R1, R117, R191). -/
def State.outputsAgree (s : State) : Bool :=
  s.pins.driveEnable == s.run.op.enables && s.link.running == s.run.op.running && (!s.run.op.running || s.store.locked)

/-- With ESTOP asserted the part is in LOADING, CONFIG or SAFE (R131). -/
def State.estopObeyed (s : State) : Bool := !s.pins.estop || !s.run.op.watchesEstop

/-- The axle is at rest outside RUN and STOPPING, its speed lies within V_LIMIT, and a computation that reported standstill
left it at rest (R25, R28, R37, R41). -/
def State.axleSafe (s : State) : Bool :=
  (s.run.op.inRun || s.axle.v == 0) && (s.axle.v.natAbs : Int) ≤ s.axle.vLimit &&
    (match s.comp with | some k => !k.standstill || s.axle.v == 0 | none => true) && (!s.run.op.running || s.store.locked)

/-- The distance fraction lies from 0 to 65,535 (R25, R38). -/
def State.fractionSound (s : State) : Bool :=
  0 ≤ s.axle.frac && s.axle.frac < 65536 &&
    (match s.comp with | some k => 0 ≤ k.axleBefore.frac && k.axleBefore.frac < 65536 | none => true)

/-- The port's queues: at most 8 requests, 4 refusals and one served reply, 32 reports; a request in service has no reply
yet and still stands in its queue; only a store keeps one in service (R199, R200, R201, R203, R205). -/
def State.portSound (s : State) : Bool :=
  let p := s.port
  let served := (p.replies.filter Reply.served).length
  p.requests.length ≤ 8 && p.refused ≤ 4 && served ≤ 1 && p.reports.length ≤ 32 && p.lost ≤ 255 && p.refusals ≤ 255 &&
    p.discards ≤ 65535 && (!p.serving || (served == 0 && !p.requests.isEmpty)) && s.store.storing == p.serving

/-- At most four segments wait, two service items wait for each station, and an outstanding item is younger than four cycle
closes (R13, R18, R95). -/
def State.queuesSound (s : State) : Bool :=
  s.player.waiting.length ≤ 4 &&
    everyStation fun n => s.link.st[n].waiting.length ≤ 2 &&
      (match s.link.st[n].outstanding with | some o => o.age < 4 | none => true)

/-- Every working, published and snapshot value of the counters lies within 65,535, and every lane-degraded streak within 64 (R10,
R165, R172). -/
def State.countsSound (s : State) : Bool :=
  (([0, 1, 2, 3] : List (Fin 4)).all fun k => s.stats.counters[k].working ≤ 65535 && s.stats.counters[k].published ≤ 65535 &&
    s.stats.snap.values[k] ≤ 65535) &&
    everyStation fun n => s.link.st[n].streakA ≤ 64 && s.link.st[n].streakB ≤ 64

/-- How many stations the trace mask names. -/
def Trace.maskSize (x : Trace) : Nat := (stationList.filter (inMask x.mask)).length

/-- The trace records lie within the capacity of their mask, and each has the size the mask gives (R177). -/
def State.traceSound (s : State) : Bool :=
  let words := 3 + 3 * s.trace.maskSize
  s.trace.records.length ≤ 8192 / words && s.trace.records.all fun r => r.length == words

/-- The player is EMPTY with no active segment outside RUN and STOPPING, no segment waits outside READY, RUN and STOPPING, and its
counts keep their ranges (R95, R98). -/
def State.playerSound (s : State) : Bool :=
  let y := s.player
  (s.run.op.inRun || (y.active.isNone && y.mode == .empty)) && (s.run.op.enables || y.waiting.isEmpty) &&
    y.phaseTol ≤ 255 && y.excursion ≤ 65535

/-- Two entries of the fault list have one identity (R144). -/
def sameIdentity (a b : FaultEntry) : Bool := a.kind == b.kind && a.station == b.station && a.lane == b.lane

/-- No two entries have one identity. -/
def distinctEntries : List FaultEntry → Bool
  | [] => true
  | e :: rest => rest.all (fun x => !sameIdentity e x) && distinctEntries rest

/-- The kinds of station scope; the others are of part scope (7.2). -/
def FaultKind.ofStation : FaultKind → Bool
  | .stationLost => true | .stationSlip => true | .captureFail => true | .driveTrip => true | .laneDegraded => true
  | _ => false

/-- An entry has a station exactly where its kind is of station scope, and a lane exactly for LANE_DEGRADED (7.2, R144). -/
def FaultEntry.scoped (e : FaultEntry) : Bool :=
  e.station.isSome == e.kind.ofStation && e.lane.isSome == (e.kind == .laneDegraded)

/-- The fault list holds at most 8 entries, no two of one identity, each with the station and lane of its kind's scope and
counted from 1 to 255 (R138, R144, R146). -/
def State.faultsSound (s : State) : Bool :=
  s.faults.entries.length ≤ 8 && distinctEntries s.faults.entries &&
    s.faults.entries.all (fun e => e.scoped && 1 ≤ e.repeats && e.repeats ≤ 255)

/-- No two station blocks held share an axle and side (R184). -/
def positionsDistinct (blocks : Vector (Option StationBlock) 8) : Bool :=
  everyStation fun n => match blocks[n] with | some b => !duplicatePosition blocks n b | none => true

/-- A station block's encoder count and circumference lie within their ranges (R46, R188). -/
def StationBlock.inRange (b : StationBlock) : Bool := within 4096 262144 b.cpr && within 400000 5000000 b.circ

/-- The working set lies within its ranges, cell block and station blocks, and the stored MASS within the cell's bounds (R184,
R188, R194). -/
def State.setSound (s : State) : Bool :=
  (match s.store.cell with | some k => cellInRange k | none => true) && positionsDistinct s.store.blocks &&
    (everyStation fun n => match s.store.blocks[n] with | some b => b.inRange | none => true) &&
    s.massBounds.1 ≤ s.params.mass && s.params.mass ≤ s.massBounds.2

/-- LOCK_WINDOW lies below SLIP_WINDOW (R193). -/
def State.windowsApart (s : State) : Bool := s.params.lockWindow < s.params.slipWindow

/-- Every parameter lies within its range of the table (10.4, R192). -/
def Params.inRange (p : Params) : Bool :=
  p.kp ≤ 4096 && p.kx ≤ 4096 && p.trimMax ≤ 4000000 && within 1 1000000 p.lockWindow && within 2 4000000 p.slipWindow &&
    within 1 65534 p.slipTime && within 1 1000000 p.captureWindow && within 1 64 p.captureCycles &&
    within 64 65534 p.captureLimit && within 1 15 p.missLimit && within 16 1000000 p.jumpLimit &&
    within 10 1000 p.accelLimit && within 10 1000 p.tolBand && within 1 10000 p.tolTime && within 1 4 p.reportLevel &&
    p.a ≤ 200000 && p.b ≤ 1000000 && p.c ≤ 1000000

/-- The stored parameters and those in force lie within their ranges (R192). -/
def State.paramsInRange (s : State) : Bool :=
  s.params.inRange && within 10 1000 s.inForce.tolBand && within 1 10000 s.inForce.tolTime

/-- The station table follows the working set: one record for each commissioned station, with its block (R46, R183); while
the part loads it holds no cell block (R186, R191). -/
def State.tableFollows (s : State) : Bool :=
  (everyStation fun n => (s.stations[n].map StationRec.block) == s.store.commissions n) &&
    (s.run.op != .loading || s.store.cell.isNone)

/-- A computation is in progress only while the link runs, and it keeps records for exactly the stations that have one (R28,
R189). -/
def State.computationFollows (s : State) : Bool :=
  match s.comp with
  | none => true
  | some k => s.link.running && everyStation fun n =>
      k.records[n].isSome == s.stations[n].isSome && k.recordsBefore[n].isSome == s.stations[n].isSome

/-- A record's position error lies within ±16,777,215, and the gearing residue of a geared station from 0 to C_nm − 1 (R54,
R58). -/
def StationRec.sound (r : StationRec) : Bool :=
  r.e.natAbs ≤ 16777215 && 0 < r.cnm && (!r.state.geared || (0 ≤ r.residue && r.residue < r.cnm))

/-- Every station record is sound, and stations are engaged only in RUN and STOPPING (R54, R58, R77, R82). -/
def State.stationsSound (s : State) : Bool :=
  everyStation fun n =>
    match s.stations[n] with
    | some r => r.sound && (s.run.op.inRun || !r.state.engaged)
    | none => true

/-- A station block's circumference lies within its range, and so does every trim (R46, R47, 10.4). -/
def State.rollersSound (s : State) : Bool :=
  everyStation fun n =>
    (match s.store.blocks[n] with | some b => within 400000 5000000 b.circ | none => true) &&
    (match s.stations[n] with | some r => within 400000 5000000 r.block.circ | none => true) &&
    decide (-5000 ≤ s.params.circTrim[n]) && decide (s.params.circTrim[n] ≤ 5000)

/-- A state the part can be trusted in: every condition above, and the commissioning memory in its canonical form. -/
def State.sound (s : State) : Bool :=
  s.outputsAgree && s.estopObeyed && s.axleSafe && s.fractionSound && s.portSound && s.queuesSound && s.countsSound &&
    s.traceSound && s.playerSound && s.faultsSound && s.setSound && s.windowsApart && s.paramsInRange && s.tableFollows &&
    s.computationFollows && s.stationsSound && s.rollersSound && Memory.wf s.mem

/-! ### A request served at once -/

/-- The port serves a request the moment its record is complete: no request is queued or in service, no reply waits, no full
reset is under way, and the RESET line is high (R199, R200). -/
abbrev State.portFree (s : State) : Prop :=
  s.port.requests = [] ∧ s.port.serving = false ∧ s.port.replies = [] ∧ s.port.fullReset = none ∧
    s.pins.resetHeld = false

/-- A request is served at once, and the part is not loading (R119). -/
abbrev State.takes (s : State) : Prop := s.portFree ∧ s.run.op ≠ .loading

/-- The state with one reply of a served request formed, which goes out at once if the transmitter is idle (R200, R205). -/
def State.withReply (s : State) (kind tag : Byte) (st : Status) (fs : List Field) : State :=
  { s with port := { s.port with
      receiving := false, serving := false, requests := [],
      replies := [{ kind := kind, tag := tag, served := true, answer := { status := st, fields := fs } }],
      tx := if s.port.tx = .idle then .reply else s.port.tx } }

end Sys2Proof.Machine
end

