-- ==== Sys2Proof/Certificates/Slice0/Obligations.lean ====
section
/-! DEFINITION. The statements for the provers. Each formalises rules of the manual or, where its title says so, a choice of
the model. A frame is said by an equality of states: `t = { s with x := t.x }` leaves every field but x as it was. -/

namespace Sys2Proof.Machine

/-- What a full reset leaves: every block at its full-reset values, the ESTOP line, the waiting commands and the memory given
as they are (R23, R44, R92, R114, R137, R153, R167, R181, R182, R191, R195, R208). -/
def State.afterReset (s : State) (reason : ResetReason) (stay held : Bool) (rate : Nat) (mem : Memory) (cut : Bool) : State :=
  { State.reset with
    pending := s.pending
    free := s.free
    pins := { estop := s.pins.estop, driveEnable := false, marker := false, resetHeld := held }
    run := { State.reset.run with reason := reason, stay := stay }
    port := { State.reset.port with rate := rate }
    mem := mem
    memCut := cut }

/-- The rate of the straps (R196). -/
def strapRate (x : Straps) : Nat := if x.rateA = x.rateB then 1 else if x.rateA then 2 else 4

/-- The memory and the cut flag that a reset leaves by the progress of a store (R190). -/
def afterCut (s : State) (x : StoreCut) (mem : Memory) (cut : Bool) : Prop :=
  (s.store.storing = false ∧ mem = s.mem ∧ cut = s.memCut) ∨
  (s.store.storing = true ∧ ∃ n, x = .writing n ∧ mem = memWrites s.mem (s.imageWrites.take n) ∧ cut = true) ∨
  (s.store.storing = true ∧ x = .readBack ∧ mem = memWrites s.mem s.imageWrites ∧ cut = false)

/-- The station record an entry to IDLE leaves (R74, R77). -/
def idled (r : StationRec) : StationRec :=
  { r with state := .idle, command := .torqueOff, demand := 0, trim := 0, e := 0, streak := 0, age := 0, slipTimer := 0 }

/-- Exactly the stations p chooses have changed, by f; the others and the numbers without a record are as before. -/
def stationsBecome (s t : State) (p : Station → StationRec → Bool) (f : StationRec → StationRec) : Prop :=
  ∀ n : Station, t.stations[n] = s.stations[n].map fun r => if p n r then f r else r

/-- The state is the other with that reply formed; only the report queue and the lost count may differ besides. -/
def repliedBy (s t : State) (kind tag : Byte) (st : Status) (fs : List Field) : Prop :=
  t = { s.withReply kind tag st fs with port := { (s.withReply kind tag st fs).port with
          reports := t.port.reports, lost := t.port.lost } }

/-- A computation in progress with every miss streak that GET_STATION shows at 0 (R79, R80; log 7). -/
def missless (s : State) : Option Computation :=
  s.comp.map fun k => { k with recordsBefore := k.recordsBefore.map (Option.map fun r => { r with miss := 0 }) }

/-- A computation in progress with f of what GET_STATION shows of the stations p chooses, whose records are given to f first
(R79; log 7). -/
def seenAfter (s : State) (p : Station → StationRec → Bool) (f : StationRec → StationRec → StationRec) : Option Computation :=
  s.comp.map fun k => { k with recordsBefore := Vector.ofFn fun n : Station => match s.stations[n] with
    | some r => if p n r then (k.recordsBefore[n]).map (f r) else k.recordsBefore[n]
    | none => k.recordsBefore[n] }

/-- A report at its submission, with the run cycle count and the operating state that stand there (R204). -/
abbrev Told := Word32 × OpState × ReportBody

/-- Those of some reports that lie within REPORT_LEVEL (R203). -/
def heard (s : State) (l : List Told) : List Told := l.filter fun x => decide (x.2.2.level ≤ s.params.reportLevel)

/-- Reports as the queue holds them in the order of their submission: the first takes the lost count (R203, R204). -/
def queuedReports (lost : Nat) : List Told → List Report
  | [] => []
  | x :: rest => { lost := lost, count := x.1, op := x.2.1, body := x.2.2 } :: queuedReports 0 rest

/-- The report queue has gained exactly these reports within REPORT_LEVEL, where it has room for them. -/
def submits (s t : State) (l : List Told) : Prop :=
  s.port.reports.length + (heard s l).length ≤ 32 →
    t.port.reports = s.port.reports ++ queuedReports s.port.lost (heard s l) ∧
    t.port.lost = if heard s l = [] then s.port.lost else 0

/-- As `submits`, for a command that is no request: the transmitter then chooses, and where it is idle, nothing holds it and no
reply waits it takes the oldest report (R203, R205). -/
def emits (s t : State) (l : List Told) : Prop :=
  s.port.reports.length + (heard s l).length ≤ 32 →
    let queue := s.port.reports ++ queuedReports s.port.lost (heard s l)
    let chooses := s.port.tx = .idle ∧ s.port.replies = [] ∧ s.pins.resetHeld = false ∧
      ¬∃ f, s.port.fullReset = some f ∧ f.sent = true
    t.port.lost = (if heard s l = [] then s.port.lost else 0) ∧
    (¬chooses → t.port.reports = queue) ∧
    (chooses → t.port.reports = queue.drop 1 ∧ t.port.tx = match queue with | [] => .idle | x :: _ => .report x)

/-- The report queue has gained these reports within REPORT_LEVEL before any others, where it has room for them. -/
def submitsFirst (s t : State) (l : List Told) : Prop :=
  s.port.reports.length + (heard s l).length ≤ 32 →
    ∃ more, t.port.reports = s.port.reports ++ queuedReports s.port.lost (heard s l) ++ more

/-- The reports of a queue with what they carried from their submission, their lost counts apart. -/
def told (l : List Report) : List Told := l.map fun x => (x.count, x.op, x.body)

/-- The STATION reports of the stations p chooses, which f takes to a state other than FAULTED, with the operating state, virtual
speed and monitor they show (R26, R62, R90). -/
def stationReports (s : State) (op : OpState) (v : Int) (m : Monitor) (reason : StationReason) (p : Station → StationRec → Bool)
    (f : StationRec → StationRec) (count : Word32) : List Told :=
  stationList.filterMap fun n => match s.stations[n] with
    | some r => if p n r then some (count, op, .station n r.state (f r).state reason none (f r).e (f r).measured
        ((v * 9).tdiv (65536 * 25 * s.cell.period)) m.summaries[r.block.axle]) else none
    | none => none

/-- The virtual speed a STATION report shows, v being the axle's: between a cycle close and its completion the one the
computation before left (R26; log 7). -/
def shownSpeed (s : State) (v : Int) : Int :=
  match s.comp with
  | some k => if (k.began = .run ∨ k.began = .stopping) ∧ k.void = false then k.axleBefore.v else v
  | none => v

/-- The monitor whose summaries a STATION report of a request carries: that of the last completed computation (R90). -/
def shownMonitor (s : State) : Monitor :=
  match s.comp with
  | some k => k.monitorBefore
  | none => s.monitor

/-- The SEGMENT and PHASE reports of a segment start at a trace clock (R101, R102). -/
def startReports (count : Word32) (op : OpState) (g : Segment) (waiting : Nat) (clock : Word32) (phase : Option Nat) (tol : Nat) :
    List Told :=
  (count, op, .segmentStarted g.tag clock waiting) ::
    match g.phase with
    | some p => [(count, op, .phase p phase tol clock)]
    | none => []

/-- The STATE report of a change that leaves the pending orderly reset as it is (R118). -/
def stateReport (r : Run) (prev new : OpState) (cause : StateCause) : Told :=
  (r.count, new, .state prev new cause none r.tag r.mode r.orderly false)

/-- The station is engaged: CAPTURE, LOCKED or SLIP (R77). -/
def engagedIn (r : StationRec) : Bool := r.state == .capture || r.state == .locked || r.state == .slip

/-- The FAULT report of a raise that finds this fault manager (R148; its parts: O57). -/
def faultTold (m : Faults) (count : Word32) (op : OpState) (f : Raise) : Told :=
  let after := Faults.take f count op m
  (count, op, .fault f (recordRaise f count op m).2 (m.reaction.accepts f.kind.level) after.reaction after.overflow)

/-- The reports of a level-1 raise that takes the part from an operating state to SAFE: FAULT, the STATION reports of the engaged
stations, STATE (R77, R118, R129, R148; the states they carry: log 21). -/
def safeReports (s : State) (prev : OpState) (f : Raise) : List Told :=
  faultTold s.faults s.run.count prev f ::
    (stationReports s .safe 0 s.monitor .safe (fun _ r => engagedIn r) idled s.run.count ++
      [(s.run.count, .safe, .state prev .safe .fault (some f.kind) s.run.tag s.run.mode false s.run.orderly)])

/-- The player plays, is held or in underrun: the states that an entry to STOPPING ends (R109). -/
def endsInStop (y : Player) : Bool := y.mode == .playing || y.mode == .held || y.mode == .underrun

/-- The player after an entry to STOPPING (R109). -/
def playerStopped (y : Player) : Player :=
  if endsInStop y then { y with active := none, mode := .ended, ended := some .stopped } else y

/-- The reports of an accepted level-2 raise of a kind that takes the part from RUN to STOPPING, after its FAULT: PROFILE_END
where the player ends, then STATE (R109, R118, R126; the state PROFILE_END carries: log 21). -/
def stopReports (s : State) (count : Word32) (kind : FaultKind) : List Told :=
  (if endsInStop s.player then [(count, .stopping, .profileEnd .stopped s.player.lastTag s.player.clock)] else []) ++
    [(count, .stopping, .state .run .stopping .fault (some kind) s.run.tag s.run.mode s.run.orderly false)]

/-- What raises of level 2 to 4 and reports do in their order, from a fault manager and an operating state: the two they leave, and
the reports. A raise of level 2 accepted in RUN takes the part to STOPPING (R126, R139 to R142). -/
def course (s : State) (count : Word32) : Faults → OpState → List (Raise ⊕ ReportBody) → Faults × OpState × List Told
  | m, op, [] => (m, op, [])
  | m, op, .inr b :: rest =>
    let x := course s count m op rest
    (x.1, x.2.1, (count, op, b) :: x.2.2)
  | m, op, .inl f :: rest =>
    let stops : Bool := f.kind.level == 2 && m.reaction.accepts 2 && op == .run
    let x := course s count (Faults.take f count op m) (if stops then .stopping else op) rest
    (x.1, x.2.1, faultTold m count op f :: ((if stops then stopReports s count f.kind else []) ++ x.2.2))

/-- A fault of this kind and station is recorded, unless the list has overflowed (R145, R147). -/
def listed (m : Faults) (kind : FaultKind) (station : Option Station) (lane : Option Lane) (detail : Option Detail) : Prop :=
  m.overflow = false → ∃ e ∈ m.entries, e.kind = kind ∧ e.station = station ∧ e.lane = lane ∧ e.detail = detail

/-- The result and value with which an outstanding item completes at a cycle close, by the observation merged there; none while
it stays outstanding (R17, R18). -/
def serviceEnds (o : Outstanding) (obs : Option Observation) : Option (ServiceResult × Int) :=
  let late := if o.age = 3 then some (.timeout, o.item.value) else none
  match obs with
  | some (.valid _ _ _ _ (some x)) =>
    if x.index = o.item.index then some (if x.ok then .ok else .refused, x.value) else late
  | _ => late

/-- The speed a SPEED run's step aims at, moved from V by at most one step, before V_LIMIT holds it (R39, R40; log 24). -/
def speedMoved (s : State) : Int :=
  let target := roundDiv ((if s.run.fresh = true then 0 else s.player.speed) * 25 * s.cell.period * 65536) 9
  let step := roundDiv ((s.params.accelLimit : Int) * s.cell.period * s.cell.period * 65536) 100000
  if ((s.axle.v - target).natAbs : Int) ≤ step then target
  else if s.axle.v < target then s.axle.v + step else s.axle.v - step

/-- The step of a cycle computation in RUN is held at V_LIMIT, the force sum given (R37; O49). -/
def overspeeds (s : State) (fSum : Int) : Bool :=
  match s.run.mode with
  | .road => (roadStep s.params s.cell.period s.axle.vLimit s.axle.v s.axle.grade fSum).overspeed
  | .speed => decide (s.axle.vLimit < ((speedMoved s).natAbs : Int))

/-- What a judging's event raises or reports, the station and the virtual speed given: the raise, or the STATION report with the
summary of the computation before (R62, R71, R90). -/
def judgedAct (s : State) (n : Station) (v : Int) : StationEvent → Raise ⊕ ReportBody
  | .fault f => .inl f
  | .changed old x reason => .inr (.station n old x.state reason (if x.state = .faulted then x.cause else none) x.e x.measured
      ((v * 9).tdiv (65536 * 25 * s.cell.period)) s.monitor.summaries[x.block.axle])

/-- The detail of WINDUP and WINDUP_WARN: the spread and the trailing station (7.2). -/
def spreadDetail (m : Monitor) : Option Detail :=
  match m.spread, m.trailing with
  | some x, some n => some (.spread x n)
  | _, _ => none

/-- What a cycle close does station by station in the drive link controller, from s to t: LANE_DEGRADED of each lane whose streak
goes from 63 to 64, then SERVICE_DONE of an item that completes (R4, R12, R19). -/
def linkActs (s t : State) : List (Raise ⊕ ReportBody) :=
  stationList.flatMap fun n => if s.stations[n] = none then [] else
    (if s.link.st[n].streakA = 63 ∧ t.link.st[n].streakA = 64 then
      [.inl { kind := .laneDegraded, station := some n, lane := some .a }] else []) ++
    (if s.link.st[n].streakB = 63 ∧ t.link.st[n].streakB = 64 then
      [.inl { kind := .laneDegraded, station := some n, lane := some .b }] else []) ++
    match s.link.st[n].outstanding with
    | some o => ((serviceEnds o t.link.st[n].obs).map fun x => .inr (.serviceDone n o.item x.1 x.2)).toList
    | none => []

/-- The COUNTER_SATURATED reports of the counters cut for the first time between s and t, in the order of their numbers (R172;
log 47). -/
def firstCuts (s t : State) : List ReportBody :=
  ([0, 1, 2, 3] : List (Fin 4)).filterMap fun k =>
    if s.stats.counters[k].saturated = false ∧ t.stats.counters[k].saturated = true then
      some (.counterSaturated k s.stats.counters[k].station s.stats.counters[k].accumulate)
    else none

/-- What the cycle computation of a close does after the checks, from s to t, in an operating state, SAFE entered by the checks or
not: the judging's events station by station, OVERSPEED, WINDUP, WINDUP_WARN, COUNTER_SATURATED (R37, R62, R71, R86,
R87, R172). -/
def coreActs (s t : State) (op : OpState) (safe : Bool) : List (Raise ⊕ ReportBody) :=
  List.flatten [
    stationList.flatMap fun n => match s.stations[n], t.link.st[n].obs with
      | some r, some obs =>
        (judge n s.params op t.run.count obs (if safe && engagedIn r then idled r else r)).events.map
          (judgedAct s n (if safe then 0 else s.axle.v))
      | _, _ => [],
    if op = .run ∧ overspeeds s t.axle.fSum = true then [.inl { kind := .overspeed }] else [],
    if s.monitor.timer = s.cell.windupTime ∧ t.monitor.timer = s.cell.windupTime + 1 then
      [.inl { kind := .windup, detail := spreadDetail t.monitor }] else [],
    if s.monitor.warn = false ∧ t.monitor.warn = true then [.inl { kind := .windupWarn, detail := spreadDetail t.monitor }] else [],
    (firstCuts s t).map .inr]

/-- The speed-band check of a run after the player's own work at a completion: the player it leaves, and the TOLERANCE it raises
(R110, R111). -/
def bandChecked (s : State) (y : Player) : Player × Option Raise :=
  if s.run.mode = .speed then (y, none)
  else if ((s.axle.v * 9).tdiv (65536 * 25 * s.cell.period) - y.speed).natAbs ≤ s.inForce.tolBand then
    ({ y with excursion := 0, raised := false }, none)
  else
    let n := min 65535 (y.excursion + 1)
    if y.raised = false ∧ s.inForce.tolTime < n then
      ({ y with excursion := n, raised := true, phaseTol := min 255 (y.phaseTol + 1) },
        some { kind := .tolerance, detail := some (.phase y.phase) })
    else ({ y with excursion := n }, none)

/-- The movement the plausibility check expects of a station at a judging (R51, R52). -/
def expectedMove (r : StationRec) : Int :=
  if r.state = .locked ∨ r.state = .slip then r.tNext - r.tAccept
  else (r.intervalFf * (min 65535 (r.since + 1) : Nat)).tdiv 256

/-- The judging of a station that is faulted with a cause: its record, its raise and its STATION report (R71, R72, 7.2). -/
def faultedAs (n : Station) (op : OpState) (old : LockState) (x : StationRec) (cause : StationCause) (kind : FaultKind)
    (detail : Option Detail) : Judging :=
  let follows := (op = .run ∨ op = .stopping) ∧ (cause = .slipTime ∨ cause = .errorClamp ∨ cause = .captureFail)
  let y := { x with state := .faulted, cause := some cause, streak := 0, age := 0, slipTimer := 0, trim := 0, trimSat := false,
                    faultCommand := if follows then .follow else .torqueOff }
  { r := y, events := [.fault { kind := kind, station := some n, cause := some cause, detail := detail },
                       .changed old y .fault] }

/-- The entries that a test lets fire, with their numbers (R159). -/
def firedBy (s : State) (test : EventEntry → Bool) : List (Fin 16 × EventEntry) :=
  entryList.filterMap fun i => (s.events.entries[i].filter test).map fun e => (i, e)

/-- The snapshot after some firings from s: that of the last of them with a SNAPSHOT action, with the published values that base
holds; without one it stays (R165). -/
def snapshotIs (s t base : State) (l : List (Fin 16 × EventEntry)) : Prop :=
  match (l.filter fun p => p.2.actions.snapshot).getLast? with
  | none => t.stats.snap = s.stats.snap
  | some p => t.stats.snap.entry = some p.1 ∧ t.stats.snap.taken = s.run.count ∧
      ∀ k : Fin 4, t.stats.snap.values[k] = base.stats.counters[k].published

/-- The report is an EVENT report. -/
def isEventReport : ReportBody → Bool
  | .eventCycle _ _ _ => true
  | .eventDistance _ _ _ _ => true
  | .eventTrace _ _ _ => true
  | _ => false

/-- The report is a SERVICE_DONE report. -/
def isServiceDone : ReportBody → Bool
  | .serviceDone _ _ _ _ => true
  | _ => false

/-- The body lengths of the request kinds that have one length (12.2). -/
def bodyLengths : List (Nat × Nat) :=
  [(0x01, 0), (0x02, 1), (0x03, 24), (0x05, 0), (0x06, 0), (0x07, 5), (0x08, 1), (0x09, 16), (0x0B, 0), (0x0C, 4), (0x0D, 0),
    (0x0E, 1), (0x0F, 1), (0x10, 1), (0x11, 1), (0x12, 12), (0x13, 10), (0x14, 1), (0x15, 2), (0x16, 7), (0x17, 2), (0x18, 0),
    (0x19, 5), (0x1A, 2), (0x1B, 0), (0x1C, 0), (0x1D, 8), (0x1E, 3)]

/-- A body has another length than its request kind has: COMMISSION_STATION's follows from its action, APPEND_SEGMENT's from its
point count (R200, 12.2). -/
def wrongLength (kind : Nat) (body : List Byte) : Prop :=
  (∃ n, (kind, n) ∈ bodyLengths ∧ body.length ≠ n) ∨
  (kind = 0x04 ∧ (body = [] ∨ (body[0]? = some 1#8 ∧ body.length ≠ 14) ∨ (body[0]? = some 2#8 ∧ body.length ≠ 2))) ∨
  (kind = 0x0A ∧ ∀ n, body[6]? = some n → body.length ≠ 7 + 4 * n.toNat)

/-- What the monitor's stage forms of the station records of s, the timer before it given (R82 to R87, R89). -/
def monitorOf (s : State) (timer : Nat) (m : Monitor) : Prop :=
  let members := stationList.filter fun n : Station => (m.surface[n]).isSome
  (∀ (n : Station) (e : Int), m.surface[n] = some e ↔ ∃ r, s.stations[n] = some r ∧
    (r.state = .locked ∨ r.state = .slip) ∧ r.judgement = some .accepted ∧
    e = (r.e * r.cnm).tdiv (r.block.cpr * 1000)) ∧
  (∀ n : Station, inMask m.part n = (m.surface[n]).isSome ∧ (m.cross[n]).isSome = (m.surface[n]).isSome) ∧
  (members.length < 2 → m.spread = none ∧ m.mean = none ∧ m.leading = none ∧ m.trailing = none ∧ m.timer = 0 ∧
    m.warn = false ∧ ∀ (n : Station) (x : Int), m.cross[n] = some x → x = 0) ∧
  (2 ≤ members.length → ∃ (lead trail : Station) (lo hi mean : Int),
    m.leading = some lead ∧ m.trailing = some trail ∧ m.surface[lead] = some lo ∧ m.surface[trail] = some hi ∧
    m.spread = some (hi - lo) ∧ m.mean = some mean ∧
    mean = ((members.map fun n : Station => (m.surface[n]).getD 0).sum).tdiv members.length ∧
    (∀ (n : Station) (e : Int), m.surface[n] = some e →
      lo ≤ e ∧ e ≤ hi ∧ (e = lo → lead ≤ n) ∧ (e = hi → trail ≤ n)) ∧
    (∀ (n : Station) (e : Int) (r : StationRec), m.surface[n] = some e → s.stations[n] = some r →
      m.cross[n] = some ((((e - mean) * (r.block.cpr * 1000)).tdiv r.cnm * s.params.kx).tdiv 16)) ∧
    m.timer = (if (s.cell.windupLimit : Int) < hi - lo then min 65535 (timer + 1) else 0) ∧
    m.warn = decide (((s.cell.windupLimit / 2 : Nat) : Int) < hi - lo)) ∧
  ∀ a : Fin 4,
    let forces := stationList.filterMap fun n : Station => match s.stations[n] with
      | some r => if r.block.axle = a ∧ r.judgement = some .accepted then some (r.force.getD 0) else none
      | none => none
    let errors := stationList.filterMap fun n : Station => match s.stations[n] with
      | some r => if r.block.axle = a then m.surface[n] else none
      | none => none
    m.summaries[a] = { contributors := forces.length, force := forces.sum, participants := errors.length,
                       mean := if errors = [] then none else some (errors.sum.tdiv errors.length) }

/-- The entries that p keeps are as before and the others are free. -/
def entriesKept (s t : State) (p : EventEntry → Bool) : Prop :=
  ∀ i : Fin 16, t.events.entries[i] = s.events.entries[i].filter p

/-- The identifiers of the parameter table with their ranges, the two set parameters, the two windows and MASS apart
(10.4). -/
def parameterTable : List (Nat × Int × Int) :=
  [(1, 0, 4096), (2, 0, 4096), (3, 0, 4000000), (6, 1, 65534), (7, 1, 1000000), (8, 1, 64), (9, 64, 65534), (10, 1, 15),
    (11, 16, 1000000), (12, 10, 1000), (13, 10, 1000), (14, 1, 10000), (16, 1, 4), (18, 0, 200000), (19, 0, 1000000),
    (20, 0, 1000000)]

/-- The step is a full reset: every block at its full-reset values, the rest of the queue waiting (O12). -/
def fullyReset (s t : State) : Prop :=
  ∃ (reason : ResetReason) (stay held : Bool) (rate : Nat) (mem : Memory) (cut : Bool),
    t = ({ s with pending := s.pending.drop 1 } : State).afterReset reason stay held rate mem cut

/-- The request that a step puts into service is CLEAR_FAULT: the oldest waiting one, or with none waiting the one that this step
brings, as its row or as its record (R199, R200). -/
def servesClearFault (s : State) : Prop :=
  (∃ q rest, s.port.requests = q :: rest ∧ q.req = .clearFault) ∨
  (s.port.requests = [] ∧ ∃ c rest, s.pending = c :: rest ∧
    ((∃ tag, c = .clearFault tag) ∨ ∃ r, c = .recordReceived r ∧ decodeRequest r.kind r.body = .clearFault))

/-- How severe a reaction level is, the most severe the lowest (R138). -/
def severity : Reaction → Nat
  | .none => 4
  | .three => 3
  | .two => 2
  | .one => 1

/-- A cycle close forms a valid observation of some station (R7; O21). -/
def hearsOne (s : State) : Prop :=
  ∃ (n : Station) (r : StationRec), s.stations[n] = some r ∧ ∃ c f d x y,
    mergeLanes r.block.lanes r.block.direction s.link.st[n].repA s.link.st[n].repB = .valid c f d x y

/-- What ESTOP leaves of the run controller, the pins, the player, the fault manager and the axle where it takes an entry to SETTLE
on to SAFE, V_LIMIT given; while the link does not run no computation is in progress (O10) (R113, R128, R129, R131, R140). -/
def safeAtOnce (s t : State) (vLimit : Int) : Prop :=
  t.run = { s.run with op := .safe, settleCount := 0, settleTimer := 0, countEnable := false, stopCause := none,
                       orderly := false } ∧
  t.pins = { s.pins with driveEnable := false } ∧
  t.player = { s.player with active := none, waiting := [], mode := .empty, speed := 0, ended := none, excursion := 0,
                             raised := false } ∧
  t.faults = Faults.take { kind := .estop } s.run.count .settle s.faults ∧ t.faults.reaction = .one ∧
  (s.comp = none → t.comp = none ∧ t.axle = { s.axle with v := 0, vLimit := vLimit })

/-- What a run reset leaves, the event entries and the fault list apart (R20, R24, R45, R78, R93, R115, R133, R137, R154, R158,
R163, R167, R181, R182). -/
def runResetFrom (s t : State) : Prop :=
  (∀ n : Station, t.link.st[n] = if s.stations[n] = none then s.link.st[n]
    else { s.link.st[n] with waiting := [], outstanding := none }) ∧
  t.link = { s.link with st := t.link.st, pointer := 7 } ∧
  t.axle = { v := 0, whole := 0, frac := 0, grade := 0, adv := 0, fSum := 0, fRoad := 0, fGrade := 0, fNet := 0,
             vLimit := s.axle.vLimit } ∧
  stationsBecome s t (fun _ _ => true) (fun r =>
    { r with state := .idle, cause := none, faultCommand := .torqueOff, command := .torqueOff, demand := 0, trim := 0,
             ff := 0, intervalFf := 0, e := 0, residue := 0, streak := 0, age := 0, slipTimer := 0, miss := 0,
             trimSat := false }) ∧
  t.monitor = State.reset.monitor ∧ t.comp = none ∧ t.player = State.reset.player ∧
  t.events.markPending = false ∧
  (∀ k : Fin 4, t.stats.counters[k] = { s.stats.counters[k] with working := 0, published := 0, saturated := false }) ∧
  t.stats.watches = s.stats.watches ∧ t.stats.snap = State.reset.stats.snap ∧
  t.trace = { s.trace with records := [], fullReported := false, waiting := false } ∧
  t.run = { s.run with op := if s.run.op = .config then .config else .settle, count := 0, countEnable := false,
                       stopCause := none, orderly := false, settleCount := 0, settleTimer := 0 } ∧
  t.pins = { s.pins with driveEnable := if s.run.op = .config then s.pins.driveEnable else false } ∧
  t.store = s.store ∧ t.params = s.params ∧ t.mem = s.mem ∧ t.faults.silence = 0

/-- The trigger in its ranges that a request's values make (R155, R156). -/
def triggerIs (g : TriggerArg) (x : Trigger) : Prop :=
  (∃ v m, g = .cycle v m ∧ v < 64 ∧ m < 64 ∧ x = .cycle (BitVec.ofNat 6 v) (BitVec.ofNat 6 m)) ∨
  (∃ a p, g = .distance a p ∧ a < 4294967296 ∧ 1 ≤ p ∧ p ≤ 1000000 ∧ x = .distance a p a) ∨
  (∃ a, g = .traceTime a ∧ a < 4294967296 ∧ x = .traceTime a)

/-- The record of a newly commissioned station with its trim (R47, R80, R189). -/
def freshRecord (b : StationBlock) (ppm : Int) : StationRec :=
  { block := b, cnm := roundDiv ((b.circ : Int) * (1000000 + ppm)) 1000, trimPpm := ppm, state := .idle, cause := none,
    faultCommand := .torqueOff, baseline := false, lastRaw := 0, lastAt := 0, since := 0, judgement := none, measured := 0,
    tLast := 0, tNext := 0, tAccept := 0, residue := 0, e := 0, ff := 0, intervalFf := 0, trim := 0, trimSat := false,
    demand := 0, command := .torqueOff, streak := 0, age := 0, slipTimer := 0, miss := 0, force := none, drive := none,
    trip := none }

/-- Exactly the numbers p chooses begin in the drive link controller as after a full reset (R23, R189); nothing else of it
changes. -/
def linkRenewed (s t : State) (p : Station → Prop) : Prop :=
  (∀ n : Station, p n → t.link.st[n] = { outA := none, outB := none, repA := none, repB := none, obs := none, streakA := 0,
                                         streakB := 0, waiting := [], outstanding := none }) ∧
  (∀ n : Station, ¬p n → t.link.st[n] = s.link.st[n])

/-- The counters, watches and trace mask that name a station which had a record and has none now keep their configuration and
leave it out from now on, and nothing else of them changes (R168, R174, R176, R189). -/
def lossNoted (s t : State) : Prop :=
  let gone (n : Station) : Prop := s.stations[n] ≠ none ∧ t.stations[n] = none
  (∀ k : Fin 4,
    (∀ n, s.stats.counters[k].station = some n → gone n → t.stats.counters[k] = { s.stats.counters[k] with lost := true }) ∧
    ((∀ n, s.stats.counters[k].station = some n → ¬gone n) → t.stats.counters[k] = s.stats.counters[k]) ∧
    (∀ n, s.stats.watches[k].station = some n → gone n → t.stats.watches[k] = { s.stats.watches[k] with lost := true }) ∧
    ((∀ n, s.stats.watches[k].station = some n → ¬gone n) → t.stats.watches[k] = s.stats.watches[k])) ∧
  t.stats.snap = s.stats.snap ∧
  (∀ n : Station, inMask t.trace.lost n = true ↔ inMask s.trace.lost n = true ∨ gone n) ∧
  t.trace = { s.trace with lost := t.trace.lost }

/-- What the event tests of a completion make of an entry, by the distance in mm and the trace clock (R161, R162). -/
def entryTested (mm : Int) (clock : Nat) (e : EventEntry) (x : Option EventEntry) : Prop :=
  let fired (y : EventEntry) : Option EventEntry := some { y with fires := min 65535 (e.fires + 1) }
  (∀ v m, e.trigger = .cycle v m → x = some e) ∧
  (∀ a p k, e.trigger = .distance a p k → 1 ≤ p →
    (mm < k → x = some e) ∧
    ((k : Int) ≤ mm → ∃ n k', 1 ≤ n ∧ k' = k + n * p ∧ mm < k' ∧ (k' : Int) - p ≤ mm ∧
      x = fired { e with trigger := .distance a p k' })) ∧
  (∀ a, e.trigger = .traceTime a →
    (e.armed = true ∧ clock = a → x = fired { e with armed := false }) ∧
    (e.armed = false ∨ clock ≠ a → x = some e))

/-- A capture record, with the trace speed and player state of y (R176, R177). -/
def recordWords (s : State) (y : Player) (c : Computation) : List Word32 :=
  [s.run.count, BitVec.ofInt 32 (s.axle.v.tdiv 65536), BitVec.ofNat 32 (y.speed.toNat * 65536 + y.mode.code)] ++
  (stationList.filter (inMask s.trace.mask)).flatMap fun n : Station =>
    match (if inMask s.trace.lost n then none else c.records[n]) with
    | none => [0, 0, 0]
    | some r => [BitVec.ofInt 32 r.e, BitVec.ofInt 32 r.demand, BitVec.ofInt 32 (if r.baseline then r.force.getD 0 else 0)]

/-- The ring holds as many records as its capacity (R177). -/
def ringFull (x : Trace) : Prop := 8192 / (3 + 3 * (stationList.filter (inMask x.mask)).length) ≤ x.records.length

/-- A completion takes a record (R178). -/
def takesRecord (s : State) (c : Computation) : Prop :=
  (s.run.op = .run ∨ s.run.op = .stopping) ∧ s.trace.enable = true ∧
    (c.capture = true ∨ s.run.count.toNat % s.trace.decimation = 0)

/-- A yes-or-no field of a reply. -/
def yesNo (b : Bool) : Field := .u8 (if b then 1 else 0)

/-- An optional field of eight bytes with its presence byte (R211). -/
def optWide (o : Option Int) (g : Int → Field) : List Field :=
  match o with
  | none => [.u8 0, .gap 8]
  | some v => [.u8 1, g v]

/-- The axle in a GET_STATUS reply (R43). -/
def statusAxle (s : State) (x : Axle) (mode : RunMode) : List Field :=
  [.u8 mode.code, .s64 x.v, .s16 ((x.v * 9).tdiv (65536 * 25 * s.cell.period)), .s64 x.whole, .u16 x.frac.toNat, .s16 x.grade,
    .u32 s.params.mass, .s64 x.adv, .s32 x.fSum, .s64 x.fRoad, .s64 x.fGrade, .s64 x.fNet]

/-- One axle's summary in a reply (R89). -/
def statusSummary (z : Summary) : List Field :=
  [.u8 z.contributors, .s64 z.force, .u8 z.participants] ++ optWide z.mean (fun v => .s64 v)

/-- The monitor in a GET_STATUS reply (R91). -/
def statusMonitor (m : Monitor) : List Field :=
  List.flatten [[.u8 m.part.toNat], optWide m.spread (fun v => .u64 v.toNat), optWide m.mean (fun v => .s64 v),
    [.opt8 (m.leading.map Fin.val), .opt8 (m.trailing.map Fin.val), .u16 m.timer, yesNo m.warn],
    m.summaries.toList.flatMap statusSummary]

/-- The player's active segment in a GET_STATUS reply (R112). -/
def statusActive (y : Player) : List Field :=
  match y.active with
  | none => [.u8 0, .gap 9]
  | some g =>
    let p := (g.points[y.point]?).getD ⟨0, 0⟩
    [.u8 1, .u16 g.tag, .u8 y.point, .u16 y.elapsed, .u16 p.duration, .u16 p.speed]

/-- The player in a GET_STATUS reply (R112). -/
def statusPlayer (y : Player) : List Field :=
  List.flatten [[.u8 y.mode.code, .opt8 (if y.mode = .ended then y.ended.map EndReason.code else none)], statusActive y,
    [.u8 y.waiting.length], y.waiting.map (fun g => .u16 g.tag),
    [.u16 y.speed.toNat, .u32 y.clock.toNat, .opt8 y.phase, .u8 y.phaseTol, .u16 y.excursion, yesNo y.raised]]

/-- The run controller in a GET_STATUS reply (R136). -/
def statusRun (r : Run) (p : Pins) : List Field :=
  [.u8 r.op.code, .u8 r.tag, .u8 r.mode.code, .u32 r.count.toNat, yesNo r.countEnable, .opt8 (r.stopCause.map StopCause.code),
    yesNo r.orderly, .u16 r.settleCount, .u16 r.settleTimer, yesNo p.estop, yesNo p.driveEnable]

/-- The cell block in a GET_STATUS reply (R184). -/
def statusCell : Option CellBlock → List Field
  | none => [.u8 0, .gap 24]
  | some k => [.u8 1, .u16 k.period, .u8 k.mask.toNat, .u16 k.vmax, .u16 k.stopDecel, .u32 k.massMin, .u32 k.massMax,
      .u32 k.windupLimit, .u16 k.windupTime, .u8 k.linkLostLimit, .u16 k.settleCount]

/-- Whether the set is complete, and the first missing item, in a GET_STATUS reply (R184). -/
def statusMissing : Option MissingItem → List Field
  | none => [.u8 1, .u8 0, .gap 2]
  | some .cell => [.u8 0, .u8 1, .u8 0, .u8 0]
  | some (.station n) => [.u8 0, .u8 1, .u8 1, .u8 n.val]

/-- The fields of a GET_STATUS reply in their order (R206, R212), from the axle, monitor, player, run controller and fault manager
it shows; its own request still stands in the request queue (R200). -/
def statusFields (s : State) (x : Axle) (m : Monitor) (y : Player) (r : Run) (f : Faults) : List Field :=
  List.flatten [[.u8 s.link.counter.toNat, yesNo s.link.running], statusAxle s x r.mode, statusMonitor m, statusPlayer y,
    statusRun r s.pins, [.u8 f.reaction.code, .u8 f.entries.length, yesNo f.overflow, .u8 f.silence],
    [.u16 (entryList.map fun i => if s.events.entries[i].isSome then 2 ^ i.val else 0).sum, yesNo s.events.markPending],
    [yesNo s.store.locked, .u8 s.store.outcome.code], statusCell s.store.cell,
    [.u8 (stationList.map fun n : Station => if s.store.blocks[n].isSome then 2 ^ n.val else 0).sum], statusMissing s.missing,
    [.u8 s.port.rate, .u16 s.port.discards, .u8 s.port.refusals, .u8 1, .u8 s.port.reports.length, .u8 s.port.lost,
      .u8 s.params.reportLevel]]

/-- The fields of a GET_STATUS reply after a full reset, by the level of ESTOP and the line rate (R119, R136). -/
def loadingFields (estop : Bool) (rate : Nat) : List Field :=
  [.u8 63, .u8 0, .u8 0, .s64 0, .s16 0, .s64 0, .u16 0, .s16 0, .u32 400, .s64 0, .s32 0, .s64 0, .s64 0, .s64 0,
    .u8 0, .u8 0, .gap 8, .u8 0, .gap 8, .opt8 none, .opt8 none, .u16 0, .u8 0,
    .u8 0, .s64 0, .u8 0, .u8 0, .gap 8, .u8 0, .s64 0, .u8 0, .u8 0, .gap 8,
    .u8 0, .s64 0, .u8 0, .u8 0, .gap 8, .u8 0, .s64 0, .u8 0, .u8 0, .gap 8,
    .u8 0, .opt8 none, .u8 0, .gap 9, .u8 0, .u16 0, .u32 0, .opt8 none, .u8 0, .u16 0, .u8 0,
    .u8 0, .u8 0, .u8 0, .u32 0, .u8 0, .opt8 none, .u8 0, .u16 0, .u16 0, yesNo estop, .u8 0,
    .u8 0, .u8 0, .u8 0, .u8 0, .u16 0, .u8 0, .u8 0, .u8 1, .u8 0, .gap 24, .u8 0, .u8 0, .u8 1, .u8 0, .u8 0,
    .u8 rate, .u16 0, .u8 0, .u8 1, .u8 0, .u8 0, .u8 3]

/-- One counter in a READ_COUNTERS reply (R175). -/
def counterFields (c : Counter) : List Field :=
  [yesNo c.enable, .u8 (match c.station with | some n => n.val | none => 8), .u8 c.lane.code, .u8 (slotCode c.slot),
    .u8 ((if c.slip then 1 else 0) + (if c.trimSat then 2 else 0)), yesNo c.accumulate, .u16 c.published, yesNo c.saturated]

/-- One watch in a READ_COUNTERS reply (R175). -/
def watchFields (w : Watch) : List Field :=
  [.opt8 (w.station.map Fin.val), .opt8 (w.aEven.map LaneOutcome.code), .opt8 (w.aOdd.map LaneOutcome.code),
    .opt8 (w.bEven.map LaneOutcome.code), .opt8 (w.bOdd.map LaneOutcome.code)]

/-- The fields of a GET_STATION reply in their order (R22, R79, R212). -/
def stationFields (n : Nat) (r : StationRec) (x : LinkStation) : List Field :=
  let faulted (o : Option Nat) : Field := .opt8 (if r.state = .faulted then o else none)
  let streak (k : Nat) : Field := .opt8 (if r.block.lanes = .ab then some k else none)
  List.flatten [[.u8 n, .u8 r.block.axle.val, .u8 r.block.side.code, .u32 r.block.cpr, .u32 r.block.circ,
      .u8 r.block.lanes.code, .u8 r.block.direction.code, .u64 r.cnm.toNat, .u8 r.state.code,
      faulted (r.cause.map StationCause.code), faulted (some r.faultCommand.code), .opt8 (r.judgement.map Judgement.code),
      .u32 r.lastAt.toNat, .u16 r.since, .u32 r.lastRaw.toNat, .s64 r.measured, .s64 r.tLast, .s64 r.tNext,
      .u64 r.residue.toNat, .s32 r.e, .s32 r.ff, .s32 r.trim, .s32 r.demand, .u8 r.command.code, yesNo r.trimSat, .u8 r.streak,
      .u16 r.age, .u16 r.slipTimer, .u8 r.miss],
    (match (if r.baseline then r.force else none) with | none => [.u8 0, .gap 4] | some f => [.u8 1, .s32 f]),
    [.opt8 (if r.baseline then r.drive.map DriveState.code else none)],
    (match (if r.baseline then r.trip else none) with | none => [.u8 0, .gap 1] | some c => [.u8 1, .u8 c]),
    [.opt8 (x.outA.map LaneOutcome.code), .opt8 (x.outB.map LaneOutcome.code), .opt8 (x.obs.map Observation.code),
      streak x.streakA, streak x.streakB, .u8 x.waiting.length],
    (match x.outstanding with
      | none => [.u8 0, .gap 9]
      | some o => [.u8 1, .u8 n, .u8 o.item.op.code, .u16 o.item.index, .s32 o.item.value, .u8 o.age])]

/-- The fields of one entry of the fault list in a READ_FAULTS reply (7.4, R150, R212). -/
def faultFields (e : FaultEntry) (position : Nat) : List Field :=
  List.flatten [[.u8 position, .u8 e.kind.code, .u8 e.kind.level, .opt8 (e.station.map Fin.val), .opt8 (e.lane.map laneCode),
      .opt8 (e.cause.map StationCause.code)],
    (match e.detail with
      | none => [.u8 0, .gap 9]
      | some (.stations m) => [.u8 1, .u8 m.toNat, .gap 8]
      | some (.spread um n) => [.u8 1, .s64 um, .u8 n.val]
      | some (.trip c) => [.u8 1, .u8 c, .gap 8]
      | some (.phase p) => [.u8 1, .opt8 p, .gap 8]),
    [.u32 e.firstAt.toNat, .u32 e.lastAt.toNat, .u8 e.repeats, .u8 e.state.code]]

/-- That many steps from a state; none where one of them faults or refuses. -/
def runSteps : Nat → State → Option State
  | 0, s => some s
  | n + 1, s =>
    match step s with
    | .next t => runSteps n t
    | .fault _ => none
    | .refused _ => none

end Sys2Proof.Machine

open Sys2Proof Sys2Proof.Machine

/-! ### The machine as a whole -/

/-- One step takes the command at the front of the queue and carries it out with the queue's rest. With an empty queue the
part idles: that is the model's choice (log 2). -/
def Obligations.StepTakesTheFront : Prop :=
  (∀ (c : Instr) (rest : List Instr) (s : State), s.pending = c :: rest → step s = exec c { s with pending := rest }) ∧
  ∀ s : State, s.pending = [] → step s = .next s

/-- What reset leaves: the values the manual gives (R23, R44, R92, R114, R137, R153, R167, R181, R182, R191, R195, R208), and
every condition of Safety.lean. -/
def Obligations.ResetValues : Prop :=
  (let s := State.reset
   (s.link.running = false ∧ s.link.counter = 63 ∧ s.link.pointer = 7 ∧
     ∀ n : Station, s.link.st[n].outA = none ∧ s.link.st[n].outB = none ∧ s.link.st[n].obs = none ∧
       s.link.st[n].streakA = 0 ∧ s.link.st[n].streakB = 0 ∧ s.link.st[n].waiting = [] ∧ s.link.st[n].outstanding = none) ∧
   (s.axle.v = 0 ∧ s.axle.whole = 0 ∧ s.axle.frac = 0 ∧ s.axle.grade = 0 ∧ s.axle.adv = 0 ∧ s.axle.fSum = 0 ∧
     s.axle.fRoad = 0 ∧ s.axle.fGrade = 0 ∧ s.axle.fNet = 0) ∧
   (∀ n : Station, s.stations[n] = none ∧ s.monitor.surface[n] = none ∧ s.monitor.cross[n] = none) ∧
   (s.monitor.part = 0 ∧ s.monitor.spread = none ∧ s.monitor.mean = none ∧ s.monitor.leading = none ∧
     s.monitor.trailing = none ∧ s.monitor.timer = 0 ∧ s.monitor.warn = false ∧
     ∀ a : Fin 4, s.monitor.summaries[a] = { contributors := 0, force := 0, participants := 0, mean := none }) ∧
   (s.player.active = none ∧ s.player.waiting = [] ∧ s.player.mode = .empty ∧ s.player.point = 0 ∧ s.player.elapsed = 0 ∧
     s.player.start = 0 ∧ s.player.speed = 0 ∧ s.player.clock = 0 ∧ s.player.phase = none ∧ s.player.phaseTol = 0 ∧
     s.player.excursion = 0 ∧ s.player.raised = false ∧ s.player.ended = none) ∧
   (s.run.op = .loading ∧ s.run.tag = 0 ∧ s.run.mode = .road ∧ s.run.count = 0 ∧ s.run.countEnable = false ∧
     s.run.stopCause = none ∧ s.run.orderly = false ∧ s.run.settleCount = 0 ∧ s.run.settleTimer = 0) ∧
   s.faults = { entries := [], overflow := false, reaction := .none, silence := 0 } ∧
   ((∀ i : Fin 16, s.events.entries[i] = none) ∧ s.events.markPending = false ∧ s.pins.marker = false ∧
     s.pins.driveEnable = false) ∧
   (∀ k : Fin 4,
     s.stats.counters[k] = { enable := false, station := none, lane := .either, slot := [], slip := false, trimSat := false,
                             accumulate := false, working := 0, published := 0, saturated := false,
                             lost := false } ∧
     s.stats.watches[k] = { station := none, aEven := none, aOdd := none, bEven := none, bOdd := none, lost := false } ∧
     s.stats.snap.values[k] = 0) ∧
   (s.stats.snap.entry = none ∧ s.stats.snap.taken = 0) ∧
   s.trace = { mask := 0, decimation := 1, overwrite := false, enable := false, records := [], fullReported := false,
               waiting := false, lost := 0 } ∧
   (s.store.cell = none ∧ (∀ n : Station, s.store.blocks[n] = none) ∧ s.store.locked = false ∧ s.store.storing = false) ∧
   (s.params.kp = 256 ∧ s.params.kx = 0 ∧ s.params.trimMax = 25600 ∧ s.params.lockWindow = 64 ∧ s.params.slipWindow = 512 ∧
     s.params.slipTime = 2000 ∧ s.params.captureWindow = 512 ∧ s.params.captureCycles = 32 ∧ s.params.captureLimit = 4000 ∧
     s.params.missLimit = 4 ∧ s.params.jumpLimit = 4096 ∧ s.params.accelLimit = 300 ∧ s.params.tolBand = 200 ∧
     s.params.tolTime = 1000 ∧ s.params.underrunStop = false ∧ s.params.reportLevel = 3 ∧ s.params.countEnable = false ∧
     s.params.a = 0 ∧ s.params.b = 0 ∧ s.params.c = 0 ∧ ∀ n : Station, s.params.circTrim[n] = 0) ∧
   (s.port.receiving = false ∧ s.port.requests = [] ∧ s.port.replies = [] ∧ s.port.reports = [] ∧ s.port.lost = 0 ∧
     s.port.discards = 0 ∧ s.port.refusals = 0 ∧ s.port.tx = .idle)) ∧
  (State.reset.sound = true)

/-! ### Invariants that every step keeps -/

/-- DRIVE_ENABLE is asserted exactly in READY, RUN and STOPPING, the link runs exactly in SETTLE, READY, RUN, STOPPING and
SAFE, and the commissioning set is locked whenever it runs (R1, R117, R191). -/
def Obligations.OutputsFollowTheState : Prop :=
  ∀ s t : State, s.outputsAgree = true → step s = .next t → t.outputsAgree = true

/-- With ESTOP asserted the part is never in SETTLE, READY, RUN or STOPPING (R131). -/
def Obligations.EstopIsObeyed : Prop :=
  ∀ s t : State, s.estopObeyed = true → step s = .next t → t.estopObeyed = true

/-- The virtual axle is at rest outside RUN and STOPPING, its speed stays within V_LIMIT (R25, R28, R37, R41), and its distance
fraction from 0 to 65,535 (R25, R38). -/
def Obligations.AxleStaysWithinItsLimits : Prop :=
  (∀ s t : State, s.axleSafe = true → step s = .next t → t.axleSafe = true) ∧
  (∀ s t : State, s.fractionSound = true → step s = .next t → t.fractionSound = true)

/-- The port's queues and counts keep their bounds, and only a store keeps a request in service (R199, R200, R201, R203,
R205). -/
def Obligations.PortKeepsItsBounds : Prop :=
  ∀ s t : State, s.portSound = true → step s = .next t → t.portSound = true

/-- At most four segments and two service items a station wait, and an outstanding item is younger than four cycle closes (R13, R18,
R95); every counter, published and snapshot value lies within 65,535 and every lane streak within 64 (R10, R172); the trace records
lie within their capacity, each of the size its mask gives (R177); the player is EMPTY outside RUN and STOPPING, and no segment
waits outside READY, RUN and STOPPING (R95, R98); and the commissioning memory keeps its canonical form. -/
def Obligations.QueuesAndMemoryKeepTheirForm : Prop :=
  (∀ s t : State, s.queuesSound = true → step s = .next t → t.queuesSound = true) ∧
  (∀ s t : State, s.countsSound = true → step s = .next t → t.countsSound = true) ∧
  (∀ s t : State, s.traceSound = true → step s = .next t → t.traceSound = true) ∧
  (∀ s t : State, s.playerSound = true → step s = .next t → t.playerSound = true) ∧
  (∀ s t : State, Memory.wf s.mem = true → step s = .next t → Memory.wf t.mem = true)

/-- No two entries of the fault list share kind, station and lane, an entry of part scope has neither station nor lane, the
list holds at most 8 entries, and a raise with an entry's identity, whatever its cause and detail, changes that entry and adds
none (R144). -/
def Obligations.FaultListKeepsIdentities : Prop :=
  (∀ s t : State, s.faultsSound = true → step s = .next t → t.faultsSound = true) ∧
  ∀ (s : State) (f : Raise) (e : FaultEntry) (l r : List FaultEntry), s.faultsSound = true →
    s.faults.entries = l ++ e :: r → e.kind = f.kind → e.station = f.station → e.lane = f.lane →
    (raiseFault f s).faults.entries = l ++ { e with repeats := min 255 (e.repeats + 1), lastAt := s.run.count,
                                                    cause := f.cause, detail := f.detail } :: r

/-- Every position error lies within ±16,777,215, every gearing residue of a geared station from 0 to C_nm − 1, and stations
are engaged only in RUN and STOPPING (R54, R58, R77, R82). -/
def Obligations.StationsStaySound : Prop :=
  ∀ s t : State, s.stationsSound = true → s.rollersSound = true → step s = .next t →
    t.stationsSound = true ∧ t.rollersSound = true

/-- The working set stays within its ranges, the cell block and the encoder count and circumference of every station block held,
with no two blocks at one position, and the stored MASS within its bounds (R46, R184, R188, R194); every station record belongs
to a commissioned station and carries its block, and every commissioned station has one (R46, R183, R189); and a computation in
progress, which there is only while the link runs, keeps records for exactly the stations that have one (the model's field comp,
log 7). From LOADING's end on, while the set is locked, no step but a full reset changes the lock, the cell block with its cycle
period, a station block, V_LIMIT or the fixed fields of a station record (R120, R191). -/
def Obligations.WorkingSetStaysSound : Prop :=
  (∀ s t : State, s.setSound = true → step s = .next t → t.setSound = true) ∧
  (∀ s t : State, s.tableFollows = true → step s = .next t → t.tableFollows = true) ∧
  (∀ s t : State, s.outputsAgree = true → s.computationFollows = true → step s = .next t → t.computationFollows = true) ∧
  (∀ s t : State, s.run.op ≠ .loading → s.store.locked = true → step s = .next t → fullyReset s t ∨
    (t.store.locked = true ∧ t.store.cell = s.store.cell ∧ t.store.blocks = s.store.blocks ∧ t.axle.vLimit = s.axle.vLimit ∧
      ∀ n : Station, t.stations[n].map StationRec.block = s.stations[n].map StationRec.block))

/-- LOCK_WINDOW stays below SLIP_WINDOW whatever the order of their writes. After the range clamp a LOCK_WINDOW at or above
SLIP_WINDOW is stored as SLIP_WINDOW − 1 and a SLIP_WINDOW at or below LOCK_WINDOW as LOCK_WINDOW + 1, with reply CLAMPED, and
the other window is not changed (R193). -/
def Obligations.WindowsStayApart : Prop :=
  (∀ s t : State, s.windowsApart = true → step s = .next t → t.windowsApart = true) ∧
  ∀ (s : State) (tag : Byte) (v : Int), s.takes → s.paramsInRange = true →
    ((s.params.slipWindow : Int) ≤ max 1 (min 1000000 v) →
      exec (.setParam tag 4 v) s =
        .next (({ s with params := { s.params with lockWindow := s.params.slipWindow - 1 } } : State).withReply 0x87#8 tag
          .clamped [.u8 4, .s32 (s.params.slipWindow - 1)])) ∧
    (max 2 (min 4000000 v) ≤ s.params.lockWindow →
      exec (.setParam tag 5 v) s =
        .next (({ s with params := { s.params with slipWindow := s.params.lockWindow + 1 } } : State).withReply 0x87#8 tag
          .clamped [.u8 5, .s32 (s.params.lockWindow + 1)]))

/-! ### Resets and lines -/

/-- POWER_UP, RESET_LINE_LOW, RESET_LINE_HIGH and FULL_RESET leave every block at its full-reset values, the part in LOADING, and
the commissioning memory as a store in progress left it; the rate is as the straps say, but for RESET_LINE_LOW, after which it
stays until the line goes high (the model's choice, log 35). RESET at level FULL is answered OK and its full reset becomes due;
until its reply has gone out nothing else changes, and its manner has no effect (R119, R133, R135, R190, R196, R201). The
model's own in this: the flag of a cut store (log 11), a store cut by a loss of power (log 43), FULL_RESET as a step of its own
after the reply (log 33), and the reset values that the manual leaves open (log 6, 9, 12). -/
def Obligations.FullResetsEmptyThePart : Prop :=
  (∀ (s : State) (x : Straps) (cut : StoreCut),
     (∃ m b, afterCut s cut m b ∧ exec (.powerUp x cut) s = .next (s.afterReset .power false false (strapRate x) m b)) ∧
     (s.pins.resetHeld = false →
       ∃ m b, afterCut s cut m b ∧ exec (.resetLineLow cut) s = .next (s.afterReset .line false true s.port.rate m b)) ∧
     (s.pins.resetHeld = true →
       exec (.resetLineHigh x) s = .next (s.afterReset .line false false (strapRate x) s.mem s.memCut)) ∧
     ∀ f : PendingFull, s.port.fullReset = some f → f.sent = true →
       exec (.fullReset x) s = .next (s.afterReset .request f.stay false (strapRate x) s.mem s.memCut)) ∧
  (∀ (s : State) (tag : Byte) (manner stay : Nat), s.portFree → manner ≤ 1 → stay ≤ 1 →
     exec (.resetFull tag manner stay) s =
       .next { s.withReply 0x9E#8 tag .ok [] with
         port := { (s.withReply 0x9E#8 tag .ok []).port with
           fullReset := some { stay := decide (stay = 1), sent := false } } })

/-- ESTOP_RELEASED and MARKER_PULSE_END move their line and nothing else, and so does ESTOP_ASSERTED in LOADING, CONFIG and SAFE.
ESTOP_ASSERTED in SETTLE, READY, RUN and STOPPING takes the part to SAFE with every effect of the entry: DRIVE_ENABLE off, V 0,
the engaged stations IDLE, the player EMPTY with its queue empty, the run's own events removed, run-count enable, stop cause and
pending orderly reset removed, the raise recorded with reaction level 1; a computation in progress that began in RUN or STOPPING
has Δd 0 and its distance undone; FAULT, the STATION reports of those stations and STATE are submitted in this order (R29, R77,
R113, R118, R128, R129, R131, R140, R148, R163). The model's own in this: that the replies show the raise and the stations gone
idle at once, and else what the computation before left (its reading, log 7; the clauses on comp), that the lock engine's results
of such a computation stay (log 39), the operating states and summaries the reports carry (log 21, 45), and that a station gone
idle keeps its trim-saturated flag (log 44). An idle transmitter with no reply waiting takes the oldest report. -/
def Obligations.LinesAct : Prop :=
  (∀ s : State,
     exec .estopReleased s = .next (pumpTx { s with pins := { s.pins with estop := false } }) ∧
     exec .markerPulseEnd s = .next (pumpTx { s with pins := { s.pins with marker := false } }) ∧
     (s.run.op = .loading ∨ s.run.op = .config ∨ s.run.op = .safe →
       exec .estopAsserted s = .next (pumpTx { s with pins := { s.pins with estop := true } }))) ∧
  (∀ s : State, s.run.op = .settle ∨ s.run.op = .ready ∨ s.run.op = .run ∨ s.run.op = .stopping →
     let raised (m : Faults) : Faults := Faults.take { kind := .estop } s.run.count s.run.op m
     let left := seenAfter s (fun _ r => engagedIn r) fun _ => idled
     ∃ t, exec .estopAsserted s = .next t ∧
       t.run = { s.run with op := .safe, countEnable := false, stopCause := none, orderly := false } ∧
       t.pins = { s.pins with estop := true, driveEnable := false } ∧
       stationsBecome s t (fun _ r => r.state == .capture || r.state == .locked || r.state == .slip) idled ∧
       t.player = { s.player with active := none, waiting := [], mode := .empty, speed := 0, ended := none, excursion := 0,
                                  raised := false } ∧
       (s.run.op = .settle ∨ s.run.op = .ready → t.events = s.events) ∧
       (s.run.op = .run ∨ s.run.op = .stopping → t.events.markPending = s.events.markPending ∧
         entriesKept s t (fun e => e.persistent || e.runTag != s.run.tag)) ∧
       t.faults = raised s.faults ∧ t.faults.reaction = .one ∧
       (s.comp = none → t.comp = none ∧ t.axle = { s.axle with v := 0 }) ∧
       (∀ k, s.comp = some k → k.began = .run ∨ k.began = .stopping →
         t.comp = left.map (fun k => { k with void := true, faultsBefore := raised k.faultsBefore }) ∧
         t.axle = { s.axle with v := 0, whole := k.axleBefore.whole, frac := k.axleBefore.frac, adv := 0 }) ∧
       (∀ k, s.comp = some k → k.began ≠ .run → k.began ≠ .stopping →
         t.comp = left.map (fun k => { k with faultsBefore := raised k.faultsBefore }) ∧ t.axle = { s.axle with v := 0 }) ∧
       emits s t (safeReports s s.run.op { kind := .estop }) ∧
       t = { s with run := t.run, pins := t.pins, stations := t.stations, player := t.player, events := t.events,
                    faults := t.faults, comp := t.comp, axle := t.axle,
                    port := { s.port with reports := t.port.reports, lost := t.port.lost, tx := t.port.tx } })

/-! ### Load and store -/

/-- LOAD_COMPLETION. A VALID image: the working set is the image's, each commissioned station has a fresh record and begins in the
drive link controller as after a full reset, MASS is MASS_MIN and V_LIMIT is formed; without the stay-in-CONFIG flag the set
locks, the link starts and the part enters SETTLE; ESTOP asserted then takes it on to SAFE, with FAULT and STATE after STARTED (log
21); with the flag it enters CONFIG and the set stays unlocked. Any other image: the working set empty, MASS 400 (log 12), the part
in CONFIG and the outcome stored. A STARTED report is submitted, and an idle transmitter takes it where none waits before it (R1,
R23, R27, R47, R80, R118, R119, R129, R131, R186, R191). -/
def Obligations.LoadCompletionActs : Prop :=
  (∀ (s : State) (answers : Bool) (k : CellBlock) (blocks : Vector (Option StationBlock) 8),
     s.run.op = .loading → s.pins.resetHeld = false → s.pins.estop = false → s.run.stay = false →
     (∀ n : Station, s.stations[n] = none) → loadImage answers s.mem s.memCut = (.valid, some (k, blocks)) →
     ∃ t, exec (.loadCompletion answers) s = .next t ∧
       t.run = { s.run with op := .settle, settleCount := 0, settleTimer := 0 } ∧ t.link.running = true ∧
       t.store = { s.store with cell := some k, blocks := blocks, locked := true, outcome := .valid } ∧
       t.params = { s.params with mass := k.massMin } ∧
       t.axle = { s.axle with v := 0, vLimit := roundDiv ((k.vmax : Int) * 25 * k.period * 65536) 9 } ∧
       (∀ n : Station, t.stations[n] = if inMask k.mask n then blocks[n].map (fun b => freshRecord b s.params.circTrim[n])
         else none) ∧
       linkRenewed s t (fun n => t.stations[n] ≠ none) ∧
       emits s t [(s.run.count, .settle, .started s.run.reason .valid .settle)] ∧
       t = { s with run := t.run, link := { s.link with running := true, st := t.link.st }, store := t.store,
                    params := t.params, axle := t.axle, stations := t.stations, comp := missless s,
                    pins := { s.pins with driveEnable := false },
                    port := { s.port with reports := t.port.reports, lost := t.port.lost, tx := t.port.tx } }) ∧
  (∀ (s : State) (answers : Bool) (k : CellBlock) (blocks : Vector (Option StationBlock) 8),
     s.run.op = .loading → s.pins.resetHeld = false → (∀ n : Station, s.stations[n] = none) →
     loadImage answers s.mem s.memCut = (.valid, some (k, blocks)) →
     let loaded (t : State) : Prop := t.params = { s.params with mass := k.massMin } ∧
       t.axle.vLimit = roundDiv ((k.vmax : Int) * 25 * k.period * 65536) 9 ∧
       (∀ n : Station, t.stations[n] = if inMask k.mask n then blocks[n].map (fun b => freshRecord b s.params.circTrim[n])
         else none) ∧ linkRenewed s t (fun n => t.stations[n] ≠ none)
     (s.run.stay = true →
       ∃ t, exec (.loadCompletion answers) s = .next t ∧ loaded t ∧ t.run = { s.run with op := .config } ∧
         t.store = { s.store with cell := some k, blocks := blocks, outcome := .valid } ∧
         emits s t [(s.run.count, .config, .started s.run.reason .valid .config)] ∧
         t = { s with run := t.run, link := { s.link with st := t.link.st }, store := t.store, params := t.params,
                      axle := { s.axle with vLimit := t.axle.vLimit }, stations := t.stations,
                      port := { s.port with reports := t.port.reports, lost := t.port.lost, tx := t.port.tx } }) ∧
     (s.run.stay = false → s.pins.estop = true →
       ∃ t, exec (.loadCompletion answers) s = .next t ∧ loaded t ∧ t.link.running = true ∧
         t.store = { s.store with cell := some k, blocks := blocks, locked := true, outcome := .valid } ∧
         safeAtOnce s t (roundDiv ((k.vmax : Int) * 25 * k.period * 65536) 9) ∧
         emits s t ((s.run.count, .settle, .started s.run.reason .valid .settle) :: safeReports s .settle { kind := .estop }) ∧
         t = { s with run := t.run, pins := t.pins, player := t.player, faults := t.faults, comp := t.comp, axle := t.axle,
                      link := { s.link with running := true, st := t.link.st }, store := t.store, params := t.params,
                      stations := t.stations,
                      port := { s.port with reports := t.port.reports, lost := t.port.lost, tx := t.port.tx } })) ∧
  (∀ (s : State) (answers : Bool) (o : LoadOutcome),
     s.run.op = .loading → s.pins.resetHeld = false → loadImage answers s.mem s.memCut = (o, none) → o ≠ .valid →
     ∃ t, exec (.loadCompletion answers) s = .next t ∧
       t.run = { s.run with op := .config } ∧
       t.store = { s.store with cell := none, blocks := Vector.replicate 8 none, outcome := o } ∧
       t.params = { s.params with mass := 400 } ∧ (∀ n : Station, t.stations[n] = none) ∧
       emits s t [(s.run.count, .config, .started s.run.reason o .config)] ∧
       t = { s with run := t.run, store := t.store, params := t.params, stations := t.stations,
                    port := { s.port with reports := t.port.reports, lost := t.port.lost, tx := t.port.tx } })

/-- STORE_COMMISSIONING with an unlocked and complete working set keeps its request in service with no reply; an idle transmitter
then takes the oldest report. At STORE_COMPLETION the memory holds the image, or what the failed store wrote, and the reply is OK
or STORE_FAILED (R190, R201, R205). The model's own in this: what a failed store wrote is given as bytes from address 0 (log 31),
and a store that ends clears the flag of a cut one (log 11). -/
def Obligations.StoreHoldsItsReply : Prop :=
  (∀ (s : State) (tag : Byte), s.takes → s.store.locked = false → s.missing = none →
    let held : State := { s with
      store := { s.store with storing := true },
      port := { s.port with receiving := false, serving := true, requests := [⟨0x05#8, tag, .storeCommissioning⟩] } }
    (s.port.tx ≠ .idle ∨ s.port.reports = [] → exec (.storeCommissioning tag) s = .next held) ∧
    (∀ r rest, s.port.tx = .idle → s.port.reports = r :: rest → exec (.storeCommissioning tag) s =
      .next { held with port := { held.port with tx := .report r, reports := rest } })) ∧
  ∀ (s : State) (tag : Byte) (k : CellBlock) (left : List Byte), s.store.storing = true → s.store.cell = some k →
    s.port.requests = [⟨0x05#8, tag, .storeCommissioning⟩] → s.port.replies = [] → s.port.receiving = false →
    s.port.fullReset = none → s.pins.resetHeld = false → left.length ≤ (imageBytes k s.store.blocks).length →
    exec (.storeCompletion .stored) s =
      .next (({ s with store := { s.store with storing := false }, memCut := false,
                       mem := memWrites s.mem (storeWrites k s.store.blocks) } : State).withReply 0x85#8 tag .ok []) ∧
    exec (.storeCompletion (.failed left)) s =
      .next (({ s with store := { s.store with storing := false }, memCut := false,
                       mem := memWrites s.mem (placed 0 left) } : State).withReply 0x85#8 tag .storeFailed [])

/-- A stored image loads VALID with the working set that was stored, the blocks outside the mask left out (R185, R190,
R210, R211, R213). -/
def Obligations.StoredImageLoadsBack : Prop :=
  ∀ (s : State) (k : CellBlock), Memory.wf s.mem = true → s.setSound = true → s.store.cell = some k → s.missing = none →
    (∀ (n : Station) (b : StationBlock), s.store.blocks[n] = some b → 4096 ≤ b.cpr ∧ b.cpr ≤ 262144 ∧
      400000 ≤ b.circ ∧ b.circ ≤ 5000000) →
    ∃ blocks, loadImage true (storedMemory .stored s) false = (.valid, some (k, blocks)) ∧
      ∀ n : Station, blocks[n] = if inMask k.mask n then s.store.blocks[n] else none

/-! ### The link cycle -/

/-- CYCLE_START advances the cycle counter modulo 64, sends the SYNC frame with each station's entry by the operating state,
its command and its mounting direction, grants the service field to the first qualifying station after the pointer, gives a
pending mark its pulse, publishes every counter at a round start, and in SETTLE submits the SETTLE report there. Of the drive
link controller's stations only the granted one's items change and every lane's report is let go (the model's choice, log 28).
Nothing else changes but the event entries, a mark or CAPTURE their actions hand on, the snapshot, the reports and the count of
open orders taken (log 4) (R2, R5, R15, R16, R117, R122, R163, R173). -/
def Obligations.CycleStartSendsTheFrame : Prop :=
  ∀ s : State, s.link.running = true →
    let opened (m : Station) : LinkStation := { s.link.st[m] with repA := none, repB := none }
    ∃ t f, exec .cycleStart s = .next t ∧ t.link.counter = s.link.counter + 1 ∧ t.link.sync = some f ∧
      f.counter = s.link.counter + 1 ∧
      (∀ n : Station, f.entries[n] = match s.stations[n] with
        | none => ⟨.torqueOff, 0⟩
        | some r =>
          if (s.run.op = .run ∨ s.run.op = .stopping) ∧ r.command = .follow then
            ⟨.follow, if r.block.direction = .normal then r.demand
              else if r.demand = -2147483648 then 2147483647 else -r.demand⟩
          else ⟨.torqueOff, 0⟩) ∧
      (f.item = none → t.link.pointer = s.link.pointer ∧
        ∀ n : Station, s.link.st[n].waiting = [] ∨ s.link.st[n].outstanding ≠ none) ∧
      (∀ m : Station, (∀ i, f.item ≠ some (m, i)) → t.link.st[m] = opened m) ∧
      (∀ (n : Station) (i : ServiceItem), f.item = some (n, i) →
        (∃ rest, s.link.st[n].waiting = i :: rest ∧ s.link.st[n].outstanding = none ∧
          t.link.st[n] = { opened n with waiting := rest, outstanding := some { item := i, age := 0 } }) ∧
        t.link.pointer = n ∧
        ∀ m : Station, m - s.link.pointer - 1 < n - s.link.pointer - 1 →
          s.link.st[m].waiting = [] ∨ s.link.st[m].outstanding ≠ none) ∧
      t.pins = { s.pins with marker := s.pins.marker || s.events.markPending } ∧
      (∀ k : Fin 4, t.stats.counters[k] =
        let c := s.stats.counters[k]
        if s.link.counter = 63 then
          (if c.accumulate then { c with published := c.working }
            else { c with published := c.working, working := 0, saturated := false })
        else c) ∧
      (s.run.op = .settle → s.link.counter = 63 → 2 ≤ s.params.reportLevel → s.port.reports.length < 32 →
        s.port.tx ≠ .idle →
        ∃ mask : Mask, (∀ n : Station, inMask mask n = true ↔ s.stations[n] ≠ none ∧
            (s.run.settleTimer = 0 ∨ ¬∃ c x d p r, s.link.st[n].obs = some (.valid c x d p r))) ∧
          t.port.reports = s.port.reports ++ [{ lost := s.port.lost, count := s.run.count, op := .settle,
                                                body := .settle s.run.settleCount s.run.settleTimer mask }]) ∧
      t = { s with
        link := { s.link with counter := t.link.counter, st := t.link.st, pointer := t.link.pointer, sync := t.link.sync }
        pins := t.pins, events := t.events, free := t.free
        stats := { s.stats with counters := t.stats.counters, snap := t.stats.snap }
        trace := { s.trace with waiting := t.trace.waiting }
        port := { s.port with reports := t.port.reports, lost := t.port.lost, tx := t.port.tx } }

/-- At a cycle start in READY, RUN and STOPPING a CYCLE entry fires exactly when the counter agrees with its value in every
place its mask selects; a firing raises its fire count up to 65,535, hands a MARK for the following cycle start, submits an EVENT
report, takes a SNAPSHOT and asks for a CAPTURE, as its actions say. The snapshot holds the four published values, at a round start
those of before or after the publishing (log 4), the number of the entry, the highest that took one, and the run cycle count. In
other states no entry is tested (R159, R160, R163 to R166). -/
def Obligations.CycleEntriesFire : Prop :=
  ∀ s : State, s.link.running = true →
    let live := s.run.op = .ready ∨ s.run.op = .run ∨ s.run.op = .stopping
    let due (e : EventEntry) : Bool := match e.trigger with
      | .cycle v m => decide (∀ i : Fin 6, m.getLsbD i = true → (s.link.counter + 1).getLsbD i = v.getLsbD i)
      | _ => false
    let fires (e : EventEntry) : Nat := min 65535 (e.fires + 1)
    let fired := if live then firedBy s due else []
    ∃ t, exec .cycleStart s = .next t ∧
      (∀ i : Fin 16, (s.events.entries[i] = none → t.events.entries[i] = none) ∧
        ∀ e, s.events.entries[i] = some e →
          (live ∧ due e = true → t.events.entries[i] = some { e with fires := fires e }) ∧
          (¬(live ∧ due e = true) → t.events.entries[i] = some e)) ∧
      (t.events.markPending = true ↔ ∃ p ∈ fired, p.2.actions.mark = true) ∧
      (t.trace.waiting = true ↔ s.trace.waiting = true ∨ ∃ p ∈ fired, p.2.actions.capture = true) ∧
      (snapshotIs s t s fired ∨ (s.link.counter = 63 ∧ snapshotIs s t t fired)) ∧
      (live → s.port.tx ≠ .idle → submits s t ((fired.filter fun p => p.2.actions.report).map fun p =>
        (s.run.count, s.run.op, .eventCycle p.1 (fires p.2) (s.link.counter + 1))))

/-- SLOT_END of a commissioned station stores the outcome of each lane it uses, a VALID lane's report among them, and hands
the outcomes to the watches that name the station and to the counters, those left out whose station has lost its record since they
were set (log 42); the first cut of a counter submits COUNTER_SATURATED, several in the order of their numbers (log 47); of a
station without a record it stores nothing (R3, R6, R170, R172, R174). -/
def Obligations.SlotEndStoresOutcomes : Prop :=
  ∀ (s : State) (n : Station) (a b : Reception), s.link.running = true →
    (s.stations[n] = none → exec (.slotEnd n a b) s = .next (pumpTx s)) ∧
    ∀ r, s.stations[n] = some r →
      let la := laneOutcome n s.link.counter a
      let lb := laneOutcome n s.link.counter b
      let outA := if r.block.lanes = .b then none else some la.1
      let outB := if r.block.lanes = .a then none else some lb.1
      let holds (c : Counter) (o : Option LaneOutcome) : Bool := match o with | some x => decide (x ∈ c.slot) | none => false
      let amount (c : Counter) : Nat := match c.lane with
        | .a => if holds c outA then 1 else 0
        | .b => if holds c outB then 1 else 0
        | .either => if holds c outA || holds c outB then 1 else 0
        | .weighted => (if holds c outA then 1 else 0) + (if holds c outB then 1 else 0)
      ∃ t : State, exec (.slotEnd n a b) s = .next t ∧
        t.link = { s.link with st := s.link.st.set n { s.link.st[n] with
          outA := outA, outB := outB,
          repA := if r.block.lanes = .b then none else la.2,
          repB := if r.block.lanes = .a then none else lb.2 } } ∧
        (∀ k : Fin 4, t.stats.watches[k] =
          let w := s.stats.watches[k]
          if w.station ≠ some n ∨ w.lost = true then w
          else if s.link.counter.toNat % 2 = 0 then
            { w with aEven := if outA = none then w.aEven else outA, bEven := if outB = none then w.bEven else outB }
          else { w with aOdd := if outA = none then w.aOdd else outA, bOdd := if outB = none then w.bOdd else outB }) ∧
        (∀ k : Fin 4, t.stats.counters[k] =
          let c := s.stats.counters[k]
          if c.enable ∧ c.lost = false ∧ (s.inForce.countEnable ∨ s.run.countEnable) ∧ (c.station = none ∨ c.station = some n) then
            { c with working := if 65535 < c.working + amount c then 65535 else c.working + amount c,
                     saturated := c.saturated || decide (65535 < c.working + amount c) }
          else c) ∧
        emits s t ((firstCuts s t).map fun b => (s.run.count, s.run.op, b)) ∧
        t = { s with link := t.link, stats := { s.stats with counters := t.stats.counters, watches := t.stats.watches },
                     port := { s.port with reports := t.port.reports, lost := t.port.lost, tx := t.port.tx } }

/-- A lane's outcome is SILENT where nothing arrived, LATE where a frame crossed the window's edge, SYNTAX for bytes that are not
exactly one complete, correct report: another length, a CRC-16 that does not hold, another type byte, a code of the drive state,
of the presence byte or of a response's status outside its set; and for a report as a drive sends it VALID with exactly its
fields, or CONTENT where its station or echo is another (R6, R210, R211, 12.3). What arrived in the window is the command's
operand (log 37). -/
def Obligations.ReportsAreReadBack : Prop :=
  ∀ (n : Station) (counter : BitVec 6),
    laneOutcome n counter .nothing = (.silent, none) ∧ laneOutcome n counter .late = (.late, none) ∧
    (∀ b : List Byte, b ≠ [] → b.length ≠ 23 → laneOutcome n counter (.bytes b) = (.malformed, none)) ∧
    (∀ b : List Byte, crc16 b ≠ 0 → b ≠ [] → laneOutcome n counter (.bytes b) = (.malformed, none)) ∧
    (∀ b : List Byte, b.length = 23 →
      b[0]? ≠ some 0x3A#8 ∨ (b[11]? ≠ some 1#8 ∧ b[11]? ≠ some 2#8 ∧ b[11]? ≠ some 3#8) ∨
        (b[13]? ≠ some 0#8 ∧ b[13]? ≠ some 1#8) ∨ (b[13]? = some 1#8 ∧ b[14]? ≠ some 1#8 ∧ b[14]? ≠ some 2#8) →
      laneOutcome n counter (.bytes b) = (.malformed, none)) ∧
    ∀ r : StationReport, r.station < 256 → r.echo < 256 → fitsS32 r.force = true → r.trip < 256 →
      (∀ x, r.response = some x → x.index < 65536 ∧ fitsS32 x.value = true) →
      laneOutcome n counter (.bytes r.bytes) =
        if r.station = n.val ∧ r.echo = counter.toNat then (.valid, some r) else (.content, none)

/-- CYCLE_CLOSE merges the lanes of every commissioned station: valid where one lane brought a report or two brought equal
ones, DISAGREE where two differ, SILENT otherwise; the force of a valid observation is held within ±500,000 dN and, for an
INVERTED station, count and force are then negated (R4, R7, R8, R9). -/
def Obligations.CloseFormsObservations : Prop :=
  ∀ s : State, s.link.running = true → ∃ t, exec .cycleClose s = .next t ∧
    ∀ (n : Station) (r : StationRec), s.stations[n] = some r →
      let a := if r.block.lanes = .b then none else s.link.st[n].repA
      let b := if r.block.lanes = .a then none else s.link.st[n].repB
      let view (x : StationReport) : Observation :=
        let f := max (-500000) (min 500000 x.force)
        if r.block.direction = .normal then .valid x.count f x.drive x.trip x.response
        else .valid (BitVec.ofNat 32 (4294967296 - x.count.toNat)) (-f) x.drive x.trip x.response
      t.link.st[n].obs = some (match a, b with
        | none, none => .silent
        | some x, none => view x
        | none, some y => view y
        | some x, some y => if x = y then view x else .disagree)

/-- The lane-degraded streaks at a cycle close: for a station on lanes AB whose observation is valid, the streak of a lane
that brought no VALID report rises by one, up to 64, and that of a lane that brought one is 0; with DISAGREE both are 0; with
SILENT both keep their values (R11). Where a streak goes from 63 to 64 the fault list holds LANE_DEGRADED of that lane (rule 12;
that it is raised there alone, and its report: O52). -/
def Obligations.CloseUpdatesStreaks : Prop :=
  ∀ s : State, s.link.running = true → ∃ t, exec .cycleClose s = .next t ∧
    ∀ (n : Station) (r : StationRec), s.stations[n] = some r → r.block.lanes = .ab →
      (s.link.st[n].streakA = 63 → t.link.st[n].streakA = 64 →
        listed t.faults .laneDegraded (some n) (some .a) none) ∧
      (s.link.st[n].streakB = 63 → t.link.st[n].streakB = 64 →
        listed t.faults .laneDegraded (some n) (some .b) none) ∧
      match s.link.st[n].repA, s.link.st[n].repB with
      | some x, some y => t.link.st[n].streakA = 0 ∧ t.link.st[n].streakB = 0 ∧ (x ≠ y → t.link.st[n].obs = some .disagree)
      | some _, none => t.link.st[n].streakA = 0 ∧ t.link.st[n].streakB = min 64 (s.link.st[n].streakB + 1)
      | none, some _ => t.link.st[n].streakA = min 64 (s.link.st[n].streakA + 1) ∧ t.link.st[n].streakB = 0
      | none, none => t.link.st[n].streakA = s.link.st[n].streakA ∧ t.link.st[n].streakB = s.link.st[n].streakB

/-- CYCLE_CLOSE in RUN and STOPPING, no LINK_LOST being due, as always where a valid observation is formed: the run cycle count
rises by one; in STOPPING the speed falls by one stop step or to 0; in a SPEED run it moves toward the trace speed, in the first
computation of a run toward 0, by at most one acceleration step, held within V_LIMIT; in a ROAD run it takes the ROAD step of the
force sum it records; the distance advances with V', whole part and fraction together exactly. A step in RUN that V_LIMIT holds
raises OVERSPEED, which, no reaction above level 3 standing, takes the part to STOPPING with stop cause FAULT. The force sum
counts every station but one FAULTED with TORQUE_OFF. The computation waits for its completion: it reports standstill where V' is
0 in STOPPING, and keeps what the one before left, of the fault manager what the raises of the link and the silence count of this
close have made of it (log 7), the CAPTURE request it serves (log 38) and the parameters it read (log 26); the first computation
of a run aims at 0 also where a START_RUN between the cycle close and its completion has had its first cycle played (log 24). In
SETTLE, READY and SAFE V and Δd are 0 and the distance and the run cycle count stay (R28, R30, R31, R37 to R41, R123, R126, R130).
-/
def Obligations.CycleCloseMovesTheAxle : Prop :=
  (∀ s : State, s.link.running = true → s.faults.silence + 1 ≠ s.cell.linkLostLimit ∨ hearsOne s →
     s.run.op = .run ∨ s.run.op = .stopping →
     ∃ t, exec .cycleClose s = .next t ∧ t.run.count = s.run.count + 1 ∧ t.run.fresh = false ∧
       (t.run.op = s.run.op ∨ t.run.op = .stopping) ∧
       (s.run.op = .stopping →
         let step := roundDiv ((s.cell.stopDecel : Int) * s.cell.period * s.cell.period * 65536) 100000
         t.axle.v = if (s.axle.v.natAbs : Int) ≤ step then 0 else s.axle.v - s.axle.v.sign * step) ∧
       (s.run.op = .run → s.run.mode = .speed → 0 ≤ s.axle.vLimit →
         t.axle.v = max (-s.axle.vLimit) (min s.axle.vLimit (speedMoved s))) ∧
       (s.run.op = .run → s.run.mode = .road →
         t.axle.v = (roadStep s.params s.cell.period s.axle.vLimit s.axle.v s.axle.grade t.axle.fSum).v) ∧
       (s.run.op = .run → overspeeds s t.axle.fSum = true →
         listed t.faults .overspeed none none none ∧
         (s.faults.reaction = .none ∨ s.faults.reaction = .three →
           t.run.op = .stopping ∧ t.run.stopCause = some .fault ∧ t.faults.reaction = .two)) ∧
       ((∀ (n : Station) (q r : StationRec), s.stations[n] = some q → q.state = .faulted → t.stations[n] = some r →
           q.faultCommand = r.faultCommand) →
         t.axle.fSum = (stationList.map fun n => match t.stations[n] with
           | some r => if r.state = .faulted ∧ r.faultCommand = .torqueOff then 0 else r.force.getD 0
           | none => 0).sum) ∧
       (65536 * t.axle.adv + t.axle.frac = s.axle.frac + t.axle.v ∧ 0 ≤ t.axle.frac ∧ t.axle.frac < 65536) ∧
       (-9223372036854775808 ≤ s.axle.whole + t.axle.adv → s.axle.whole + t.axle.adv ≤ 9223372036854775807 →
         t.axle.whole = s.axle.whole + t.axle.adv) ∧
       t.axle.grade = s.axle.grade ∧ t.axle.vLimit = s.axle.vLimit ∧
       (∃ (f : Faults) (c : Word32), (c = s.run.count ∨ c = t.run.count) ∧
         f = { (course s c s.faults s.run.op (linkActs s t)).1 with silence := t.faults.silence } ∧
         t.comp = some { began := s.run.op, void := false, standstill := decide (s.run.op = .stopping ∧ t.axle.v = 0),
                         capture := s.trace.waiting, records := t.stations, axleBefore := s.axle, monitorBefore := s.monitor,
                         faultsBefore := f, recordsBefore := s.stations,
                         stopped := if t.run.op = s.run.op then none else some s.player }) ∧
       t.inForce = { tolBand := s.params.tolBand, tolTime := s.params.tolTime, underrunStop := s.params.underrunStop,
                     countEnable := s.params.countEnable } ∧
       t.params = s.params ∧ t.store = s.store ∧ t.mem = s.mem ∧ t.pins = s.pins ∧ t.events = s.events) ∧
  (∀ s : State, s.link.running = true → s.run.op = .settle ∨ s.run.op = .ready ∨ s.run.op = .safe →
     ∃ t, exec .cycleClose s = .next t ∧ t.axle = { s.axle with v := 0, adv := 0 } ∧ t.run.count = s.run.count ∧
       (t.run.op = s.run.op ∨ t.run.op = .ready ∨ t.run.op = .safe) ∧ t.params = s.params ∧ t.store = s.store ∧
       t.mem = s.mem ∧ t.events = s.events ∧ t.pins.estop = s.pins.estop ∧ t.pins.marker = s.pins.marker ∧
       t.link.counter = s.link.counter ∧ t.link.sync = s.link.sync)

/-- CYCLE_COMPUTATION_COMPLETION of a computation that began outside a run, the part being outside one, ends the computation
and does nothing else. One that reported standstill in STOPPING makes the run end: the engaged stations go to IDLE, the
player is emptied, the run's own events leave, run-count enable and stop cause are removed, and the part enters READY with
DRIVE_ENABLE asserted, whatever the order of the event tests and the trace capture; the other entries stay, as the event tests leave
them where these come first (log 4). A station gone idle keeps its trim-saturated flag (the model's reading, log 44). The STATION
reports of the stations gone idle and STATE with cause STANDSTILL are submitted together (R95, R113, R118, R127, R158; the
operating states they carry: log 21). -/
def Obligations.CompletionEndsTheRun : Prop :=
  ∀ (s : State) (k : Computation), s.link.running = true → s.comp = some k →
    (k.began ≠ .run → k.began ≠ .stopping → s.run.op ≠ .run → s.run.op ≠ .stopping →
      exec .cycleComputationCompletion s = .next (pumpTx { s with comp := none })) ∧
    (k.began = .stopping → k.standstill = true → s.run.op = .stopping → s.run.orderly = false →
      ∃ t, exec .cycleComputationCompletion s = .next t ∧
        t.run = { s.run with op := .ready, countEnable := false, stopCause := none } ∧
        t.pins = { s.pins with driveEnable := true } ∧
        stationsBecome s t (fun _ r => r.state == .capture || r.state == .locked || r.state == .slip) idled ∧
        t.player.mode = .empty ∧ t.player.active = none ∧ t.player.waiting = [] ∧ t.player.ended = none ∧
        t.player.speed = 0 ∧
        t.axle.v = s.axle.v ∧ t.axle.whole = s.axle.whole ∧ t.axle.frac = s.axle.frac ∧ t.comp = none ∧
        (∀ (i : Fin 16) (e : EventEntry), t.events.entries[i] = some e → e.persistent = true ∨ e.runTag ≠ s.run.tag) ∧
        (∀ i : Fin 16, s.events.entries[i] = none → t.events.entries[i] = none) ∧
        (∀ (i : Fin 16) (e : EventEntry), s.events.entries[i] = some e → e.persistent = true ∨ e.runTag ≠ s.run.tag →
          t.events.entries[i] = some e ∨
            entryTested (s.axle.whole.tdiv 1000000) t.player.clock.toNat e t.events.entries[i]) ∧
        t.params = s.params ∧ t.store = s.store ∧ t.mem = s.mem ∧ t.link = s.link ∧ t.monitor = s.monitor ∧
        (s.port.tx ≠ .idle → s.port.reports.length ≤ 3 → ∃ a b, told t.port.reports = told s.port.reports ++ a ++
          heard s (stationReports s .stopping s.axle.v s.monitor .runEnd (fun _ r => engagedIn r) idled s.run.count ++
            [stateReport s.run .stopping .ready .standstill]) ++ b))

/-- CYCLE_COMPUTATION_COMPLETION in RUN. With the player PLAYING within a point the trace clock and elapsed rise by one and the
trace speed is the linear interpolation, truncated toward zero; a completed point gives way to the segment's next, whose start
speed is its end speed. The segment's last point ends it: HELD with HOLD_AT_END, else ENDED with LAST, which stops a SPEED run,
else the oldest waiting segment starts, else UNDERRUN is entered and raised, which stops a SPEED run under UNDERRUN_POLICY STOP.
In UNDERRUN a waiting segment starts with no cycle played; with none waiting the policy is tested again. A player left PLAYING in
a ROAD run has its speed checked: outside the band the excursion count rises, and TOLERANCE is raised once beyond TOL_TIME and
counted for the phase; inside, count and flag are cleared; any other player keeps them. HELD, ENDED and EMPTY, in RUN and
STOPPING, leave the player, the clock and the trace speed as they are. Policy, TOL_BAND and TOL_TIME are those the computation
read (log 26). A computation that began in READY, START_RUN having come since, is completed so too (log 24). SEGMENT ended, HOLD,
PROFILE_END, SEGMENT started, PHASE, FAULT and STATE are submitted in the order of these effects, before what the event tests (log
41) and the trace submit (R100, R101, R103, R104, R106 to R111, R118; the state PROFILE_END carries: log 21; the tag, taken at each
segment start: log 8). -/
def Obligations.CompletionPlaysTheProfile : Prop :=
  ∀ (s : State) (k : Computation), s.link.running = true → s.comp = some k → k.standstill = false →
    s.run.op = .run ∨ s.run.op = .stopping →
    let completes (l : List Told) (p : State → Prop) : Prop :=
      ∃ t, exec .cycleComputationCompletion s = .next t ∧ t.comp = none ∧ p t ∧ (s.port.tx ≠ .idle → submitsFirst s t l)
    let stopped (cause : StopCause) : Run := { s.run with op := .stopping, stopCause := some cause }
    let plays (l : List Told) (y : Player) (grade : Int) : Prop :=
      let check := bandChecked s y
      let raised := match check.2 with | some f => [f] | none => []
      completes (l ++ raised.map (faultTold s.faults s.run.count .run)) fun t =>
        t.player = check.1 ∧ t.faults = raised.foldl (fun m f => Faults.take f s.run.count .run m) s.faults ∧
        t.run = s.run ∧ t.axle = { s.axle with grade := grade } ∧ t.stations = s.stations ∧ t.params = s.params ∧
        t.mem = s.mem
    let started (l : List Told) (h : Segment) (rest : List Segment) (y : Player) : Prop :=
      plays (l ++ startReports s.run.count .run h rest.length y.clock s.player.phase s.player.phaseTol)
        { y with active := some h, waiting := rest, mode := .playing, point := 0, elapsed := 0, start := y.speed,
                 lastTag := some h.tag, phase := if h.phase = none then y.phase else h.phase,
                 phaseTol := if h.phase = none then y.phaseTol else 0 } h.grade
    let underrun (y : Player) (m : Faults) (l : List Told) : Prop :=
      (s.run.mode = .speed → s.inForce.underrunStop = true →
        completes (l ++ [(s.run.count, .stopping, .profileEnd .stopped y.lastTag y.clock),
          stateReport s.run .run .stopping .underrunStop]) fun t =>
            t.player = { y with mode := .ended, ended := some .stopped } ∧ t.run = stopped .underrunStop ∧ t.faults = m) ∧
      (s.run.mode = .road ∨ s.inForce.underrunStop = false → completes l fun t =>
        t.player = { y with mode := .underrun } ∧ t.run = s.run ∧ t.axle = s.axle ∧ t.faults = m)
    (s.player.mode = .held ∨ s.player.mode = .ended ∨ s.player.mode = .empty → completes [] fun t =>
      t.player = s.player ∧ t.run = s.run ∧ t.axle = s.axle ∧ t.faults = s.faults) ∧
    (s.run.op = .run →
      (∀ (g : Segment) (p : Point), s.player.mode = .playing → s.player.active = some g →
        g.points[s.player.point]? = some p →
        let speed := s.player.start + (((p.speed : Int) - s.player.start) * (s.player.elapsed + 1 : Nat)).tdiv p.duration
        let clock := s.player.clock + 1
        let played : Player := { s.player with clock := clock, elapsed := s.player.elapsed + 1, speed := speed }
        let ended : Told := (s.run.count, .run, .segmentEnded g.tag clock)
        (s.player.elapsed + 1 < p.duration → plays [] played s.axle.grade) ∧
        (s.player.elapsed + 1 = p.duration → s.player.point + 1 < g.points.length →
          plays [] { played with point := s.player.point + 1, elapsed := 0, start := p.speed } s.axle.grade) ∧
        (s.player.elapsed + 1 = p.duration → s.player.point + 1 = g.points.length →
          (g.holdAtEnd = true → completes [ended, (s.run.count, .run, .hold g.tag speed clock)] fun t =>
            t.player = { played with mode := .held } ∧ t.run = s.run ∧ t.axle = s.axle ∧ t.faults = s.faults) ∧
          (g.holdAtEnd = false → g.last = true →
            completes ([ended, (s.run.count, .run, .profileEnd .last s.player.lastTag clock)] ++
              if s.run.mode = .speed then [stateReport s.run .run .stopping .profileEnd] else []) fun t =>
            t.player = { played with active := none, mode := .ended, ended := some .last } ∧ t.faults = s.faults ∧
            t.run = (if s.run.mode = .speed then stopped .profileEnd else s.run)) ∧
          (∀ h rest, g.holdAtEnd = false → g.last = false → s.player.waiting = h :: rest → started [ended] h rest played) ∧
          (g.holdAtEnd = false → g.last = false → s.player.waiting = [] →
            let f : Raise := { kind := .underrun }
            underrun { played with active := none } (Faults.take f s.run.count .run s.faults)
              [ended, faultTold s.faults s.run.count .run f]))) ∧
      (s.player.mode = .underrun →
        (∀ h rest, s.player.waiting = h :: rest → started [] h rest s.player) ∧
        (s.player.waiting = [] → s.player.active = none → underrun s.player s.faults [])))

/-! ### The cell link port -/

/-- A record received whole with a correct CRC-16 does what its request row does: every body layout is read back field for
field (R197, R199, R210, R211, 12.2). That a request row stands for its record's completion is the model's choice (log 1). -/
def Obligations.RecordsAreTheirRequests : Prop :=
  ∀ (c : Instr) (r : Record) (s : State), c.wf = true → recordOf c = some r →
    ∃ t, exec (.recordReceived r) s = .next t ∧ exec c s = .next t

/-- The receiver's events: a start byte begins a record; a record whose CRC-16 does not hold, a framing error, the 5 ms limit
and a body length above 1,024 discard the record in reception and count it, up to 65,535, and touch nothing else; while
hunting the last three do nothing (R197, R198). -/
def Obligations.ReceiverDiscardsAndCounts : Prop :=
  ∀ (s : State) (r : Record), s.pins.resetHeld = false →
    let dropped : State :=
      { s with port := { s.port with receiving := false, discards := min 65535 (s.port.discards + 1) } }
    exec .startByte s = .next (pumpTx { s with port := { s.port with receiving := true } }) ∧
    (crc16 (be2 r.body.length ++ [r.kind, r.tag] ++ r.body) ≠ r.crc →
      exec (.recordReceived r) s = .next (pumpTx dropped)) ∧
    (s.port.receiving = true →
      exec .lineFramingError s = .next (pumpTx dropped) ∧ exec .receptionTimeout s = .next (pumpTx dropped) ∧
      exec .bodyLengthAboveLimit s = .next (pumpTx dropped)) ∧
    (s.port.receiving = false →
      exec .lineFramingError s = .next (pumpTx s) ∧ exec .receptionTimeout s = .next (pumpTx s) ∧
      exec .bodyLengthAboveLimit s = .next (pumpTx s))

/-- A request that meets a busy port waits: as its record's bytes are read it joins a queue of fewer than 8; at 8 it is refused
QUEUE_FULL while fewer than 4 refusals wait, and otherwise dropped and counted, up to 255. No block sees it (R199). That a
request row stands for its record's completion is the model's choice (log 1). -/
def Obligations.BusyPortQueuesOrRefuses : Prop :=
  ∀ (c : Instr) (s : State) (kind tag : Byte) (body : List Byte), requestParts c = some (kind, tag, body) → c.wf = true →
    kind.toNat < 128 → s.pins.resetHeld = false →
    s.port.serving = true ∨ (∃ x ∈ s.port.replies, x.served = true) →
    let refused := (s.port.replies.filter fun x => !x.served).length
    (s.port.requests.length < 8 → exec c s = .next (pumpTx { s with port := { s.port with
      receiving := false, requests := s.port.requests ++ [⟨kind, tag, decodeRequest kind body⟩] } })) ∧
    (8 ≤ s.port.requests.length → refused < 4 → exec c s = .next (pumpTx
      { s with port := { s.port with receiving := false, replies := s.port.replies ++
        [{ kind := kind + 128#8, tag := tag, served := false, answer := { status := .queueFull, fields := [] } }] } })) ∧
    (8 ≤ s.port.requests.length → 4 ≤ refused → exec c s = .next (pumpTx
      { s with port := { s.port with receiving := false, refusals := min 255 (s.port.refusals + 1) } }))

/-- In LOADING every request but GET_STATUS and RESET at level FULL is refused WRONG_STATE and changes nothing else; a kind
that is no request kind is refused BAD_KIND in every state, and so is a record of a request kind whose body has another length,
with BAD_LENGTH: fixed for most kinds, for APPEND_SEGMENT by its point count, for COMMISSION_STATION by its action (R119, R200,
R202; an action outside its set: log 15). -/
def Obligations.LoadingRefusesRequests : Prop :=
  (∀ (c : Instr) (s : State) (kind tag : Byte) (body : List Byte), s.portFree → requestParts c = some (kind, tag, body) →
    kind.toNat < 128 →
    (isRequestKind kind = true → s.run.op = .loading → kind ≠ 0x01#8 → (∀ m x, c ≠ .resetFull tag m x) →
      (∀ k, c ≠ .badKind k tag) → exec c s = .next (s.withReply (kind + 128#8) tag .wrongState [])) ∧
    (isRequestKind kind = false → exec (.badKind kind tag) s = .next (s.withReply (kind + 128#8) tag .badKind []))) ∧
  ∀ (s : State) (r : Record), s.portFree → wrongLength r.kind.toNat r.body → r.body.length ≤ 1024 →
    crc16 (be2 r.body.length ++ [r.kind, r.tag] ++ r.body) = r.crc →
    exec (.recordReceived r) s = .next (s.withReply (r.kind + 128#8) r.tag .badLength [])

/-- TRANSMIT_COMPLETE: after a report, and after a reply behind which no request waits, the transmitter takes the oldest
reply, else the oldest report, else is idle; the reply leaves its queue. With requests waiting and no reply of a served one
left, the oldest goes into service: its block's answer joins the reply queue, or it stays in service with its reply to come;
one request alone does what its command does at the free port. After the reply to a RESET at level FULL nothing more goes out
and the reset is due (log 33) (R200, R201, R205). -/
def Obligations.TransmitterChoosesNext : Prop :=
  ∀ s : State, s.pins.resetHeld = false →
    let next (p : Port) : Port :=
      match p.replies, p.reports with
      | _ :: _, _ => { p with tx := .reply }
      | [], r :: rest => { p with tx := .report r, reports := rest }
      | [], [] => { p with tx := .idle }
    (∀ r : Report, s.port.tx = .report r → s.port.fullReset = none →
      exec .transmitComplete s = .next { s with port := next s.port }) ∧
    (∀ (r : Reply) (rest : List Reply), s.port.tx = .reply → s.port.replies = r :: rest → s.port.fullReset = none →
      s.port.requests = [] → exec .transmitComplete s = .next { s with port := next { s.port with replies := rest } }) ∧
    (∀ (r : Reply) (rest : List Reply) (q : Queued) (more : List Queued), s.port.tx = .reply →
      s.port.replies = r :: rest → s.port.fullReset = none → s.port.serving = false → s.port.requests = q :: more →
      (∀ x ∈ rest, x.served = false) → q.kind.toNat < 128 →
      let freed : State := { s with port := { s.port with tx := .idle, replies := rest } }
      (∀ t a, takeRequest q.req freed = (t, some a) → exec .transmitComplete s = .next (pumpTx { t with
        port := { t.port with serving := false, requests := t.port.requests.drop 1, replies := t.port.replies ++
          [{ kind := q.kind + 128#8, tag := q.tag, served := true, answer := a }] } })) ∧
      (∀ t, takeRequest q.req freed = (t, none) →
        exec .transmitComplete s = .next (pumpTx { t with port := { t.port with serving := true } }))) ∧
    (∀ (c : Instr) (r : Reply) (kind tag : Byte) (body : List Byte), requestParts c = some (kind, tag, body) → c.wf = true →
      s.port.tx = .reply → s.port.replies = [r] → s.port.fullReset = none → s.port.receiving = false →
      s.port.requests = [⟨kind, tag, decodeRequest kind body⟩] →
      exec .transmitComplete s = exec c { s with port := { s.port with tx := .idle, replies := [], requests := [] } }) ∧
    ∀ (r : Reply) (rest : List Reply) (f : PendingFull), s.port.tx = .reply → s.port.replies = r :: rest →
      s.port.fullReset = some f → r.served = true →
      exec .transmitComplete s = .next { s with port := { s.port with tx := .idle, replies := rest,
                                                                      fullReset := some { f with sent := true } } }

/-- A report above REPORT_LEVEL is passed over; one within it joins a queue of fewer than 32 with the lost count, the run
cycle count and the operating state as they stand, and the lost count returns to 0; a full queue drops it and counts it, up
to 255 (R203, R204). -/
def Obligations.ReportsAreFilteredAndCounted : Prop :=
  ∀ (b : ReportBody) (s : State), submit b s =
    if s.params.reportLevel < b.level then s
    else if 32 ≤ s.port.reports.length then { s with port := { s.port with lost := min 255 (s.port.lost + 1) } }
    else { s with port := { s.port with lost := 0, reports := s.port.reports ++
      [{ lost := s.port.lost, count := s.run.count, op := s.run.op, body := b }] } }

/-- The reading requests answer OK with every field of their replies and change nothing but the port. GET_STATUS is answered in
LOADING too, where every block shows its full-reset values (the load outcome BLANK and MASS 400 among them are the model's, log 9
and 12); between a cycle close and its completion it shows axle, monitor, fault manager, player and run controller as the
computation before left them, and GET_STATION a record as that computation or a later request left it, O13, O37, O42 and O43
saying what those set in it (the model's reading, log 7). GET_PARAM carries the stored value, BAD_VALUE for an identifier outside
the table or the trim of a station with no record, READ_FAULTS the entries, the overflow flag and the reaction level,
READ_COUNTERS the counters, the snapshot and the watches. A station that has no record, nor one in a computation in progress,
which O10 keeps in step with the table, makes GET_STATION BAD_VALUE; every GET_STATION reply has one length, and a GET_STATUS
reply's length depends on the number of waiting segments alone (R22, R43, R79, R91, R119, R136, R150, R175, R195, R206, R211,
R212; widths: log 34). -/
def Obligations.ReadsChangeNothing : Prop :=
  (∀ (s : State) (tag : Byte), s.portFree →
     let shows (x : Axle) (m : Monitor) (y : Player) (r : Run) (f : Faults) : Prop :=
       exec (.getStatus tag) s = .next (s.withReply 0x81#8 tag .ok (statusFields s x m y r f))
     (s.comp = none → shows s.axle s.monitor s.player s.run s.faults) ∧
     ∀ k, s.comp = some k →
       let axle : Axle := if k.began = .run ∨ k.began = .stopping then
           { k.axleBefore with grade := s.axle.grade, v := if k.void then s.axle.v else k.axleBefore.v }
         else { s.axle with adv := k.axleBefore.adv }
       let faults : Faults := { k.faultsBefore with silence := s.faults.silence }
       (k.stopped = none ∨ s.run.op ≠ .stopping → shows axle k.monitorBefore s.player s.run faults) ∧
       (∀ y, k.stopped = some y → s.run.op = .stopping →
         shows axle k.monitorBefore { s.player with active := y.active, mode := y.mode, ended := y.ended }
           { s.run with op := .run, stopCause := none } faults)) ∧
  (∀ (s : State) (tag : Byte) (reason : ResetReason) (stay : Bool) (rate : Nat) (mem : Memory) (cut : Bool),
     let t := s.afterReset reason stay false rate mem cut
     exec (.getStatus tag) t = .next (t.withReply 0x81#8 tag .ok (loadingFields s.pins.estop rate))) ∧
  (∀ (s : State) (tag : Byte), s.takes →
     (∀ (n : Nat) (h : n < 8) (r : StationRec),
       (s.comp = none ∧ s.stations[n] = some r) ∨
         (∃ k, s.comp = some k ∧ k.recordsBefore[n] = some r) →
       exec (.getStation tag n) s = .next (s.withReply 0x82#8 tag .ok (stationFields n r s.link.st[n]))) ∧
     (∀ (i : Nat) (v : Int), s.paramValue i = some v →
       exec (.getParam tag i) s = .next (s.withReply 0x88#8 tag .ok [.u8 i, .s32 v])) ∧
     (∀ i, i = 0 ∨ (21 < i ∧ ∀ n : Station, i = 32 + n.val → s.stations[n] = none) →
       exec (.getParam tag i) s = .next (s.withReply 0x88#8 tag .badValue [])) ∧
     exec (.readFaults tag) s = .next (s.withReply 0x9B#8 tag .ok (List.flatten [[.u8 s.faults.entries.length],
       s.faults.entries.zipIdx.flatMap (fun e => faultFields e.1 e.2), [yesNo s.faults.overflow, .u8 s.faults.reaction.code]])) ∧
     exec (.readCounters tag) s = .next (s.withReply 0x98#8 tag .ok (List.flatten [s.stats.counters.toList.flatMap counterFields,
       s.stats.snap.values.toList.map (fun v => .u16 v),
       [.opt8 (s.stats.snap.entry.map Fin.val), .u32 s.stats.snap.taken.toNat],
       s.stats.watches.toList.flatMap watchFields]))) ∧
  ((∀ (s : State) (tag : Byte) (n : Nat), s.takes → s.computationFollows = true → (∀ h : n < 8, s.stations[n] = none) →
     exec (.getStation tag n) s = .next (s.withReply 0x82#8 tag .badValue [])) ∧
   (∀ (s s' : State) (n n' : Nat), (takeGetStation n s).2.status = .ok → (takeGetStation n' s').2.status = .ok →
     (takeGetStation n s).2.body.length = (takeGetStation n' s').2.body.length) ∧
   ∀ s s' : State, (takeGetStatus s).2.body.length + 2 * s'.player.waiting.length =
     (takeGetStatus s').2.body.length + 2 * s.player.waiting.length)

/-! ### Commissioning and parameters -/

/-- COMMISSION_CELL and COMMISSION_STATION with the set unlocked: an acceptable cell block replaces the one held, forms
V_LIMIT and brings MASS within its bounds; an acceptable station block is held with a fresh record where the mask names the
station; a CLEAR removes block and record. A station with a new record begins in the drive link controller as after a full
reset, and a counter, watch or trace mask that names one which lost its record leaves it out from now on (R23, R27, R47, R80, R187,
R188, R189, R194; how long: log 42). -/
def Obligations.CommissioningWritesTheSet : Prop :=
  ∀ (s : State) (tag : Byte), s.takes → s.store.locked = false →
    let framed (t : State) : Prop := lossNoted s t ∧ t.link = { s.link with st := t.link.st } ∧
      t = { s with store := t.store, axle := t.axle, params := t.params, stations := t.stations, port := t.port,
                   link := t.link, stats := t.stats, trace := t.trace }
    (∀ k : CellBlock, cellInRange k = true →
      ∃ t, exec (.commissionCell tag k) s = .next t ∧ t.store = { s.store with cell := some k } ∧
        t.axle = { s.axle with vLimit := roundDiv ((k.vmax : Int) * 25 * k.period * 65536) 9 } ∧
        t.params = { s.params with mass := max k.massMin (min k.massMax s.params.mass) } ∧
        (∀ n : Station, t.stations[n] = if inMask k.mask n then
            (match s.stations[n] with
              | some r => if s.store.blocks[n].isSome then some r else none
              | none => s.store.blocks[n].map fun b => freshRecord b s.params.circTrim[n])
          else none) ∧
        linkRenewed s t (fun n => s.stations[n] = none ∧ t.stations[n] ≠ none) ∧
        t.port = (s.withReply 0x83#8 tag .ok []).port ∧ framed t) ∧
    (∀ (n : Nat) (h : n < 8) (raw : RawStation) (b : StationBlock), parseStation raw = some b →
      duplicatePosition s.store.blocks ⟨n, h⟩ b = false →
      ∃ t, exec (.commissionStationWrite tag n raw) s = .next t ∧
        t.store = { s.store with blocks := s.store.blocks.set n (some b) } ∧ t.axle = s.axle ∧ t.params = s.params ∧
        t.stations[n] = (match s.store.cell with
          | some k => if inMask k.mask ⟨n, h⟩ then some (freshRecord b s.params.circTrim[n]) else none
          | none => none) ∧
        (s.tableFollows = true → ∀ m : Station, m.val ≠ n → t.stations[m] = s.stations[m]) ∧
        linkRenewed s t (fun m => t.stations[m] ≠ none ∧ (s.stations[m] = none ∨ m.val = n)) ∧
        t.port = (s.withReply 0x84#8 tag .ok []).port ∧ framed t) ∧
    (∀ (n : Nat) (h : n < 8),
      ∃ t, exec (.commissionStationClear tag n) s = .next t ∧
        t.store = { s.store with blocks := s.store.blocks.set n none } ∧ t.axle = s.axle ∧ t.params = s.params ∧
        t.stations[n] = none ∧ (s.tableFollows = true → ∀ m : Station, m.val ≠ n → t.stations[m] = s.stations[m]) ∧
        linkRenewed s t (fun m => s.stations[m] = none ∧ t.stations[m] ≠ none) ∧
        t.port = (s.withReply 0x84#8 tag .ok []).port ∧ framed t)

/-- LEAVE_CONFIG in CONFIG: with a complete set, ESTOP released, the set locks, the link starts and the part enters SETTLE with
counts, V and miss streaks at 0 and a STATE report of cause LEAVE_CONFIG; with ESTOP asserted the part goes on to SAFE, with the
reports of both changes (log 21); with an incomplete set the request is refused BAD_VALUE naming the first missing item: CELL, or
the lowest station of the mask without a block (R1, R80, R118, R120, R131, R184, R191). -/
def Obligations.LeaveConfigLocksTheSet : Prop :=
  ∀ (s : State) (tag : Byte), s.takes → s.run.op = .config →
    (s.store.cell = none → exec (.leaveConfig tag) s = .next (s.withReply 0x86#8 tag .badValue [.u8 0, .u8 0])) ∧
    (∀ (k : CellBlock) (n : Station), s.store.cell = some k → inMask k.mask n = true → s.store.blocks[n] = none →
      (∀ m : Station, m < n → inMask k.mask m = true → s.store.blocks[m] ≠ none) →
      exec (.leaveConfig tag) s = .next (s.withReply 0x86#8 tag .badValue [.u8 1, .u8 n.val])) ∧
    (∀ k : CellBlock, s.store.cell = some k → (∀ m : Station, inMask k.mask m = true → s.store.blocks[m] ≠ none) →
      let left := stateReport s.run .config .settle .leaveConfig
      (s.pins.estop = false →
        ∃ t, exec (.leaveConfig tag) s = .next t ∧ t.run = { s.run with op := .settle, settleCount := 0, settleTimer := 0 } ∧
          (∀ n : Station, t.stations[n] = s.stations[n].map fun r => { r with miss := 0 }) ∧ submits s t [left] ∧
          repliedBy { s with run := t.run, stations := t.stations, link := { s.link with running := true },
                             store := { s.store with locked := true }, axle := { s.axle with v := 0 },
                             pins := { s.pins with driveEnable := false }, comp := missless s } t 0x86#8 tag .ok []) ∧
      (s.pins.estop = true →
        ∃ t, exec (.leaveConfig tag) s = .next t ∧ safeAtOnce s t s.axle.vLimit ∧
          (∀ n : Station, t.stations[n] = s.stations[n].map fun r =>
            let r := { r with miss := 0 }
            if engagedIn r then idled r else r) ∧
          submits s t (left :: safeReports s .settle { kind := .estop }) ∧
          repliedBy { s with run := t.run, pins := t.pins, player := t.player, faults := t.faults, comp := t.comp, axle := t.axle,
                             stations := t.stations, link := { s.link with running := true },
                             store := { s.store with locked := true } } t 0x86#8 tag .ok []))

/-- SET_PARAM stores the value brought within its parameter's range, answers CLAMPED where that changed it, and changes nothing
but that parameter: read back it is the stored value, and every other identifier reads as before. UNDERRUN_POLICY and COUNT_ENABLE
take 0 and 1 alone, MASS the cell block's bounds (400 to 80,000 with none held), a circumference trim ±5,000 ppm for a station
with a record, LOCK_WINDOW and SLIP_WINDOW a value that keeps them apart; any other identifier is refused BAD_VALUE. SET_ROAD_LOAD
stores its four values together in the same way. Every step keeps every parameter, stored and in force, within its range: all but
MASS and the trims here, MASS in O10 (WorkingSetStaysSound) and the trims in O9 (StationsStaySound) (R192, R194, 10.4). -/
def Obligations.ParametersAreStoredClamped : Prop :=
  (∀ (s : State) (tag : Byte) (v : Int), s.takes →
     let stores (i : Nat) (w : Int) : Prop :=
       ∃ t, exec (.setParam tag i v) s = .next t ∧ t.paramValue i = some w ∧
         (∀ j, j ≠ i → t.paramValue j = s.paramValue j) ∧
         t = { s.withReply 0x87#8 tag (if w = v then .ok else .clamped) [.u8 i, .s32 w] with params := t.params }
     (∀ p ∈ parameterTable, stores p.1 (max p.2.1 (min p.2.2 v))) ∧
     (∀ k, s.store.cell = some k → k.massMin ≤ k.massMax → stores 21 (max k.massMin (min k.massMax v))) ∧
     (s.store.cell = none → stores 21 (max 400 (min 80000 v))) ∧
     (∀ n : Station, s.stations[n] ≠ none → stores (32 + n.val) (max (-5000) (min 5000 v))) ∧
     (max 1 (min 1000000 v) < s.params.slipWindow → stores 4 (max 1 (min 1000000 v))) ∧
     ((s.params.lockWindow : Int) < max 2 (min 4000000 v) → stores 5 (max 2 (min 4000000 v))) ∧
     (∀ i, i = 15 ∨ i = 17 → (v = 0 ∨ v = 1 → stores i v) ∧
       (v ≠ 0 → v ≠ 1 → exec (.setParam tag i v) s = .next (s.withReply 0x87#8 tag .badValue []))) ∧
     (∀ i, i = 0 ∨ (21 < i ∧ ∀ n : Station, i = 32 + n.val → s.stations[n] = none) →
       exec (.setParam tag i v) s = .next (s.withReply 0x87#8 tag .badValue []))) ∧
  (∀ (s : State) (tag : Byte) (a b c mass : Nat), s.takes →
     let lo := match s.store.cell with | some k => k.massMin | none => 400
     let hi := match s.store.cell with | some k => k.massMax | none => 80000
     let a' := min a 200000
     let b' := min b 1000000
     let c' := min c 1000000
     let m' := max lo (min hi mass)
     exec (.setRoadLoad tag a b c mass) s =
       .next (({ s with params := { s.params with a := a', b := b', c := c', mass := m' } } : State).withReply 0x89#8 tag
         (if a' = a ∧ b' = b ∧ c' = c ∧ m' = mass then .ok else .clamped) [.u32 a', .u32 b', .u32 c', .u32 m'])) ∧
  (∀ s t : State, s.paramsInRange = true → step s = .next t → t.paramsInRange = true)

/-! ### Profile and run -/

/-- APPEND_SEGMENT in READY and RUN puts a segment in its ranges at the end of fewer than 4 waiting ones and answers their
number; elsewhere it is refused WRONG_STATE, out of range BAD_VALUE, at 4 QUEUE_FULL. DISCARD_SEGMENTS removes every waiting
segment in every state but LOADING, leaves the active segment and the player as they are, and answers the number removed
(R94, R97). -/
def Obligations.SegmentsAreQueued : Prop :=
  ∀ (s : State) (tag : Byte) (g : Segment), s.takes →
    let good := 1 ≤ g.points.length ∧ g.points.length ≤ 48 ∧ (∀ p ∈ g.points, 1 ≤ p.duration ∧ p.speed ≤ s.cell.vmax) ∧
      -3000 ≤ g.grade ∧ g.grade ≤ 3000 ∧ ∀ p, g.phase = some p → p ≤ 15
    let waits := s.player.waiting.length
    exec (.discardSegments tag) s =
      .next (({ s with player := { s.player with waiting := [] } } : State).withReply 0x8B#8 tag .ok [.u8 waits]) ∧
    (s.run.op ≠ .ready → s.run.op ≠ .run →
      exec (.appendSegment tag g) s = .next (s.withReply 0x8A#8 tag .wrongState [])) ∧
    (s.run.op = .ready ∨ s.run.op = .run →
      (¬good → exec (.appendSegment tag g) s = .next (s.withReply 0x8A#8 tag .badValue [])) ∧
      (good → 4 ≤ waits → exec (.appendSegment tag g) s = .next (s.withReply 0x8A#8 tag .queueFull [])) ∧
      (good → waits < 4 → exec (.appendSegment tag g) s =
        .next (({ s with player := { s.player with waiting := s.player.waiting ++ [g] } } : State).withReply 0x8A#8 tag .ok
          [.u8 (waits + 1)])))

/-- START_RUN in READY with reaction level NONE: run count 0, tag, mode and count enable taken, V, distance, grade and force
terms 0, the oldest waiting segment active from speed 0 with its grade and phase, the IDLE stations of the mask in CAPTURE
with their ff as demand, every event entry re-based, the part in RUN; the reply lists the stations. SEGMENT and PHASE of the first
segment, STATION of each station moved and STATE of cause START_RUN are submitted in this order (R42, R64, R99, R101, R102, R118,
R124, R125, R158; the operating states they carry: log 21). The tag of the first segment is kept for PROFILE_END (log 8). -/
def Obligations.StartRunBeginsARun : Prop :=
  ∀ (s : State) (tag : Byte) (mode runTag count : Nat) (m : Mask), s.takes → s.run.op = .ready →
    s.faults.reaction = .none → runTag ≤ 255 → count ≤ 1 → (∀ n : Station, inMask m n = true → s.stations[n] ≠ none) →
    mode = 0 ∨ (mode = 1 ∧ s.player.waiting ≠ []) →
    ∃ t w, exec (.startRun tag mode runTag m count) s = .next t ∧
      (∀ n : Station, inMask w n = true ↔ inMask m n = true ∧ ∃ r, s.stations[n] = some r ∧ r.state = .idle) ∧
      t.run = { s.run with op := .run, tag := runTag, mode := if mode = 0 then .road else .speed, count := 0,
                           countEnable := decide (count = 1), fresh := true } ∧
      t.axle = { s.axle with v := 0, whole := 0, frac := 0, fSum := 0, fRoad := 0, fGrade := 0, fNet := 0,
                             grade := match s.player.waiting with | g :: _ => g.grade | [] => 0 } ∧
      stationsBecome s t (fun n r => inMask m n && r.state == .idle) (fun r =>
        { r with state := .capture, streak := 0, age := 0, e := 0, residue := 0, command := .follow, demand := r.ff }) ∧
      (s.player.waiting = [] → t.player = { s.player with clock := 0, speed := 0, phase := none, phaseTol := 0,
                                                          excursion := 0, raised := false, ended := none, lastTag := none }) ∧
      (∀ g rest, s.player.waiting = g :: rest →
        t.player = { active := some g, waiting := rest, mode := .playing, point := 0, elapsed := 0, start := 0, speed := 0,
                     clock := 0, phase := g.phase, phaseTol := 0, excursion := 0, raised := false, ended := none,
                     lastTag := some g.tag }) ∧
      (∀ i : Fin 16, t.events.entries[i] = s.events.entries[i].map fun e => match e.trigger with
        | .distance st p _ => { e with trigger := .distance st p st }
        | .traceTime _ => { e with armed := true }
        | .cycle _ _ => e) ∧
      t.events.markPending = (s.events.markPending || (match s.player.waiting with
        | g :: _ => g.phase.isSome | [] => false)) ∧
      submits s t (List.flatten [match s.player.waiting with
          | g :: rest => startReports 0 .ready g rest.length 0 none 0
          | [] => [],
        stationReports s .ready (shownSpeed s 0) (shownMonitor s) .startRun (fun n r => inMask m n && r.state == .idle)
          (fun r => { r with state := .capture, e := 0 }) 0,
        [stateReport t.run .ready .run .startRun]]) ∧
      repliedBy { s with
        run := t.run, axle := t.axle, stations := t.stations, player := t.player, events := t.events
        comp := seenAfter s (fun n r => inMask m n && r.state == .idle) fun r x =>
          { x with state := .capture, streak := 0, age := 0, e := 0, residue := 0, command := .follow, demand := r.ff } } t
        0x8C#8 tag .ok [.u8 w.toNat]

/-- Refused requests answer with their status and change nothing else. START_RUN: WRONG_STATE outside READY, FAULT_PENDING at a
reaction level, BAD_VALUE for another mode or a station without a record, PROFILE_EMPTY for a SPEED run with no segment
waiting. ENGAGE and RECAPTURE outside RUN and RELEASE in CONFIG: WRONG_STATE, and BAD_VALUE for a station without a record.
With the set locked the commissioning requests, and outside CONFIG LEAVE_CONFIG: LOCKED; unlocked, BAD_VALUE out of range and
DUPLICATE_POSITION for a position held for another station; STORE_COMMISSIONING of an incomplete set BAD_VALUE with the first
missing item: CELL, or the lowest station of the mask without a block (R63, R73, R74, R99, R120, R124, R187, R188, R190, R191, R184,
R202). -/
def Obligations.RequestsAreRefused : Prop :=
  (∀ (s : State) (tag : Byte) (mode runTag count : Nat) (m : Mask), s.takes → runTag ≤ 255 → count ≤ 1 →
     let refused (x : Status) : Prop := exec (.startRun tag mode runTag m count) s = .next (s.withReply 0x8C#8 tag x [])
     (s.run.op ≠ .ready → refused .wrongState) ∧
     (s.run.op = .ready → s.faults.reaction ≠ .none → refused .faultPending) ∧
     (s.run.op = .ready → s.faults.reaction = .none →
       (2 ≤ mode ∨ (∃ n : Station, inMask m n = true ∧ s.stations[n] = none) → refused .badValue) ∧
       (mode = 1 → (∀ n : Station, inMask m n = true → s.stations[n] ≠ none) → s.player.waiting = [] →
         refused .profileEmpty))) ∧
  (∀ (s : State) (tag : Byte) (m : Mask), s.takes →
     (s.run.op ≠ .run → exec (.engage tag m) s = .next (s.withReply 0x8F#8 tag .wrongState []) ∧
       exec (.recapture tag m) s = .next (s.withReply 0x91#8 tag .wrongState [])) ∧
     (s.run.op = .config → exec (.release tag m) s = .next (s.withReply 0x90#8 tag .wrongState [])) ∧
     ∀ n : Station, inMask m n = true → s.stations[n] = none →
       (s.run.op = .run → exec (.engage tag m) s = .next (s.withReply 0x8F#8 tag .badValue []) ∧
         exec (.recapture tag m) s = .next (s.withReply 0x91#8 tag .badValue [])) ∧
       (s.run.op ≠ .config → exec (.release tag m) s = .next (s.withReply 0x90#8 tag .badValue []))) ∧
  (∀ (s : State) (tag : Byte), s.takes →
     (s.store.locked = true →
       (∀ k, exec (.commissionCell tag k) s = .next (s.withReply 0x83#8 tag .locked [])) ∧
       (∀ n b, exec (.commissionStationWrite tag n b) s = .next (s.withReply 0x84#8 tag .locked [])) ∧
       (∀ n, exec (.commissionStationClear tag n) s = .next (s.withReply 0x84#8 tag .locked [])) ∧
       exec (.storeCommissioning tag) s = .next (s.withReply 0x85#8 tag .locked [])) ∧
     (s.run.op ≠ .config → exec (.leaveConfig tag) s = .next (s.withReply 0x86#8 tag .locked [])) ∧
     (s.store.locked = false →
       (∀ k, cellInRange k = false → exec (.commissionCell tag k) s = .next (s.withReply 0x83#8 tag .badValue [])) ∧
       (∀ (n : Nat) (raw : RawStation), 8 ≤ n ∨ parseStation raw = none →
         exec (.commissionStationWrite tag n raw) s = .next (s.withReply 0x84#8 tag .badValue [])) ∧
       (∀ n, 8 ≤ n → exec (.commissionStationClear tag n) s = .next (s.withReply 0x84#8 tag .badValue [])) ∧
       (s.store.cell = none →
         exec (.storeCommissioning tag) s = .next (s.withReply 0x85#8 tag .badValue [.u8 0, .u8 0])) ∧
       (∀ (k : CellBlock) (n : Station), s.store.cell = some k → inMask k.mask n = true → s.store.blocks[n] = none →
         (∀ m : Station, m < n → inMask k.mask m = true → s.store.blocks[m] ≠ none) →
         exec (.storeCommissioning tag) s = .next (s.withReply 0x85#8 tag .badValue [.u8 1, .u8 n.val])) ∧
       (∀ (n m : Station) (raw : RawStation) (b x : StationBlock), parseStation raw = some b → m ≠ n →
         s.store.blocks[m] = some x → x.axle = b.axle → x.side = b.side →
         exec (.commissionStationWrite tag n raw) s = .next (s.withReply 0x84#8 tag .duplicatePosition []))))

/-- STOP_RUN and RESET at level RUN of manner ORDERLY in RUN enter STOPPING with their stop cause, end a player that plays, is
held or in underrun with reason STOPPED, and leave stations, events and DRIVE_ENABLE as they are; ORDERLY leaves its reset
pending. PROFILE_END, where the player ends, and then STATE with the stop's cause are submitted (the operating state the first
carries: log 21). In STOPPING the first has no effect and the second leaves its reset pending; elsewhere STOP_RUN is refused
WRONG_STATE (R109, R118, R126, R134). -/
def Obligations.StopRunEntersStopping : Prop :=
  ∀ (s : State) (tag : Byte) (stay : Nat), s.takes → stay ≤ 1 →
    (s.run.op = .run → ∀ orderly : Bool,
      ∃ t, exec (if orderly then .resetRunOrderly tag stay else .stopRun tag) s = .next t ∧
        t.run = { s.run with op := .stopping, stopCause := some (if orderly then .orderlyReset else .stopRun),
                             orderly := s.run.orderly || orderly } ∧
        t.player = playerStopped s.player ∧
        submits s t ((if endsInStop s.player then
            [(s.run.count, .stopping, .profileEnd .stopped s.player.lastTag s.player.clock)] else []) ++
          [stateReport t.run .run .stopping (if orderly then .orderlyReset else .stopRun)]) ∧
        repliedBy { s with run := t.run, player := t.player } t (if orderly then 0x9E#8 else 0x8D#8) tag .ok []) ∧
    (s.run.op = .stopping → exec (.stopRun tag) s = .next (s.withReply 0x8D#8 tag .ok []) ∧
      exec (.resetRunOrderly tag stay) s =
        .next (({ s with run := { s.run with orderly := true } } : State).withReply 0x9E#8 tag .ok [])) ∧
    (s.run.op ≠ .run → s.run.op ≠ .stopping → exec (.stopRun tag) s = .next (s.withReply 0x8D#8 tag .wrongState []))

/-- RELEASE_HOLD of a held player. FINISH ends the profile with reason FINISH; REPEAT, and CONTINUE with no LAST and a segment
waiting, start a segment at its first point from the held speed; CONTINUE with LAST ends the profile with reason LAST, and with
nothing waiting enters UNDERRUN, which stops a SPEED run under UNDERRUN_POLICY STOP. The end of a SPEED run's profile enters
STOPPING. A player not held answers NOT_HELD. SEGMENT and PHASE of a start, PROFILE_END and STATE of an end, FAULT of an underrun
are submitted. The policy is the one the last cycle computation read, so a write since then does not act (the model's reading,
log 26) (R98, R101, R102, R105, R106, R107, R109, R118; the operating state PROFILE_END carries: log 21; the tag it carries, taken
at each segment start: log 8). -/
def Obligations.ReleaseHoldActs : Prop :=
  ∀ (s : State) (tag : Byte), s.takes →
    (s.player.mode ≠ .held → ∀ c, c = .releaseHoldContinue tag ∨ c = .releaseHoldRepeat tag ∨ c = .releaseHoldFinish tag →
      exec c s = .next (s.withReply 0x8E#8 tag .notHeld [])) ∧
    ∀ g : Segment, s.player.mode = .held → s.player.active = some g →
      let started (c : Instr) (h : Segment) (rest : List Segment) : Prop :=
        ∃ t, exec c s = .next t ∧
          t.player = { s.player with
            active := some h, waiting := rest, mode := .playing, point := 0, elapsed := 0, start := s.player.speed,
            lastTag := some h.tag, phase := if h.phase = none then s.player.phase else h.phase,
            phaseTol := if h.phase = none then s.player.phaseTol else 0 } ∧
          t.events = { s.events with markPending := s.events.markPending || h.phase.isSome } ∧
          submits s t (startReports s.run.count s.run.op h rest.length s.player.clock s.player.phase s.player.phaseTol) ∧
          repliedBy { s with player := t.player, axle := { s.axle with grade := h.grade }, events := t.events } t
            0x8E#8 tag .ok []
      let ends (c : Instr) (reason : EndReason) : Prop :=
        ∃ t, exec c s = .next t ∧
          t.player = { s.player with active := none, mode := .ended, ended := some reason } ∧
          t.run = (if s.run.mode = .speed ∧ s.run.op = .run then
            { s.run with op := .stopping, stopCause := some .profileEnd } else s.run) ∧
          submits s t ((s.run.count, s.run.op, .profileEnd reason s.player.lastTag s.player.clock) ::
            if s.run.mode = .speed ∧ s.run.op = .run then [stateReport s.run .run .stopping .profileEnd] else []) ∧
          repliedBy { s with player := t.player, run := t.run } t 0x8E#8 tag .ok []
      ends (.releaseHoldFinish tag) .finish ∧ started (.releaseHoldRepeat tag) g s.player.waiting ∧
      (g.last = true → ends (.releaseHoldContinue tag) .last) ∧
      (∀ h rest, g.last = false → s.player.waiting = h :: rest → started (.releaseHoldContinue tag) h rest) ∧
      (g.last = false → s.player.waiting = [] →
        let f : Raise := { kind := .underrun }
        let fault (t : State) (l : List Told) : Prop := t.faults = Faults.take f s.run.count s.run.op s.faults ∧
          submits s t (faultTold s.faults s.run.count s.run.op f :: l)
        (s.run.mode = .road ∨ s.inForce.underrunStop = false ∨ s.run.op ≠ .run →
          ∃ t, exec (.releaseHoldContinue tag) s = .next t ∧
            t.player = { s.player with active := none, mode := .underrun } ∧ fault t [] ∧
            repliedBy { s with player := t.player, faults := t.faults, comp := t.comp } t 0x8E#8 tag .ok []) ∧
        (s.run.mode = .speed → s.inForce.underrunStop = true → s.run.op = .run →
          ∃ t, exec (.releaseHoldContinue tag) s = .next t ∧
            t.player = { s.player with active := none, mode := .ended, ended := some .stopped } ∧
            t.run = { s.run with op := .stopping, stopCause := some .underrunStop } ∧
            fault t [(s.run.count, .stopping, .profileEnd .stopped s.player.lastTag s.player.clock),
              stateReport s.run .run .stopping .underrunStop] ∧
            repliedBy { s with player := t.player, run := t.run, faults := t.faults, comp := t.comp } t 0x8E#8 tag .ok []))

/-- RESET at level RUN of manner IMMEDIATE, ESTOP released or the part in CONFIG, and of manner ORDERLY where no run is in progress,
does every effect of the run reset, keeps the fault list, the overflow flag and the reaction level, and answers OK; with ESTOP
asserted in SAFE either manner is refused CAUSE_PRESENT. SERVICE_DONE of each cancelled item, STATION of each station that was not
idle, and outside CONFIG the STATE report are submitted in this order (R118; what they carry: log 20); a pending orderly reset that
an IMMEDIATE one replaces is not reported as cancelled (the model's reading, log 22). A pending orderly reset is carried out, in
place of the run end, at the completion whose computation reported standstill in STOPPING (R127, R133, R134, R154). -/
def Obligations.RunResetActs : Prop :=
  (∀ (s : State) (tag : Byte) (stay : Nat), s.takes → stay ≤ 1 →
     (s.pins.estop = false ∨ s.run.op = .config → ∀ c : Instr, c = .resetRunImmediate tag stay ∨
         (c = .resetRunOrderly tag stay ∧ s.run.op ≠ .run ∧ s.run.op ≠ .stopping) →
       ∃ t, exec c s = .next t ∧ runResetFrom s t ∧
         (∀ i : Fin 16, t.events.entries[i] = (s.events.entries[i].filter EventEntry.persistent).map fun e =>
           match e.trigger with
           | .distance st p _ => { e with trigger := .distance st p st }
           | .traceTime _ => { e with armed := true }
           | .cycle _ _ => e) ∧
         t.faults = { s.faults with silence := 0 } ∧ t.memCut = s.memCut ∧ t.pending = s.pending ∧
         submits s t (List.flatten [stationList.flatMap fun n => if s.stations[n] = none then [] else
             ((match s.link.st[n].outstanding with | some o => [o.item] | none => []) ++ s.link.st[n].waiting).map fun i =>
               (s.run.count, s.run.op, .serviceDone n i .cancelled i.value),
           stationReports s s.run.op 0 State.reset.monitor .runReset (fun _ r => r.state != .idle)
             (fun r => { r with state := .idle, e := 0 }) s.run.count,
           if s.run.op = .config then [] else [stateReport t.run s.run.op .settle .runReset]]) ∧
         t.port = { (s.withReply 0x9E#8 tag .ok []).port with reports := t.port.reports, lost := t.port.lost }) ∧
     (s.run.op = .safe → s.pins.estop = true → ∀ c : Instr, c = .resetRunImmediate tag stay ∨ c = .resetRunOrderly tag stay →
       exec c s = .next (s.withReply 0x9E#8 tag .causePresent []))) ∧
  (∀ (s : State) (k : Computation), s.link.running = true → s.comp = some k → k.began = .stopping → k.standstill = true →
     s.run.op = .stopping → s.run.orderly = true → s.pins.estop = false →
     ∃ t, exec .cycleComputationCompletion s = .next t ∧ runResetFrom s t ∧
       ∀ (i : Fin 16) (e : EventEntry), t.events.entries[i] = some e → e.persistent = true)

/-- CLEAR_FAULT: refused WRONG_STATE in RUN and STOPPING and CAUSE_PRESENT with ESTOP asserted in SETTLE, READY and SAFE;
otherwise the fault list is emptied and the reaction level NONE, also in what GET_STATUS shows until a completion (log 7),
FAULTED stations go to IDLE (not in CONFIG), shown so by GET_STATION, and SAFE is left for SETTLE, where GET_STATION shows every
miss streak 0. The STATION reports come first, with SAFE as their operating state where it was SAFE (log 46), and the STATE report
of the change follows (R75, R79, R80, R118, R132, R151). -/
def Obligations.ClearFaultActs : Prop :=
  ∀ (s : State) (tag : Byte), s.takes →
    (s.run.op = .run ∨ s.run.op = .stopping → exec (.clearFault tag) s = .next (s.withReply 0x9C#8 tag .wrongState [])) ∧
    (s.run.op = .settle ∨ s.run.op = .ready ∨ s.run.op = .safe → s.pins.estop = true →
      exec (.clearFault tag) s = .next (s.withReply 0x9C#8 tag .causePresent [])) ∧
    let cleared (f : Faults) : Faults := { entries := [], overflow := false, reaction := .none, silence := f.silence }
    let comp (x : Option Computation) : Option Computation := x.map fun k => { k with faultsBefore := cleared k.faultsBefore }
    let idle (r : StationRec) : StationRec :=
      { r with state := .idle, cause := none, e := 0, miss := 0, command := .torqueOff, demand := 0 }
    let moved := comp (seenAfter s (fun _ r => r.state == .faulted) fun _ => idle)
    (s.run.op = .config → exec (.clearFault tag) s =
      .next (({ s with faults := cleared s.faults, comp := comp s.comp } : State).withReply 0x9C#8 tag .ok [])) ∧
    (s.run.op = .settle ∨ s.run.op = .ready ∨ s.run.op = .safe → s.pins.estop = false →
      ∃ t, exec (.clearFault tag) s = .next t ∧
        (∀ n : Station, t.stations[n] = s.stations[n].map fun r =>
          let r := if r.state = .faulted then idle r else r
          if s.run.op = .safe then { r with miss := 0 } else r) ∧
        (s.run.op = .safe → ∀ (n : Station) (r : StationRec), t.stationSeen n = some r → r.miss = 0) ∧
        submits s t (stationReports s s.run.op (shownSpeed s s.axle.v) (shownMonitor s) .clearFault
            (fun _ r => r.state == .faulted) (fun r => { r with state := .idle, e := 0 }) s.run.count ++
          if s.run.op = .safe then [stateReport s.run .safe .settle .clearFault] else []) ∧
        t.run = (if s.run.op = .safe then { s.run with op := .settle, settleCount := 0, settleTimer := 0 } else s.run) ∧
        repliedBy { s with
          run := t.run
          stations := t.stations
          faults := cleared s.faults
          comp := if s.run.op = .safe then missless { s with comp := moved } else moved
          axle := if s.run.op = .safe then { s.axle with v := 0 } else s.axle
          pins := if s.run.op = .safe then { s.pins with driveEnable := false } else s.pins } t 0x9C#8 tag .ok [])

/-- ENGAGE and RECAPTURE in RUN and RELEASE in every running state move exactly the stations of the mask that are IDLE, or
FAULTED with an accepted last judgement and no tripped drive, or engaged; the reply lists them, and each gives a STATION
report with its states, reason, position error, measured position, display speed and axle summary, as the last completed
computation left the last two. GET_STATION shows the values the move sets while a computation is in progress (log 7). A
released station keeps its trim-saturated flag (the model's reading, log 44) (R26, R62, R63, R73, R74, R79, R90). -/
def Obligations.StationsMoveByRequest : Prop :=
  ∀ (s : State) (tag : Byte) (m : Mask), s.takes → (∀ n : Station, inMask m n = true → s.stations[n] ≠ none) →
    let moves (c : Instr) (kind : Byte) (reason : StationReason) (p : StationRec → Bool) (f : StationRec → StationRec) : Prop :=
      ∃ t w, exec c s = .next t ∧
        (∀ n : Station, inMask w n = true ↔ inMask m n = true ∧ ∃ r, s.stations[n] = some r ∧ p r = true) ∧
        stationsBecome s t (fun n r => inMask m n && p r) f ∧
        submits s t (stationReports s s.run.op (shownSpeed s s.axle.v) (shownMonitor s) reason (fun n r => inMask m n && p r) f
          s.run.count) ∧
        repliedBy { s with stations := t.stations, comp := seenAfter s (fun n r => inMask m n && p r) fun r x =>
          { f x with demand := (f r).demand } } t kind tag .ok [.u8 w.toNat]
    let capture (r : StationRec) : StationRec :=
      { r with state := .capture, streak := 0, age := 0, e := 0, residue := 0, command := .follow, demand := r.ff }
    (s.run.op = .run → moves (.engage tag m) 0x8F#8 .engage (fun r => r.state == .idle) capture) ∧
    (s.run.op = .run → moves (.recapture tag m) 0x91#8 .recapture
      (fun r => r.state == .faulted && r.judgement == some .accepted && r.drive != some .tripped)
      (fun r => { capture r with cause := none, miss := 0 })) ∧
    (s.run.op ≠ .config → moves (.release tag m) 0x90#8 .release
      (fun r => r.state == .capture || r.state == .locked || r.state == .slip) idled)

/-- SERVICE: refused WRONG_STATE in CONFIG, BAD_VALUE for a station without a record or another operation, QUEUE_FULL with two
items waiting; otherwise the item joins the station's queue, a READ with value 0. At a cycle close an outstanding item is
completed by a response with its index, OK or REFUSED with the response's value; otherwise it grows one older, and at age 4
it completes with TIMEOUT and its own value; a completion submits SERVICE_DONE. CYCLE_CLOSE does so for every commissioned
station by the observation it has just merged, leaves the waiting items, and submits the SERVICE_DONE reports of the items that
complete, and no others, in station-number order (R4, R13, R17, R18, R19; the run cycle count they carry: log 4). -/
def Obligations.ServiceItemsAreCarriedOut : Prop :=
  (∀ (s : State) (tag : Byte) (n op index : Nat) (v : Int), s.takes →
     (s.run.op = .config → exec (.service tag n op index v) s = .next (s.withReply 0x9D#8 tag .wrongState [])) ∧
     (s.run.op ≠ .config → (∀ h : n < 8, s.stations[n] = none) ∨ (op ≠ 1 ∧ op ≠ 2) →
       exec (.service tag n op index v) s = .next (s.withReply 0x9D#8 tag .badValue [])) ∧
     ∀ h : n < 8, s.run.op ≠ .config → s.stations[n] ≠ none → op = 1 ∨ op = 2 →
       (2 ≤ s.link.st[n].waiting.length →
         exec (.service tag n op index v) s = .next (s.withReply 0x9D#8 tag .queueFull [])) ∧
       (s.link.st[n].waiting.length < 2 →
         exec (.service tag n op index v) s = .next (({ s with
           link := { s.link with st := s.link.st.set n { s.link.st[n] with
             waiting := s.link.st[n].waiting ++ [if op = 1 then ⟨.read, index, 0⟩ else ⟨.write, index, v⟩] } } }
             : State).withReply 0x9D#8 tag .ok []))) ∧
  (∀ (s : State) (n : Station) (o : Outstanding), s.link.st[n].outstanding = some o →
     let resp := match s.link.st[n].obs with | some (.valid _ _ _ _ x) => x | _ => none
     let done (res : ServiceResult) (v : Int) : State :=
       submit (.serviceDone n o.item res v)
         { s with link := { s.link with st := s.link.st.set n { s.link.st[n] with outstanding := none } } }
     serviceStation n s = match resp with
       | some x => if x.index = o.item.index then done (if x.ok then .ok else .refused) x.value
         else if o.age = 3 then done .timeout o.item.value
         else { s with link := { s.link with st := s.link.st.set n { s.link.st[n] with
           outstanding := some { o with age := o.age + 1 } } } }
       | none => if o.age = 3 then done .timeout o.item.value
         else { s with link := { s.link with st := s.link.st.set n { s.link.st[n] with
           outstanding := some { o with age := o.age + 1 } } } }) ∧
  (∀ s : State, s.link.running = true → ∃ t, exec .cycleClose s = .next t ∧
     ∀ (n : Station) (r : StationRec), s.stations[n] = some r →
       t.link.st[n].obs = some (mergeLanes r.block.lanes r.block.direction s.link.st[n].repA s.link.st[n].repB) ∧
       t.link.st[n].waiting = s.link.st[n].waiting ∧
       t.link.st[n].outstanding = match s.link.st[n].outstanding with
         | none => none
         | some o => if (serviceEnds o t.link.st[n].obs).isSome then none else some { o with age := o.age + 1 }) ∧
  (∀ s : State, s.link.running = true → s.port.tx ≠ .idle → s.port.reports.length ≤ 8 →
     ∃ (t : State) (count : Word32), exec .cycleClose s = .next t ∧ (count = s.run.count ∨ count = t.run.count) ∧
       (told (t.port.reports.drop s.port.reports.length)).filter (fun x => isServiceDone x.2.2) =
         heard s (stationList.flatMap fun n =>
           match s.stations[n], s.link.st[n].outstanding with
           | some _, some o => ((serviceEnds o t.link.st[n].obs).map fun x =>
               (count, s.run.op, .serviceDone n o.item x.1 x.2)).toList
           | _, _ => []))

/-! ### Event table, statistics, trace -/

/-- ADD_EVENT takes the lowest free entry for a trigger in its ranges and an action set of one to four actions, armed, unfired and
at its start mark, TABLE_FULL where none is free, BAD_VALUE out of range. MODIFY_EVENT changes the trigger values of an entry of
that kind, keeps a DISTANCE entry's next mark and arms it, BAD_VALUE for another kind, a value out of range or an entry number
above 15, NOT_FOUND for a free entry; its reply carries the next mark as an optional field (the model's reading, log 34).
REMOVE_EVENT frees an entry and answers its fire count, BAD_VALUE for a number above 15. CLEAR_EVENTS removes the non-persistent
entries of a tag, or all (R155 to R158). -/
def Obligations.EventRequestsChangeTheTable : Prop :=
  ∀ (s : State) (tag : Byte) (g : TriggerArg) (actions runTag pers : Nat), s.takes → runTag ≤ 255 → pers ≤ 1 →
    let table (v : Vector (Option EventEntry) 16) : State := { s with events := { s.events with entries := v } }
    let entry (x : Trigger) : EventEntry :=
      { trigger := x, actions := { mark := actions.testBit 0, report := actions.testBit 1, snapshot := actions.testBit 2,
                                   capture := actions.testBit 3 },
        runTag := runTag, persistent := decide (pers = 1), armed := true, fires := 0 }
    (∀ x, triggerIs g x → 1 ≤ actions → actions ≤ 15 →
      (∀ i : Fin 16, s.events.entries[i] = none → (∀ j : Fin 16, j < i → s.events.entries[j] ≠ none) →
        exec (.addEvent tag g actions runTag pers) s =
          .next ((table (s.events.entries.set i (some (entry x)))).withReply 0x92#8 tag .ok [.u8 i.val])) ∧
      ((∀ i : Fin 16, s.events.entries[i] ≠ none) →
        exec (.addEvent tag g actions runTag pers) s = .next (s.withReply 0x92#8 tag .tableFull []))) ∧
    ((∀ x, ¬triggerIs g x) ∨ actions = 0 ∨ 16 ≤ actions →
      exec (.addEvent tag g actions runTag pers) s = .next (s.withReply 0x92#8 tag .badValue [])) ∧
    (∀ (i : Fin 16) (e : EventEntry) (x : Trigger), s.events.entries[i] = some e → triggerIs g x →
      (∀ v m v' m', e.trigger = .cycle v m → x = .cycle v' m' → exec (.modifyEvent tag i g) s =
        .next ((table (s.events.entries.set i (some { e with trigger := x, armed := true }))).withReply 0x93#8 tag .ok
          [.u16 e.fires, .u8 1, .u8 0, .gap 8])) ∧
      (∀ a p k a' p', e.trigger = .distance a p k → x = .distance a' p' a' → exec (.modifyEvent tag i g) s =
        .next ((table (s.events.entries.set i (some { e with trigger := .distance a' p' k, armed := true }))).withReply
          0x93#8 tag .ok [.u16 e.fires, .u8 1, .u8 1, .u64 k])) ∧
      (∀ a a', e.trigger = .traceTime a → x = .traceTime a' → exec (.modifyEvent tag i g) s =
        .next ((table (s.events.entries.set i (some { e with trigger := x, armed := true }))).withReply 0x93#8 tag .ok
          [.u16 e.fires, .u8 1, .u8 0, .gap 8])) ∧
      (e.trigger.modify x = none → exec (.modifyEvent tag i g) s = .next (s.withReply 0x93#8 tag .badValue []))) ∧
    (∀ i : Nat, 16 ≤ i ∨ (∀ x, ¬triggerIs g x) →
      exec (.modifyEvent tag i g) s = .next (s.withReply 0x93#8 tag .badValue [])) ∧
    (∀ i : Nat, 16 ≤ i → exec (.removeEvent tag i) s = .next (s.withReply 0x94#8 tag .badValue [])) ∧
    (∀ i : Fin 16, s.events.entries[i] = none →
      (∀ x, triggerIs g x → exec (.modifyEvent tag i g) s = .next (s.withReply 0x93#8 tag .notFound [])) ∧
      exec (.removeEvent tag i) s = .next (s.withReply 0x94#8 tag .notFound [])) ∧
    (∀ (i : Fin 16) (e : EventEntry), s.events.entries[i] = some e → exec (.removeEvent tag i) s =
      .next ((table (s.events.entries.set i none)).withReply 0x94#8 tag .ok [.u16 e.fires])) ∧
    ∀ sel : ClearArg, sel = .all ∨ sel = .tag runTag →
      ∃ t n, exec (.clearEvents tag sel) s = .next t ∧
        entriesKept s t (fun e => sel != .all && (e.persistent || e.runTag != runTag)) ∧
        n + (entryList.filter fun i => t.events.entries[i].isSome).length =
          (entryList.filter fun i => s.events.entries[i].isSome).length ∧
        t = (table t.events.entries).withReply 0x95#8 tag .ok [.u8 n]

/-- At the completion of a computation that began in RUN or STOPPING a DISTANCE entry whose next mark the distance in mm has
reached fires once, and its next mark becomes the smallest mark beyond the distance; below the mark nothing happens. A TRACE_TIME
entry that is armed fires where the trace clock equals its time, and is disarmed. Where the computation began outside a run, or
SAFE has been entered within it, no entry is tested, also where START_RUN has come since (log 24). CYCLE_COMPUTATION_COMPLETION
makes these tests, by the trace clock that the player's cycle has left, and carries out the actions of the entries that fire: an
EVENT report each with the distance and the new next mark or the trace clock, a snapshot by the last of them with that action, a
mark of those with MARK, beside the mark of a phase that the player opens, and a CAPTURE request of those with CAPTURE, for the
next computation; the request that waited at this one's cycle close is used up (log 38). A run end at standstill is left out, its
place among the tests being open (log 4) (R102, R159, R161 to R166, R178). -/
def Obligations.CompletionEntriesFire : Prop :=
  (∀ (s : State) (k : Computation), (k.began ≠ .run ∧ k.began ≠ .stopping) ∨ k.void = true → completionTests k s = s) ∧
  (∀ (s : State) (k : Computation) (i : Fin 16) (e : EventEntry), s.run.op = .run ∨ s.run.op = .stopping →
    k.began = .run ∨ k.began = .stopping → k.void = false → s.events.entries[i] = some e →
    entryTested (s.axle.whole.tdiv 1000000) s.player.clock.toNat e (completionTests k s).events.entries[i]) ∧
  (∀ (s : State) (k : Computation), s.link.running = true → s.comp = some k → k.began = .run ∨ k.began = .stopping →
    k.void = false → k.standstill = false → s.run.op = .run ∨ s.run.op = .stopping →
    ∃ t, exec .cycleComputationCompletion s = .next t ∧ t.axle.whole = s.axle.whole ∧
      (∀ i : Fin 16, (s.events.entries[i] = none → t.events.entries[i] = none) ∧
        ∀ e, s.events.entries[i] = some e →
          entryTested (s.axle.whole.tdiv 1000000) t.player.clock.toNat e t.events.entries[i]) ∧
      let mm := s.axle.whole.tdiv 1000000
      let fired := firedBy s fun e => match e.trigger with
        | .cycle _ _ => false
        | .distance _ _ next => decide ((next : Int) ≤ mm)
        | .traceTime a => e.armed && a == t.player.clock.toNat
      let body (p : Fin 16 × EventEntry) : ReportBody :=
        match t.events.entries[p.1].map EventEntry.trigger with
        | some (.distance _ _ next) => .eventDistance p.1 (min 65535 (p.2.fires + 1)) mm next
        | _ => .eventTrace p.1 (min 65535 (p.2.fires + 1)) t.player.clock
      snapshotIs s t s fired ∧ t.comp = none ∧
      (t.events.markPending = true ↔ s.events.markPending = true ∨ (∃ p ∈ fired, p.2.actions.mark = true) ∨
        ∃ h rest, s.player.waiting = h :: rest ∧ t.player.waiting = rest ∧ h.phase ≠ none) ∧
      (t.trace.waiting = true ↔ s.trace.waiting = true ∨ ∃ p ∈ fired, p.2.actions.capture = true) ∧
      (s.port.tx ≠ .idle → s.port.reports.length ≤ 8 →
        (told (t.port.reports.drop s.port.reports.length)).filter (fun x => isEventReport x.2.2) =
          heard s ((fired.filter fun p => p.2.actions.report).map fun p => (s.run.count, t.run.op, body p)))) ∧
  (∀ (s : State) (k : Computation), s.link.running = true → s.comp = some k → k.void = true → s.run.op = .safe →
    ∃ t, exec .cycleComputationCompletion s = .next t ∧ t.events = s.events ∧ t.trace = s.trace ∧ t.comp = none) ∧
  ∀ (s : State) (k : Computation), s.link.running = true → s.comp = some k → k.began ≠ .run → k.began ≠ .stopping →
    ∃ t, exec .cycleComputationCompletion s = .next t ∧ t.events.entries = s.events.entries ∧ t.stats = s.stats ∧
      t.trace.waiting = s.trace.waiting ∧ t.comp = none

/-- SET_COUNTER stores a configuration within its sets and zeroes the counter; SET_WATCH gives a watch its station, or none,
and empties its outcomes. A number above 3, a station without a record, and of SET_COUNTER a lane mode, a condition or an
accumulation mode outside its set are refused BAD_VALUE, and so is another enable code than 0 and 1 (the model's reading, log 17)
(R168, R174, R181). -/
def Obligations.StatisticsAreConfigured : Prop :=
  ∀ (s : State) (tag : Byte) (k : Fin 4) (enable station slot lock acc : Nat) (mode : LaneMode), s.takes →
    let arg : CounterArg := ⟨k, enable, station, mode.code, slot, lock, acc⟩
    let known (x : Nat) : Prop := ∃ n : Station, x = n.val ∧ s.stations[n] ≠ none
    (enable ≤ 1 → acc ≤ 1 → slot < 32 → lock < 4 → station = 8 ∨ known station →
      ∃ c : Counter, exec (.setCounter tag arg) s =
        .next (({ s with stats := { s.stats with counters := s.stats.counters.set k c } } : State).withReply 0x96#8 tag
          .ok []) ∧
        c.enable = decide (enable = 1) ∧ c.accumulate = decide (acc = 1) ∧ c.lane = mode ∧
        (station = 8 → c.station = none) ∧ (∀ n : Station, station = n.val → c.station = some n) ∧
        (.valid ∈ c.slot ↔ slot.testBit 0 = true) ∧ (.malformed ∈ c.slot ↔ slot.testBit 1 = true) ∧
        (.content ∈ c.slot ↔ slot.testBit 2 = true) ∧ (.late ∈ c.slot ↔ slot.testBit 3 = true) ∧
        (.silent ∈ c.slot ↔ slot.testBit 4 = true) ∧ c.slip = lock.testBit 0 ∧ c.trimSat = lock.testBit 1 ∧
        c.working = 0 ∧ c.published = 0 ∧ c.saturated = false ∧ c.lost = false) ∧
    (∀ x : CounterArg, 4 ≤ x.number ∨ 2 ≤ x.enable ∨ (x.station ≠ 8 ∧ ¬known x.station) ∨ (∀ m : LaneMode, x.lane ≠ m.code) ∨
        32 ≤ x.slot ∨ 4 ≤ x.lock ∨ 2 ≤ x.acc →
      exec (.setCounter tag x) s = .next (s.withReply 0x96#8 tag .badValue [])) ∧
    (∀ i, 4 ≤ i → exec (.setWatch tag i station) s = .next (s.withReply 0x97#8 tag .badValue [])) ∧
    (station = 255 ∨ known station →
      let w : Watch := { station := if h : station < 8 then some ⟨station, h⟩ else none, aEven := none, aOdd := none,
                         bEven := none, bOdd := none, lost := false }
      exec (.setWatch tag k station) s =
        .next (({ s with stats := { s.stats with watches := s.stats.watches.set k w } } : State).withReply 0x97#8 tag .ok
          [])) ∧
    (station ≠ 255 → ¬known station →
      exec (.setWatch tag k station) s = .next (s.withReply 0x97#8 tag .badValue []))

/-- SET_TRACE stores a configuration in its ranges, empties the buffer and answers the number of records discarded. READ_TRACE
returns and removes the oldest records, as many as were asked for, are held and fit the reply. A capture at a completion in
RUN and STOPPING with the trace enabled, when the run cycle count is a multiple of the decimation or a CAPTURE request is
due, is the run cycle count, V' and the player's word with the stations as the demand assembly left them, and joins a buffer below
its capacity of floor(8,192 / (3 + 3k)) records; in a full one it replaces the oldest under
OVERWRITE and is refused under STOP_WHEN_FULL, with one TRACE_FULL report a filling. CYCLE_COMPUTATION_COMPLETION makes the
capture, with the trace speed and player state that it leaves, also where the computation began in READY and START_RUN has come
since (log 24), and the CAPTURE request that its computation carried is used up,
record or not (what then waits: O46); in another operating state it takes none and discards that request. A run end at standstill
is left out, its order being open (log 4). A station that has lost its record since SET_TRACE has words 0 (log 42) (R166, R176 to
R180). -/
def Obligations.TraceIsSetFilledAndRead : Prop :=
  (∀ (s : State) (tag : Byte) (m : Mask) (decimation policy enable maximum : Nat), s.takes →
     (1 ≤ decimation → decimation ≤ 256 → policy ≤ 1 → enable ≤ 1 →
       (∀ n : Station, inMask m n = true → s.stations[n] ≠ none) →
       exec (.setTrace tag m decimation policy enable) s =
         .next (({ s with trace := { mask := m, decimation := decimation, overwrite := decide (policy = 1),
                                     enable := decide (enable = 1), records := [], fullReported := false,
                                     waiting := s.trace.waiting, lost := 0 } } : State).withReply 0x99#8 tag .ok
           [.u16 s.trace.records.length])) ∧
     (decimation = 0 ∨ 256 < decimation ∨ 2 ≤ policy ∨ (∃ n : Station, inMask m n = true ∧ s.stations[n] = none) →
       exec (.setTrace tag m decimation policy enable) s = .next (s.withReply 0x99#8 tag .badValue [])) ∧
     ∃ (l r : List (List Word32)), s.trace.records = l ++ r ∧
       l.length = min maximum (min s.trace.records.length
         (1016 / (12 + 12 * (stationList.filter (inMask s.trace.mask)).length))) ∧
       exec (.readTrace tag maximum) s =
         .next (({ s with trace := { s.trace with records := r, fullReported := s.trace.fullReported && l.isEmpty } }
           : State).withReply 0x9A#8 tag .ok ([.u8 s.trace.mask.toNat, .u16 l.length, .u32 r.length] ++
             l.flatten.map fun w => .u32 w.toNat))) ∧
  (∀ (s : State) (c : Computation),
     let rec3 := recordWords s s.player c
     rec3.length = 3 + 3 * (stationList.filter (inMask s.trace.mask)).length ∧
     (¬takesRecord s c → traceCapture c s = s) ∧
     (takesRecord s c → ¬ringFull s.trace →
       traceCapture c s = { s with trace := { s.trace with records := s.trace.records ++ [rec3] } }) ∧
     (takesRecord s c → ringFull s.trace → s.trace.overwrite = true →
       traceCapture c s = { s with trace := { s.trace with records := s.trace.records.drop 1 ++ [rec3] } }) ∧
     (takesRecord s c → ringFull s.trace → s.trace.overwrite = false → s.trace.fullReported = true → traceCapture c s = s) ∧
     (takesRecord s c → ringFull s.trace → s.trace.overwrite = false → s.trace.fullReported = false →
       traceCapture c s = submit (.traceFull s.trace.records.length s.run.count)
         { s with trace := { s.trace with fullReported := true } })) ∧
  (∀ (s : State) (c : Computation), s.link.running = true → s.comp = some c → c.standstill = false →
     s.run.op = .run ∨ s.run.op = .stopping →
     ∃ t, exec .cycleComputationCompletion s = .next t ∧ t.comp = none ∧
       let rec3 := recordWords s t.player c
       let left (l : List (List Word32)) (b : Bool) : Prop :=
         t.trace = { s.trace with records := l, fullReported := b, waiting := t.trace.waiting }
       (¬takesRecord s c → left s.trace.records s.trace.fullReported) ∧
       (takesRecord s c → ¬ringFull s.trace → left (s.trace.records ++ [rec3]) s.trace.fullReported) ∧
       (takesRecord s c → ringFull s.trace → s.trace.overwrite = true →
         left (s.trace.records.drop 1 ++ [rec3]) s.trace.fullReported) ∧
       (takesRecord s c → ringFull s.trace → s.trace.overwrite = false → left s.trace.records true)) ∧
  (∀ (s : State) (c : Computation), s.link.running = true → s.comp = some c → s.run.op ≠ .run → s.run.op ≠ .stopping →
     ∃ t, exec .cycleComputationCompletion s = .next t ∧ t.trace = s.trace ∧ t.comp = none)

/-! ### The synchronisation core -/

/-- The ROAD step. At rest the axle stays while the drive force is within A, else moves with the force beyond A. In motion the
road load opposes it, its B and C terms rounded each on its own; a sum that reaches or crosses 0 stops the axle; beyond V_LIMIT
the speed is held there and OVERSPEED is due (R32 to R37). -/
def Obligations.RoadStepFollowsTheForces : Prop :=
  ∀ (p : Params) (T limit v grade f : Int), 0 ≤ limit →
    let fg := roundDiv ((p.mass : Int) * grade * 980665) 100000000
    let dv (net : Int) : Int := roundDiv (net * T * T * 65536) (10000 * (p.mass : Int))
    let r := roadStep p T limit v grade f
    let vc := (v * 9).tdiv (65536 * 25 * T)
    let held (x : Int) : Prop := r.v = max (-limit) (min limit x) ∧ (r.overspeed = true ↔ limit < (x.natAbs : Int))
    r.grade = fg ∧
    (v = 0 → -(p.a : Int) ≤ f - fg → f - fg ≤ p.a → r.v = 0 ∧ r.road = 0 ∧ r.net = 0 ∧ r.overspeed = false) ∧
    (v = 0 → (p.a : Int) < f - fg → r.net = f - fg - p.a ∧ r.road = p.a ∧ held (dv r.net)) ∧
    (v = 0 → f - fg < -(p.a : Int) → r.net = f - fg + p.a ∧ r.road = -p.a ∧ held (dv r.net)) ∧
    (v ≠ 0 →
      r.road = v.sign * (p.a + roundDiv ((p.b : Int) * vc.natAbs) 10000 + roundDiv ((p.c : Int) * vc * vc) 100000000) ∧
      r.net = f - r.road - fg ∧
      ((v + dv r.net = 0 ∨ (0 < v ∧ v + dv r.net < 0) ∨ (v < 0 ∧ 0 < v + dv r.net)) → r.v = 0 ∧ r.overspeed = false) ∧
      ((0 < v ∧ 0 < v + dv r.net) ∨ (v < 0 ∧ v + dv r.net < 0) → held (v + dv r.net)))

/-- The manual's rounding to nearest, halves away from zero, for every dividend and positive divisor (00_scope.md; R27, R32, R34,
R35, R40, R47), and the count delta: the difference of the counts modulo 2^32 read as signed (R50). -/
def Obligations.RoundingIsToNearest : Prop :=
  (∀ n d q : Int, 0 < d →
    (roundDiv n d = q ↔ 2 * (n - q * d).natAbs < d ∨ (2 * (n - q * d).natAbs = d ∧ n.natAbs < (q * d).natAbs))) ∧
  (∀ new last : Word32, -2147483648 ≤ countDelta new last ∧ countDelta new last ≤ 2147483647 ∧
    (countDelta new last - ((new.toNat : Int) - last.toNat)) % 4294967296 = 0) ∧
  countDelta 150#32 4294967200#32 = 246 ∧ countDelta 4294967000#32 100#32 = -396

/-- From STOPPING, as many cycle closes as the speed holds stop steps bring the axle to standstill (R41). That closes may follow
each other with no completion between them is the model's choice (log 3). -/
def Obligations.StopRampReachesStandstill : Prop :=
  ∀ (s : State) (n : Nat), s.link.running = true → s.run.op = .stopping →
    (s.axle.v.natAbs : Int) ≤ n * roundDiv ((s.cell.stopDecel : Int) * s.cell.period * s.cell.period * 65536) 100000 →
    s.pending = List.replicate n .cycleClose → ∃ t, runSteps n s = some t ∧ t.axle.v = 0 ∧ t.pending = []

/-- All that CYCLE_CLOSE raises and reports, in its order: station by station LANE_DEGRADED and SERVICE_DONE; LINK_LOST, or in
SETTLE SETTLE_FAIL, with the entry to SAFE, or SETTLED; station by station, all of one before the next's (the model's reading, log
23), the raises and STATION reports of the judging, each FAULT before its STATION; OVERSPEED, WINDUP and WINDUP_WARN;
COUNTER_SATURATED (log 47). The fault manager it leaves has taken exactly these raises, the operating state has moved by them
alone, an accepted OVERSPEED or WINDUP entering STOPPING with stop cause FAULT, and the report queue has gained exactly these
reports, each with the operating state of its moment (R12, R19, R37, R62, R86, R87, R118, R126, R139, R142, R149, R172; the run
cycle count of those before the computation: log 4; the states that the reports of an entry carry: log 21). -/
def Obligations.CycleCloseRaisesAndReports : Prop :=
  ∀ s : State, s.link.running = true →
    ∃ (t : State) (c d : Word32) (silent : Mask), exec .cycleClose s = .next t ∧
      (c = s.run.count ∨ c = t.run.count) ∧ (d = s.run.count ∨ d = t.run.count) ∧
      (∀ n : Station, inMask silent n = true ↔
        s.stations[n] ≠ none ∧ ¬∃ k f x y z, t.link.st[n].obs = some (.valid k f x y z)) ∧
      let safe : Bool := s.run.op != .safe && t.run.op == .safe
      let judged := if t.run.op = .stopping then s.run.op else t.run.op
      let link := course s c s.faults s.run.op (linkActs s t)
      let lost : Raise := if s.run.op = .settle then { kind := .settleFail, detail := some (.stations silent) }
        else { kind := .linkLost }
      let checks := if safe then safeReports { s with faults := link.1, run := { s.run with count := d } } s.run.op lost
        else if s.run.op = .settle ∧ t.run.op = .ready then [stateReport s.run .settle .ready .settled] else []
      let core := course s t.run.count (if safe then Faults.take lost d s.run.op link.1 else link.1) judged
        (coreActs s t judged safe)
      t.faults = { core.1 with silence := t.faults.silence } ∧ t.run.op = core.2.1 ∧
      (safe = false → t.run.op = s.run.op → t.run.stopCause = s.run.stopCause ∧ t.player = s.player) ∧
      (s.run.op = .run → t.run.op = .stopping →
        t.run.stopCause = some .fault ∧ t.player = playerStopped s.player) ∧
      emits s t (link.2.2 ++ checks ++ core.2.2)

/-- At the gearing stage a geared station's step: num = Δd × CPR + residue, the target advances by floor(num / C_nm) and the
residue is what is left, from 0 to C_nm − 1; over any stretch of computations the steps and the residue account for every Δd
exactly; a station that is not geared keeps target and residue (R58). -/
def Obligations.GearingIsExact : Prop :=
  (∀ (r : StationRec) (d : Int), r.state ≠ .locked → r.state ≠ .slip → r.gear d = r) ∧
  (∀ (r : StationRec) (d : Int), r.state = .locked ∨ r.state = .slip → 0 < r.cnm →
    (r.gear d).residue = (d * r.block.cpr + r.residue) % r.cnm ∧ 0 ≤ (r.gear d).residue ∧ (r.gear d).residue < r.cnm ∧
    (-9223372036854775808 ≤ r.tLast + (d * r.block.cpr + r.residue) / r.cnm →
      r.tLast + (d * r.block.cpr + r.residue) / r.cnm ≤ 9223372036854775807 →
      r.gear d = { r with tNext := r.tLast + (d * r.block.cpr + r.residue) / r.cnm,
                          residue := (d * r.block.cpr + r.residue) % r.cnm })) ∧
  (∀ (s : State) (n : Station) (r : StationRec), s.stations[n] = some r →
    ∃ x, (gearStage s).stations[n] = some x ∧ x.tNext = (r.gear s.axle.adv).tNext ∧ x.tLast = r.tLast ∧
      x.residue = (r.gear s.axle.adv).residue) ∧
  ∀ (r : StationRec) (l : List Int), r.state = .locked ∨ r.state = .slip → 0 < r.cnm → 0 ≤ r.residue → r.residue < r.cnm →
    r.tLast.natAbs + (l.map fun d => d.natAbs * r.block.cpr).sum + r.cnm.natAbs ≤ 4611686018427387904 →
    let t := l.foldl (fun r d => { r.gear d with tLast := (r.gear d).tNext }) r
    (t.tLast - r.tLast) * r.cnm + t.residue = (l.map fun d : Int => d * (r.block.cpr : Int)).sum + r.residue

/-- The judging of an observation. Accepted: measured position, baseline, streaks, age and drive values are taken; in LOCKED and
SLIP the error is target minus position, held within its limit with ERROR_CLAMP, and the windows move the station between the two;
in CAPTURE the streak rises or restarts and completes the capture; in IDLE and FAULTED nothing moves. A TRIPPED drive faults the
station. SILENT and DISAGREE, and JUMP beyond JUMP_LIMIT in every state but FAULTED, count a miss where the state counts them,
fault the station beyond MISS_LIMIT, and leave position, error and drive values, by which the windows judge on. SLIP_TIME and
CAPTURE_LIMIT fault a station that is in SLIP or CAPTURE too long. A faulted station has its raise first and then its STATION
report; CYCLE_CLOSE makes the raises and reports of every judging in station-number order (O52). A changed circumference trim is
judged as the record it makes, a geared station in CAPTURE (its age: log 25). CYCLE_CLOSE leaves every station with a record so:
judged by the observation it has formed and the run cycle count it leaves, then geared by the axle's Δd (O53), given the ff of V'
and the ff before it as interval ff, and assembled with the monitor's cross term (O55); the engaged stations have gone idle before
where the close entered SAFE. RUN and STOPPING judge and assemble alike, so the state left stands for the one of before (R51 to
R56, R65 to R70; and rules 49, 59, 71 and 76). -/
def Obligations.JudgingMovesTheStation : Prop :=
  (∀ (n : Station) (p : Params) (op : OpState) (now count : Word32) (force : Int) (drive : DriveState) (trip : Nat)
     (resp : Option ServiceResponse) (r : StationRec),
     r.state = .locked → r.baseline = true → p.circTrim[n] = r.trimPpm → op ≠ .settle → r.miss < p.missLimit →
     p.missLimit ≤ 15 →
     let delta := countDelta count r.lastRaw
     let pos := r.measured + delta
     let j := judge n p op now (.valid count force drive trip resp) r
     ((delta - (r.tNext - r.tAccept)).natAbs ≤ p.jumpLimit → drive ≠ .tripped → p.slipWindow ≤ 4000000 →
       -9223372036854775808 ≤ pos → pos ≤ 9223372036854775807 →
       let taken := { r with tLast := r.tNext, tAccept := r.tNext, measured := pos, lastRaw := count, lastAt := now,
                             since := 0, miss := 0, judgement := some .accepted, force := some force, drive := some drive,
                             trip := some trip, e := r.tNext - pos }
       ((r.tNext - pos).natAbs ≤ p.slipWindow → j = { r := taken, events := [] }) ∧
       (p.slipWindow < (r.tNext - pos).natAbs → (r.tNext - pos).natAbs ≤ 16777215 →
         j = { r := { taken with state := .slip, slipTimer := 0 },
               events := [.changed .locked { taken with state := .slip, slipTimer := 0 } .slipped] }) ∧
       (16777215 < (r.tNext - pos).natAbs → j = faultedAs n op .locked
         { taken with e := (r.tNext - pos).sign * 16777215 } .errorClamp .stationSlip none)) ∧
     (p.jumpLimit < (delta - (r.tNext - r.tAccept)).natAbs → r.e.natAbs ≤ p.slipWindow →
       j = { r := { r with tLast := r.tNext, since := min 65535 (r.since + 1), miss := r.miss + 1,
                           judgement := some (.missed .jump) }, events := [] })) ∧
  (∀ (n : Station) (p : Params) (op : OpState) (now count : Word32) (force : Int) (drive : DriveState) (trip : Nat)
     (resp : Option ServiceResponse) (r : StationRec), p.circTrim[n] = r.trimPpm →
     let geared := r.state = .locked ∨ r.state = .slip
     let delta := countDelta count r.lastRaw
     let pos := if r.baseline then r.measured + delta else count.toNat
     let since := min 65535 (r.since + 1)
     let age := if r.state = .capture then min 65535 (r.age + 1) else r.age
     let taken : StationRec :=
       { r with tLast := if geared then r.tNext else r.tLast, tAccept := if geared then r.tNext else r.tAccept,
                e := if geared then r.tNext - pos else r.e, age := age, measured := pos, baseline := true, lastRaw := count,
                lastAt := now, since := 0, miss := 0, judgement := some .accepted, force := some force, drive := some drive,
                trip := some trip }
     let j := judge n p op now (.valid count force drive trip resp) r
     r.state = .faulted ∨ r.baseline = false ∨ (delta - expectedMove r).natAbs ≤ p.jumpLimit →
     -9223372036854775808 ≤ pos → pos ≤ 9223372036854775807 →
     (geared → drive ≠ .tripped → 16777215 < (r.tNext - pos).natAbs →
       j = faultedAs n op r.state { taken with e := (r.tNext - pos).sign * 16777215 } .errorClamp .stationSlip none) ∧
     ((geared → (r.tNext - pos).natAbs ≤ 16777215) →
     (r.state = .idle → drive ≠ .tripped → j = { r := taken, events := [] }) ∧
     (r.state = .faulted → drive ≠ .tripped ∨ r.cause = some .driveTrip → j = { r := taken, events := [] }) ∧
     (r.state = .slip → drive ≠ .tripped → (r.tNext - pos).natAbs ≤ p.lockWindow → p.lockWindow < p.slipWindow →
       let x := { taken with state := .locked, slipTimer := 0 }
       j = { r := x, events := [.changed .slip x .relocked] }) ∧
     (r.state = .slip → drive ≠ .tripped → p.lockWindow < (r.tNext - pos).natAbs → r.slipTimer + 1 ≤ p.slipTime →
       p.slipTime ≤ 65534 → j = { r := { taken with slipTimer := r.slipTimer + 1 }, events := [] }) ∧
     (r.state = .slip → drive ≠ .tripped → p.lockWindow < (r.tNext - pos).natAbs → p.slipTime < min 65535 (r.slipTimer + 1) →
       j = faultedAs n op .slip taken .slipTime .stationSlip none) ∧
     (r.state = .capture → drive ≠ .tripped →
       let within := r.baseline = true ∧ ((delta * 256).tdiv since - r.intervalFf).natAbs ≤ p.captureWindow
       let streak := min 64 (r.streak + 1)
       (within → p.captureCycles ≤ streak →
         let x := { taken with state := .locked, streak := streak, tLast := pos, tAccept := pos, residue := 0, e := 0,
                               slipTimer := 0 }
         j = { r := x, events := [.changed .capture x .captured] }) ∧
       (within → streak < p.captureCycles → age ≤ p.captureLimit →
         j = { r := { taken with streak := streak }, events := [] }) ∧
       (¬within → 1 ≤ p.captureCycles → age ≤ p.captureLimit → j = { r := { taken with streak := 0 }, events := [] }) ∧
       ((within → streak < p.captureCycles) → 1 ≤ p.captureCycles → p.captureLimit < age →
         j = faultedAs n op .capture taken .captureFail .captureFail none)) ∧
     (drive = .tripped → ¬(r.state = .faulted ∧ r.cause = some .driveTrip) →
       j = faultedAs n op r.state taken .driveTrip .driveTrip (some (.trip trip))))) ∧
  (∀ (n : Station) (p : Params) (op : OpState) (now : Word32) (r : StationRec) (obs : Observation) (cause : MissCause),
     p.circTrim[n] = r.trimPpm →
     (cause = .silent ∧ obs = .silent) ∨ (cause = .disagree ∧ obs = .disagree) ∨
       (cause = .jump ∧ r.state ≠ .faulted ∧ r.baseline = true ∧ ∃ count force drive trip resp,
         obs = .valid count force drive trip resp ∧ p.jumpLimit < (countDelta count r.lastRaw - expectedMove r).natAbs) →
     let counted := op ≠ .settle ∧ (r.state ≠ .faulted ∨ r.faultCommand = .follow)
     let age := if r.state = .capture then min 65535 (r.age + 1) else r.age
     let missed (miss : Nat) : StationRec :=
       { r with tLast := if r.state = .locked ∨ r.state = .slip then r.tNext else r.tLast, since := min 65535 (r.since + 1),
                age := age, miss := miss, judgement := some (.missed cause) }
     let j := judge n p op now obs r
     (counted → p.missLimit < min 16 (r.miss + 1) → j = faultedAs n op r.state (missed (min 16 (r.miss + 1)))
       (match cause with | .silent => .lostSilent | .disagree => .lostDisagree | .jump => .lostJump) .stationLost none) ∧
     ∀ miss, (counted → miss = r.miss + 1 ∧ r.miss + 1 ≤ p.missLimit ∧ p.missLimit ≤ 15) → (¬counted → miss = r.miss) →
       (r.state = .idle ∨ r.state = .faulted → j = { r := missed miss, events := [] }) ∧
       (r.state = .locked → r.e.natAbs ≤ p.slipWindow → j = { r := missed miss, events := [] }) ∧
       (r.state = .locked → p.slipWindow < r.e.natAbs →
         let x := { missed miss with state := .slip, slipTimer := 0 }
         j = { r := x, events := [.changed .locked x .slipped] }) ∧
       (r.state = .capture → 1 ≤ p.captureCycles → age ≤ p.captureLimit →
         j = { r := { missed miss with streak := 0 }, events := [] }) ∧
       (r.state = .capture → 1 ≤ p.captureCycles → p.captureLimit < age →
         j = faultedAs n op .capture (missed miss) .captureFail .captureFail none) ∧
       (r.state = .slip → r.e.natAbs ≤ p.lockWindow →
         let x := { missed miss with state := .locked, slipTimer := 0 }
         j = { r := x, events := [.changed .slip x .relocked] }) ∧
       (r.state = .slip → p.lockWindow < r.e.natAbs → r.slipTimer + 1 ≤ p.slipTime → p.slipTime ≤ 65534 →
         j = { r := { missed miss with slipTimer := r.slipTimer + 1 }, events := [] }) ∧
       (r.state = .slip → p.lockWindow < r.e.natAbs → p.slipTime < min 65535 (r.slipTimer + 1) →
         j = faultedAs n op .slip (missed miss) .slipTime .stationSlip none)) ∧
  (∀ (n : Station) (p : Params) (op : OpState) (now : Word32) (obs : Observation) (r : StationRec),
    p.circTrim[n] ≠ r.trimPpm →
    let ppm := p.circTrim[n]
    let x := { r with trimPpm := ppm, cnm := roundDiv ((r.block.circ : Int) * (1000000 + ppm)) 1000 }
    let y := { x with state := .capture, streak := 0, age := 0, e := 0, residue := 0, slipTimer := 0 }
    (r.state = .locked ∨ r.state = .slip → judge n p op now obs r =
      { r := (judge n p op now obs y).r, events := .changed r.state y .trimChange :: (judge n p op now obs y).events }) ∧
    (r.state = .capture → judge n p op now obs r = judge n p op now obs { x with streak := 0 }) ∧
    (r.state = .idle ∨ r.state = .faulted → judge n p op now obs r = judge n p op now obs x)) ∧
  ∀ s : State, s.link.running = true → ∃ t, exec .cycleClose s = .next t ∧
    ∀ n : Station, (s.stations[n] = none → t.stations[n] = none) ∧
      ∀ r, s.stations[n] = some r → ∃ obs, t.link.st[n].obs = some obs ∧
        let r := if s.run.op ≠ .safe ∧ t.run.op = .safe ∧ engagedIn r then idled r else r
        let x := (judge n s.params t.run.op t.run.count obs r).r.gear t.axle.adv
        let ff := max (-2147483648) (min 2147483647 (roundDiv (t.axle.v * x.block.cpr) (256 * x.cnm)))
        t.stations[n] = some ({ x with intervalFf := x.ff, ff := ff }.assemble s.params t.run.op ((t.monitor.cross[n]).getD 0))

/-- Trim, command and demand after the demand assembly: TORQUE_OFF with 0 in IDLE; FOLLOW with ff in CAPTURE; FOLLOW with
ff + trim, clamped to 32 bits, in LOCKED and SLIP, the trim being e × KP / 16 plus the cross term where the observation was
accepted, held within TRIM_MAX; a FAULTED station follows its ff only for SLIP_TIME, ERROR_CLAMP and CAPTURE_FAIL in RUN and
STOPPING. At the end of the assembly of a CYCLE_CLOSE every counting counter adds the number of its stations that hold one of
its lock conditions, cut at 65,535; one whose station has lost its record adds nothing (log 42). The first cuts submit
COUNTER_SATURATED, in the order of the counter numbers (log 47), as the close's last reports (R60, R61, R72, R168, R171, R172). -/
def Obligations.AssemblyFormsTheDemand : Prop :=
  (∀ s : State, s.link.running = true → ∃ t, exec .cycleClose s = .next t ∧ t.inForce.countEnable = s.params.countEnable ∧
    (s.port.tx ≠ .idle → t.port.reports.length < 32 →
      ∃ before, told t.port.reports = before ++ heard s ((firstCuts s t).map fun b => (t.run.count, t.run.op, b))) ∧
    ∀ k : Fin 4,
      let c := s.stats.counters[k]
      let holds (n : Station) : Bool := (c.station == none || c.station == some n) && match t.stations[n] with
        | some r => (c.slip && r.state == .slip) || (c.trimSat && r.trimSat)
        | none => false
      let sum := c.working + (stationList.filter holds).length
      t.stats.counters[k] =
        if c.enable = true ∧ c.lost = false ∧ (s.params.countEnable = true ∨ t.run.countEnable = true) then
          { c with working := if 65535 < sum then 65535 else sum, saturated := c.saturated || decide (65535 < sum) }
        else c) ∧
  ∀ (r : StationRec) (p : Params) (op : OpState) (x : Int),
    let a := r.assemble p op x
    let wanted := if r.judgement = some .accepted then (r.e * p.kp).tdiv 16 + x else 0
    let trim := max (-(p.trimMax : Int)) (min p.trimMax wanted)
    let keeps := op = .run ∨ op = .stopping
    (r.state = .idle → a = { r with trim := 0, trimSat := false, command := .torqueOff, demand := 0 }) ∧
    (r.state = .capture → a = { r with trim := 0, trimSat := false, command := .follow, demand := r.ff }) ∧
    (r.state = .locked ∨ r.state = .slip →
      a = { r with trim := trim, trimSat := decide (p.trimMax < wanted.natAbs), command := .follow,
                   demand := max (-2147483648) (min 2147483647 (r.ff + trim)) }) ∧
    (r.state = .faulted → keeps →
      r.cause = some .slipTime ∨ r.cause = some .errorClamp ∨ r.cause = some .captureFail →
      a = { r with trim := 0, trimSat := false, faultCommand := .follow, command := .follow, demand := r.ff }) ∧
    (r.state = .faulted →
      ¬keeps ∨ (r.cause ≠ some .slipTime ∧ r.cause ≠ some .errorClamp ∧ r.cause ≠ some .captureFail) →
      a = { r with trim := 0, trimSat := false, faultCommand := .torqueOff, command := .torqueOff, demand := 0 })

/-- What the monitor's stage forms: the participants with their surface errors in µm; with two or more, the spread between the
largest and the smallest, the mean truncated toward zero, the trailing and leading stations, the lowest-numbered of equals, and
each cross term; the timer up by one above WINDUP_LIMIT and 0 otherwise; the warning above half the limit; and one summary an axle
of the accepted observations of its stations, with their forces, and of its participants. CYCLE_CLOSE leaves all of it so for the
station records it leaves. Its timer going from WINDUP_TIME to one above raises WINDUP, which in RUN, no reaction above level 3
standing and no entry to SAFE made, takes the part to STOPPING; a warning that opens raises WINDUP_WARN; both carry the spread and
the trailing station, and no other close raises them (O52) (R82 to R87, R89; in SETTLE: log 40; after a trim change: log 48). -/
def Obligations.MonitorMeasuresWindUp : Prop :=
  (∀ s : State, s.link.running = true → ∃ t, exec .cycleClose s = .next t ∧ monitorOf t s.monitor.timer t.monitor ∧
    (s.monitor.timer = s.cell.windupTime → t.monitor.timer = s.cell.windupTime + 1 →
      listed t.faults .windup none none (spreadDetail t.monitor) ∧
      (s.run.op = .run → t.run.op ≠ .safe → s.faults.reaction = .none ∨ s.faults.reaction = .three →
        t.run.op = .stopping ∧ t.run.stopCause = some .fault ∧ t.faults.reaction = .two)) ∧
    (s.monitor.warn = false → t.monitor.warn = true →
      listed t.faults .windupWarn none none (spreadDetail t.monitor))) ∧
  ∀ s : State, monitorOf s s.monitor.timer s.monitorNext

/-! ### Faults -/

/-- A raise is recorded, reported and decided. A level-1 fault is always accepted, one of level 2 or 3 where it is more severe
than the reaction level, one of level 4 never; acceptance sets the reaction level, and level 3 and 4 do nothing else. A raise
without an entry of its identity adds one at the end of fewer than 8, and with 8 sets the overflow flag and leaves the list. Its
FAULT report comes before any reaction: kind, station, lane, cause and detail, position and repeat count if stored, whether
accepted, the reaction level and the overflow flag after it, with the operating state of before (R139, R140, R141, R145, R147,
R148). What GET_STATUS shows until a completion takes the raise too (log 7). Of every step: the reaction level becomes less severe
only where CLEAR_FAULT is served, which leaves the list empty and the level NONE, or by a full reset (R140, R151). -/
def Obligations.RaisesAreDecided : Prop :=
  (∀ s t : State, step s = .next t → severity t.faults.reaction ≤ severity s.faults.reaction ∨ fullyReset s t ∨
    (servesClearFault s ∧
      t.faults = { entries := [], overflow := false, reaction := .none, silence := s.faults.silence })) ∧
  ∀ (s : State) (f : Raise),
    let t := raiseFault f s
    let accepted : Bool := f.kind.level == 1 || (decide (f.kind.level < 4) && decide (f.kind.level < severity s.faults.reaction))
    let reported (stored : Option (Nat × Nat)) : Prop :=
      (if f.kind.level ≤ 2 then 1 else if f.kind.level = 3 then 2 else 3) ≤ s.params.reportLevel →
      s.port.reports.length < 32 →
      ∃ rest, t.port.reports = s.port.reports ++ (⟨s.port.lost, s.run.count, s.run.op,
          .fault f stored accepted t.faults.reaction t.faults.overflow⟩ :: rest) ∧ (3 ≤ f.kind.level → rest = [])
    (accepted = true → severity t.faults.reaction = f.kind.level) ∧
    (accepted = false → t.faults.reaction = s.faults.reaction ∧ t.run = s.run) ∧
    (3 ≤ f.kind.level → t = { s with faults := t.faults, comp := t.comp, port := t.port }) ∧
    (2 ≤ f.kind.level → t.comp = s.comp.map fun k =>
      { k with faultsBefore := Faults.take f s.run.count s.run.op k.faultsBefore }) ∧
    t.faults = Faults.take f s.run.count s.run.op s.faults ∧
    (f.kind.level = 2 → t.run.op = if accepted = true ∧ s.run.op = .run then .stopping else s.run.op) ∧
    (f.kind.level = 1 → t.run.op = if s.run.op = .loading ∨ s.run.op = .config then s.run.op else .safe) ∧
    ((∀ e ∈ s.faults.entries, e.kind ≠ f.kind ∨ e.station ≠ f.station ∨ e.lane ≠ f.lane) →
      (s.faults.entries.length < 8 → t.faults.overflow = s.faults.overflow ∧ t.faults.entries = s.faults.entries ++
        [{ kind := f.kind, station := f.station, lane := f.lane, cause := f.cause, detail := f.detail,
           firstAt := s.run.count, lastAt := s.run.count, repeats := 1, state := s.run.op }] ∧
        reported (some (s.faults.entries.length, 1))) ∧
      (8 ≤ s.faults.entries.length → t.faults.overflow = true ∧ t.faults.entries = s.faults.entries ∧ reported none)) ∧
    ∀ (l r : List FaultEntry) (e : FaultEntry), s.faults.entries = l ++ e :: r → e.kind = f.kind → e.station = f.station →
      e.lane = f.lane → (∀ x ∈ l, x.kind ≠ f.kind ∨ x.station ≠ f.station ∨ x.lane ≠ f.lane) →
      reported (some (l.length, min 255 (e.repeats + 1)))

/-! ### Threshold rows

Each says what the row's command does where the block's own update crosses the row's threshold. That the command given alone
makes that update is the model's choice (log 18). -/

/-- SETTLED, SETTLE_FAIL and LINK_LOST (log 18): with every commissioned station valid and SETTLE_COUNT reached the part enters
READY; with the timer at 16 × SETTLE_COUNT SETTLE_FAIL, naming the stations that are not valid, takes it to SAFE; with
LINK_LOST_LIMIT silent closes LINK_LOST does; the raise and the reports are exactly these. The first clause is
the manual's own: CYCLE_CLOSE makes these checks by the observations it forms, in SETTLE the settle's, in READY, RUN and
STOPPING the silence's, and enters READY or SAFE on no other ground of theirs (R118, R121, R149; the states and summaries that the
reports of an entry to SAFE carry: log 21, 45). -/
def Obligations.SettleAndSilenceThresholds : Prop :=
  (∀ (s : State) (k : CellBlock), s.link.running = true → s.store.cell = some k → cellInRange k = true →
    ∃ t, exec .cycleClose s = .next t ∧
      let valid (n : Station) : Prop := ∃ c f d p x, t.link.st[n].obs = some (.valid c f d p x)
      let all := ∀ n : Station, s.stations[n] ≠ none → valid n
      let silent := ∀ n : Station, s.stations[n] ≠ none → ¬valid n
      let settles := all ∧ k.settleCount ≤ s.run.settleCount + 1
      (s.run.op = .settle → t.faults.silence = 0 ∧ t.run.settleTimer = min 16384 (s.run.settleTimer + 1) ∧
        (all → t.run.settleCount = min 1024 (s.run.settleCount + 1)) ∧ (¬all → t.run.settleCount = 0) ∧
        (settles → t.run.op = .ready ∧ t.pins.driveEnable = true) ∧
        (¬settles → 16 * k.settleCount ≤ s.run.settleTimer + 1 → t.run.op = .safe ∧ t.pins.driveEnable = false ∧
          t.faults.reaction = .one ∧ ∃ m : Mask, (∀ n : Station, inMask m n = true ↔ s.stations[n] ≠ none ∧ ¬valid n) ∧
            listed t.faults .settleFail none none (some (.stations m))) ∧
        (¬settles → s.run.settleTimer + 1 < 16 * k.settleCount → t.run.op = .settle)) ∧
      (s.run.op = .ready ∨ s.run.op = .run ∨ s.run.op = .stopping →
        (¬silent → t.faults.silence = 0 ∧ t.run.op ≠ .safe) ∧
        (silent → t.faults.silence = min 64 (s.faults.silence + 1)) ∧
        (silent → s.faults.silence + 1 ≠ k.linkLostLimit → t.run.op ≠ .safe) ∧
        (silent → s.faults.silence + 1 = k.linkLostLimit → t.run.op = .safe ∧ t.pins.driveEnable = false ∧
          t.faults.reaction = .one ∧ listed t.faults .linkLost none none none)) ∧
      (s.run.op = .safe → t.faults.silence = 0 ∧ t.run.op = .safe)) ∧
  ∀ (s : State) (k : CellBlock), s.store.cell = some k → cellInRange k = true →
    let valid (n : Station) : Prop := ∃ c f d t x, s.link.st[n].obs = some (.valid c f d t x)
    let all := ∀ n : Station, s.stations[n] ≠ none → valid n
    let safe (t : State) (f : Raise) : Prop := t.run.op = .safe ∧ t.pins.driveEnable = false ∧ t.faults.reaction = .one ∧
      t.faults = { Faults.take f s.run.count s.run.op s.faults with silence := t.faults.silence } ∧
      emits s t (safeReports s s.run.op f) ∧ t.axle.v = 0 ∧ t.params = s.params ∧ t.store = s.store ∧ t.mem = s.mem ∧ t.link = s.link
    (s.run.op = .settle → all → k.settleCount ≤ s.run.settleCount + 1 →
      ∃ t, exec .settled s = .next t ∧
        t = { s with run := { s.run with op := .ready, settleCount := min 1024 (s.run.settleCount + 1),
                                         settleTimer := min 16384 (s.run.settleTimer + 1) },
                     pins := { s.pins with driveEnable := true },
                     port := { s.port with reports := t.port.reports, lost := t.port.lost, tx := t.port.tx } } ∧
        emits s t [stateReport s.run .settle .ready .settled]) ∧
    (s.run.op = .settle → ¬all → 16 * k.settleCount ≤ s.run.settleTimer + 1 →
      ∃ (t : State) (m : Mask), exec .settleFail s = .next t ∧
        (∀ n : Station, inMask m n = true ↔ s.stations[n] ≠ none ∧ ¬valid n) ∧
        safe t { kind := .settleFail, detail := some (.stations m) }) ∧
    (s.run.op = .ready ∨ s.run.op = .run ∨ s.run.op = .stopping → (∀ n : Station, s.stations[n] ≠ none → ¬valid n) →
      s.faults.silence + 1 = k.linkLostLimit →
      ∃ t, exec .linkLost s = .next t ∧ safe t { kind := .linkLost } ∧ t.faults.silence = k.linkLostLimit)

/-- SERVICE_TIMEOUT, LANE_DEGRADED, TOLERANCE and WINDUP (log 18): an outstanding item of age 3 without its response completes
with TIMEOUT; a streak of 63 with the partner lane alone valid goes to 64 and raises LANE_DEGRADED of its lane; an excursion
beyond TOL_TIME raises TOLERANCE with the phase and counts for it; a spread above WINDUP_LIMIT with the timer at WINDUP_TIME raises
WINDUP, with WINDUP_WARN where no warning stood, and brings RUN to STOPPING. The raises and reports are exactly these (R12, R18,
R86 to R88, R111, R148). -/
def Obligations.LinkAndTraceThresholds : Prop :=
  ∀ s : State, s.link.running = true →
    let raises (t : State) (l : List (Raise ⊕ ReportBody)) : Prop :=
      let x := course s s.run.count s.faults s.run.op l
      t.faults = x.1 ∧ emits s t x.2.2
    (∀ (n : Station) (r : StationRec) (o : Outstanding), s.stations[n] = some r → s.link.st[n].obs = some .silent →
      s.link.st[n].outstanding = some o → o.age = 3 →
      exec (.serviceTimeout n) s = .next (pumpTx (submit (.serviceDone n o.item .timeout o.item.value)
        { s with link := { s.link with st := s.link.st.set n { s.link.st[n] with outstanding := none } } }))) ∧
    (∀ (n : Station) (r : StationRec) (x : StationReport), s.stations[n] = some r → r.block.lanes = .ab →
      s.link.st[n].repA = none → s.link.st[n].repB = some x → s.link.st[n].streakA = 63 →
      ∃ t, exec (.laneDegraded n .a) s = .next t ∧ t.link.st[n].streakA = 64 ∧ t.link.st[n].streakB = 0 ∧
        raises t [.inl { kind := .laneDegraded, station := some n, lane := some .a }] ∧
        t = { s with link := { s.link with st := t.link.st }, faults := t.faults, comp := t.comp,
                     port := { s.port with reports := t.port.reports, lost := t.port.lost, tx := t.port.tx } }) ∧
    (∀ (n : Station) (r : StationRec) (x : StationReport), s.stations[n] = some r → r.block.lanes = .ab →
      s.link.st[n].repA = some x → s.link.st[n].repB = none → s.link.st[n].streakB = 63 →
      ∃ t, exec (.laneDegraded n .b) s = .next t ∧ t.link.st[n].streakA = 0 ∧ t.link.st[n].streakB = 64 ∧
        raises t [.inl { kind := .laneDegraded, station := some n, lane := some .b }] ∧
        t = { s with link := { s.link with st := t.link.st }, faults := t.faults, comp := t.comp,
                     port := { s.port with reports := t.port.reports, lost := t.port.lost, tx := t.port.tx } }) ∧
    (s.run.op = .run → s.run.mode = .road → s.player.mode = .playing → s.player.raised = false →
      (s.inForce.tolBand : Int) < (displaySpeed s.axle.v s.cell.period - s.player.speed).natAbs →
      s.inForce.tolTime < s.player.excursion + 1 → s.inForce.tolTime ≤ 10000 →
      ∃ t, exec .tolerance s = .next t ∧
        t.player = { s.player with excursion := min 65535 (s.player.excursion + 1), raised := true,
                                   phaseTol := min 255 (s.player.phaseTol + 1) } ∧
        raises t [.inl { kind := .tolerance, detail := some (.phase s.player.phase) }] ∧
        t = { s with player := t.player, faults := t.faults, comp := t.comp,
                     port := { s.port with reports := t.port.reports, lost := t.port.lost, tx := t.port.tx } }) ∧
    (∀ (x : Int) (n : Station), s.run.op = .run → s.faults.reaction = .none → s.monitorNext.spread = some x →
      s.monitorNext.trailing = some n →
      (s.cell.windupLimit : Int) < x → s.monitor.timer = s.cell.windupTime → s.cell.windupTime ≤ 1000 →
      ∃ t, exec .windup s = .next t ∧
        raises t (.inl { kind := .windup, detail := some (.spread x n) } ::
          if s.monitor.warn then [] else [.inl { kind := .windupWarn, detail := some (.spread x n) }]) ∧
        t.run.op = .stopping ∧ t.run.stopCause = some .fault ∧ t.faults.reaction = .two ∧
        t.monitor.timer = s.cell.windupTime + 1 ∧ t.stations = s.stations ∧ t.axle = s.axle ∧ t.pins = s.pins)

/-- STATION_LOST, CAPTURE_FAIL, SLIP_TIMER_EXPIRY and CAPTURED (log 18): a station that is silent, whose lanes disagree or whose
count jumps beyond MISS_LIMIT, one in CAPTURE beyond CAPTURE_LIMIT and one in SLIP beyond SLIP_TIME are FAULTED with their cause; an
observation within the window that completes the capture streak locks the station at its measured position, and GET_STATION shows
the record so judged (log 7). STATION_LOST, CAPTURE_FAIL or STATION_SLIP of the station with its cause is recorded; its FAULT and
then the STATION report are submitted, the summary as the cycle close before formed it (the model's reading, log 45) (R51, R56, R62,
R65, R66, R67, R69, R71, R142, R148). -/
def Obligations.StationThresholds : Prop :=
  ∀ (s : State) (n : Station) (r : StationRec), s.link.running = true → s.stations[n] = some r →
    s.params.circTrim[n] = r.trimPpm → s.run.op = .run → r.since < 65535 → r.miss < 16 → r.age < 65535 →
    r.slipTimer < 65535 → 1 ≤ s.params.captureCycles →
    let report (old : LockState) (x : StationRec) (reason : StationReason) (cause : Option StationCause) : Told :=
      (s.run.count, .run, .station n old x.state reason cause x.e x.measured
        ((shownSpeed s s.axle.v * 9).tdiv (65536 * 25 * s.cell.period)) s.monitor.summaries[r.block.axle])
    let faulted (c : Instr) (cause : StationCause) (kind : FaultKind) : Prop :=
      let f : Raise := { kind := kind, station := some n, cause := some cause }
      ∃ t x, exec c s = .next t ∧ t.stations[n] = some x ∧ x.state = .faulted ∧ x.cause = some cause ∧
        x.streak = 0 ∧ x.age = 0 ∧ x.slipTimer = 0 ∧ x.trim = 0 ∧ x.trimSat = false ∧ x.e = r.e ∧
        x.measured = r.measured ∧ t.run = s.run ∧ (∀ m : Station, m ≠ n → t.stations[m] = s.stations[m]) ∧
        t.faults = Faults.take f s.run.count .run s.faults ∧
        emits s t [faultTold s.faults s.run.count .run f, report r.state x .fault (some cause)] ∧
        t = { s with stations := t.stations, faults := t.faults, comp := t.comp,
                     port := { s.port with reports := t.port.reports, lost := t.port.lost, tx := t.port.tx } }
    (s.link.st[n].obs = some .silent →
      (r.state ≠ .faulted → s.params.missLimit < r.miss + 1 → faulted (.stationLost n .silent) .lostSilent .stationLost) ∧
      (r.state = .capture → r.miss + 1 ≤ s.params.missLimit → s.params.captureLimit < r.age + 1 →
        faulted (.captureFail n) .captureFail .captureFail) ∧
      (r.state = .slip → r.miss + 1 ≤ s.params.missLimit → s.params.lockWindow < r.e.natAbs →
        s.params.slipTime < r.slipTimer + 1 → faulted (.slipTimerExpiry n) .slipTime .stationSlip)) ∧
    (s.link.st[n].obs = some .disagree → r.state ≠ .faulted → s.params.missLimit < r.miss + 1 →
      faulted (.stationLost n .disagree) .lostDisagree .stationLost) ∧
    (∀ (count : Word32) (force : Int) (drive : DriveState) (trip : Nat) (x : Option ServiceResponse),
      s.link.st[n].obs = some (.valid count force drive trip x) → r.state = .locked ∨ r.state = .slip → r.baseline = true →
      s.params.jumpLimit < (countDelta count r.lastRaw - (r.tNext - r.tAccept)).natAbs → s.params.missLimit < r.miss + 1 →
      faulted (.stationLost n .jump) .lostJump .stationLost) ∧
    ∀ (count : Word32) (force : Int) (drive : DriveState) (trip : Nat) (x : Option ServiceResponse),
      s.link.st[n].obs = some (.valid count force drive trip x) → drive ≠ .tripped → r.state = .capture →
      r.baseline = true →
      let delta := countDelta count r.lastRaw
      let k : Int := r.since + 1
      (delta - (r.intervalFf * k).tdiv 256).natAbs ≤ s.params.jumpLimit →
      ((delta * 256).tdiv k - r.intervalFf).natAbs ≤ s.params.captureWindow →
      s.params.captureCycles ≤ min 64 (r.streak + 1) →
      -9223372036854775808 ≤ r.measured + delta → r.measured + delta ≤ 9223372036854775807 →
      ∃ t y, exec (.captured n) s = .next t ∧ t.stations[n] = some y ∧ y.state = .locked ∧
        y.measured = r.measured + delta ∧ y.tLast = y.measured ∧ y.tAccept = y.measured ∧ y.residue = 0 ∧ y.e = 0 ∧
        y.slipTimer = 0 ∧ y.miss = 0 ∧ y.since = 0 ∧ emits s t [report .capture y .captured none] ∧
        (∀ m : Station, m ≠ n → t.stations[m] = s.stations[m]) ∧
        t = { s with stations := t.stations, comp := seenAfter s (fun m _ => m == n) fun _ _ => y,
                     port := { s.port with reports := t.port.reports, lost := t.port.lost, tx := t.port.tx } }
end

