-- ==== Sys2Proof/Laws/State.lean ====
section
/-! SUPPORT. What each named update of State leaves: one lemma a field, true by rfl. A proof cites these and never unfolds a
record update. -/

namespace Sys2Proof.Machine

variable (s : State)

@[simp] theorem setStation_pending (n : Station) (r : StationRec) : (setStation n r s).pending = s.pending := rfl
@[simp] theorem setStation_pins (n : Station) (r : StationRec) : (setStation n r s).pins = s.pins := rfl
@[simp] theorem setStation_link (n : Station) (r : StationRec) : (setStation n r s).link = s.link := rfl
@[simp] theorem setStation_axle (n : Station) (r : StationRec) : (setStation n r s).axle = s.axle := rfl
@[simp] theorem setStation_monitor (n : Station) (r : StationRec) : (setStation n r s).monitor = s.monitor := rfl
@[simp] theorem setStation_comp (n : Station) (r : StationRec) : (setStation n r s).comp = s.comp := rfl
@[simp] theorem setStation_player (n : Station) (r : StationRec) : (setStation n r s).player = s.player := rfl
@[simp] theorem setStation_run (n : Station) (r : StationRec) : (setStation n r s).run = s.run := rfl
@[simp] theorem setStation_faults (n : Station) (r : StationRec) : (setStation n r s).faults = s.faults := rfl
@[simp] theorem setStation_events (n : Station) (r : StationRec) : (setStation n r s).events = s.events := rfl
@[simp] theorem setStation_stats (n : Station) (r : StationRec) : (setStation n r s).stats = s.stats := rfl
@[simp] theorem setStation_trace (n : Station) (r : StationRec) : (setStation n r s).trace = s.trace := rfl
@[simp] theorem setStation_store (n : Station) (r : StationRec) : (setStation n r s).store = s.store := rfl
@[simp] theorem setStation_params (n : Station) (r : StationRec) : (setStation n r s).params = s.params := rfl
@[simp] theorem setStation_inForce (n : Station) (r : StationRec) : (setStation n r s).inForce = s.inForce := rfl
@[simp] theorem setStation_port (n : Station) (r : StationRec) : (setStation n r s).port = s.port := rfl
@[simp] theorem setStation_mem (n : Station) (r : StationRec) : (setStation n r s).mem = s.mem := rfl
@[simp] theorem setStation_memCut (n : Station) (r : StationRec) : (setStation n r s).memCut = s.memCut := rfl
@[simp] theorem setStation_free (n : Station) (r : StationRec) : (setStation n r s).free = s.free := rfl

@[simp] theorem updateSeen_pending (n : Station) (f : StationRec → StationRec) : (updateSeen n f s).pending = s.pending := rfl
@[simp] theorem updateSeen_pins (n : Station) (f : StationRec → StationRec) : (updateSeen n f s).pins = s.pins := rfl
@[simp] theorem updateSeen_link (n : Station) (f : StationRec → StationRec) : (updateSeen n f s).link = s.link := rfl
@[simp] theorem updateSeen_axle (n : Station) (f : StationRec → StationRec) : (updateSeen n f s).axle = s.axle := rfl
@[simp] theorem updateSeen_stations (n : Station) (f : StationRec → StationRec) : (updateSeen n f s).stations = s.stations := rfl
@[simp] theorem updateSeen_monitor (n : Station) (f : StationRec → StationRec) : (updateSeen n f s).monitor = s.monitor := rfl
@[simp] theorem updateSeen_player (n : Station) (f : StationRec → StationRec) : (updateSeen n f s).player = s.player := rfl
@[simp] theorem updateSeen_run (n : Station) (f : StationRec → StationRec) : (updateSeen n f s).run = s.run := rfl
@[simp] theorem updateSeen_faults (n : Station) (f : StationRec → StationRec) : (updateSeen n f s).faults = s.faults := rfl
@[simp] theorem updateSeen_events (n : Station) (f : StationRec → StationRec) : (updateSeen n f s).events = s.events := rfl
@[simp] theorem updateSeen_stats (n : Station) (f : StationRec → StationRec) : (updateSeen n f s).stats = s.stats := rfl
@[simp] theorem updateSeen_trace (n : Station) (f : StationRec → StationRec) : (updateSeen n f s).trace = s.trace := rfl
@[simp] theorem updateSeen_store (n : Station) (f : StationRec → StationRec) : (updateSeen n f s).store = s.store := rfl
@[simp] theorem updateSeen_params (n : Station) (f : StationRec → StationRec) : (updateSeen n f s).params = s.params := rfl
@[simp] theorem updateSeen_inForce (n : Station) (f : StationRec → StationRec) : (updateSeen n f s).inForce = s.inForce := rfl
@[simp] theorem updateSeen_port (n : Station) (f : StationRec → StationRec) : (updateSeen n f s).port = s.port := rfl
@[simp] theorem updateSeen_mem (n : Station) (f : StationRec → StationRec) : (updateSeen n f s).mem = s.mem := rfl
@[simp] theorem updateSeen_memCut (n : Station) (f : StationRec → StationRec) : (updateSeen n f s).memCut = s.memCut := rfl
@[simp] theorem updateSeen_free (n : Station) (f : StationRec → StationRec) : (updateSeen n f s).free = s.free := rfl

@[simp] theorem setLinkStation_pending (n : Station) (x : LinkStation) : (setLinkStation n x s).pending = s.pending := rfl
@[simp] theorem setLinkStation_pins (n : Station) (x : LinkStation) : (setLinkStation n x s).pins = s.pins := rfl
@[simp] theorem setLinkStation_axle (n : Station) (x : LinkStation) : (setLinkStation n x s).axle = s.axle := rfl
@[simp] theorem setLinkStation_stations (n : Station) (x : LinkStation) : (setLinkStation n x s).stations = s.stations := rfl
@[simp] theorem setLinkStation_monitor (n : Station) (x : LinkStation) : (setLinkStation n x s).monitor = s.monitor := rfl
@[simp] theorem setLinkStation_comp (n : Station) (x : LinkStation) : (setLinkStation n x s).comp = s.comp := rfl
@[simp] theorem setLinkStation_player (n : Station) (x : LinkStation) : (setLinkStation n x s).player = s.player := rfl
@[simp] theorem setLinkStation_run (n : Station) (x : LinkStation) : (setLinkStation n x s).run = s.run := rfl
@[simp] theorem setLinkStation_faults (n : Station) (x : LinkStation) : (setLinkStation n x s).faults = s.faults := rfl
@[simp] theorem setLinkStation_events (n : Station) (x : LinkStation) : (setLinkStation n x s).events = s.events := rfl
@[simp] theorem setLinkStation_stats (n : Station) (x : LinkStation) : (setLinkStation n x s).stats = s.stats := rfl
@[simp] theorem setLinkStation_trace (n : Station) (x : LinkStation) : (setLinkStation n x s).trace = s.trace := rfl
@[simp] theorem setLinkStation_store (n : Station) (x : LinkStation) : (setLinkStation n x s).store = s.store := rfl
@[simp] theorem setLinkStation_params (n : Station) (x : LinkStation) : (setLinkStation n x s).params = s.params := rfl
@[simp] theorem setLinkStation_inForce (n : Station) (x : LinkStation) : (setLinkStation n x s).inForce = s.inForce := rfl
@[simp] theorem setLinkStation_port (n : Station) (x : LinkStation) : (setLinkStation n x s).port = s.port := rfl
@[simp] theorem setLinkStation_mem (n : Station) (x : LinkStation) : (setLinkStation n x s).mem = s.mem := rfl
@[simp] theorem setLinkStation_memCut (n : Station) (x : LinkStation) : (setLinkStation n x s).memCut = s.memCut := rfl
@[simp] theorem setLinkStation_free (n : Station) (x : LinkStation) : (setLinkStation n x s).free = s.free := rfl

@[simp] theorem setEntry_pending (i : Fin 16) (e : Option EventEntry) : (setEntry i e s).pending = s.pending := rfl
@[simp] theorem setEntry_pins (i : Fin 16) (e : Option EventEntry) : (setEntry i e s).pins = s.pins := rfl
@[simp] theorem setEntry_link (i : Fin 16) (e : Option EventEntry) : (setEntry i e s).link = s.link := rfl
@[simp] theorem setEntry_axle (i : Fin 16) (e : Option EventEntry) : (setEntry i e s).axle = s.axle := rfl
@[simp] theorem setEntry_stations (i : Fin 16) (e : Option EventEntry) : (setEntry i e s).stations = s.stations := rfl
@[simp] theorem setEntry_monitor (i : Fin 16) (e : Option EventEntry) : (setEntry i e s).monitor = s.monitor := rfl
@[simp] theorem setEntry_comp (i : Fin 16) (e : Option EventEntry) : (setEntry i e s).comp = s.comp := rfl
@[simp] theorem setEntry_player (i : Fin 16) (e : Option EventEntry) : (setEntry i e s).player = s.player := rfl
@[simp] theorem setEntry_run (i : Fin 16) (e : Option EventEntry) : (setEntry i e s).run = s.run := rfl
@[simp] theorem setEntry_faults (i : Fin 16) (e : Option EventEntry) : (setEntry i e s).faults = s.faults := rfl
@[simp] theorem setEntry_stats (i : Fin 16) (e : Option EventEntry) : (setEntry i e s).stats = s.stats := rfl
@[simp] theorem setEntry_trace (i : Fin 16) (e : Option EventEntry) : (setEntry i e s).trace = s.trace := rfl
@[simp] theorem setEntry_store (i : Fin 16) (e : Option EventEntry) : (setEntry i e s).store = s.store := rfl
@[simp] theorem setEntry_params (i : Fin 16) (e : Option EventEntry) : (setEntry i e s).params = s.params := rfl
@[simp] theorem setEntry_inForce (i : Fin 16) (e : Option EventEntry) : (setEntry i e s).inForce = s.inForce := rfl
@[simp] theorem setEntry_port (i : Fin 16) (e : Option EventEntry) : (setEntry i e s).port = s.port := rfl
@[simp] theorem setEntry_mem (i : Fin 16) (e : Option EventEntry) : (setEntry i e s).mem = s.mem := rfl
@[simp] theorem setEntry_memCut (i : Fin 16) (e : Option EventEntry) : (setEntry i e s).memCut = s.memCut := rfl
@[simp] theorem setEntry_free (i : Fin 16) (e : Option EventEntry) : (setEntry i e s).free = s.free := rfl

@[simp] theorem handMark_pending : (handMark s).pending = s.pending := rfl
@[simp] theorem handMark_pins : (handMark s).pins = s.pins := rfl
@[simp] theorem handMark_link : (handMark s).link = s.link := rfl
@[simp] theorem handMark_axle : (handMark s).axle = s.axle := rfl
@[simp] theorem handMark_stations : (handMark s).stations = s.stations := rfl
@[simp] theorem handMark_monitor : (handMark s).monitor = s.monitor := rfl
@[simp] theorem handMark_comp : (handMark s).comp = s.comp := rfl
@[simp] theorem handMark_player : (handMark s).player = s.player := rfl
@[simp] theorem handMark_run : (handMark s).run = s.run := rfl
@[simp] theorem handMark_faults : (handMark s).faults = s.faults := rfl
@[simp] theorem handMark_stats : (handMark s).stats = s.stats := rfl
@[simp] theorem handMark_trace : (handMark s).trace = s.trace := rfl
@[simp] theorem handMark_store : (handMark s).store = s.store := rfl
@[simp] theorem handMark_params : (handMark s).params = s.params := rfl
@[simp] theorem handMark_inForce : (handMark s).inForce = s.inForce := rfl
@[simp] theorem handMark_port : (handMark s).port = s.port := rfl
@[simp] theorem handMark_mem : (handMark s).mem = s.mem := rfl
@[simp] theorem handMark_memCut : (handMark s).memCut = s.memCut := rfl
@[simp] theorem handMark_free : (handMark s).free = s.free := rfl

@[simp] theorem removeRunEvents_pending : (removeRunEvents s).pending = s.pending := rfl
@[simp] theorem removeRunEvents_pins : (removeRunEvents s).pins = s.pins := rfl
@[simp] theorem removeRunEvents_link : (removeRunEvents s).link = s.link := rfl
@[simp] theorem removeRunEvents_axle : (removeRunEvents s).axle = s.axle := rfl
@[simp] theorem removeRunEvents_stations : (removeRunEvents s).stations = s.stations := rfl
@[simp] theorem removeRunEvents_monitor : (removeRunEvents s).monitor = s.monitor := rfl
@[simp] theorem removeRunEvents_comp : (removeRunEvents s).comp = s.comp := rfl
@[simp] theorem removeRunEvents_player : (removeRunEvents s).player = s.player := rfl
@[simp] theorem removeRunEvents_run : (removeRunEvents s).run = s.run := rfl
@[simp] theorem removeRunEvents_faults : (removeRunEvents s).faults = s.faults := rfl
@[simp] theorem removeRunEvents_stats : (removeRunEvents s).stats = s.stats := rfl
@[simp] theorem removeRunEvents_trace : (removeRunEvents s).trace = s.trace := rfl
@[simp] theorem removeRunEvents_store : (removeRunEvents s).store = s.store := rfl
@[simp] theorem removeRunEvents_params : (removeRunEvents s).params = s.params := rfl
@[simp] theorem removeRunEvents_inForce : (removeRunEvents s).inForce = s.inForce := rfl
@[simp] theorem removeRunEvents_port : (removeRunEvents s).port = s.port := rfl
@[simp] theorem removeRunEvents_mem : (removeRunEvents s).mem = s.mem := rfl
@[simp] theorem removeRunEvents_memCut : (removeRunEvents s).memCut = s.memCut := rfl
@[simp] theorem removeRunEvents_free : (removeRunEvents s).free = s.free := rfl

@[simp] theorem startLink_pending : (startLink s).pending = s.pending := rfl
@[simp] theorem startLink_pins : (startLink s).pins = s.pins := rfl
@[simp] theorem startLink_axle : (startLink s).axle = s.axle := rfl
@[simp] theorem startLink_stations : (startLink s).stations = s.stations := rfl
@[simp] theorem startLink_monitor : (startLink s).monitor = s.monitor := rfl
@[simp] theorem startLink_comp : (startLink s).comp = s.comp := rfl
@[simp] theorem startLink_player : (startLink s).player = s.player := rfl
@[simp] theorem startLink_run : (startLink s).run = s.run := rfl
@[simp] theorem startLink_faults : (startLink s).faults = s.faults := rfl
@[simp] theorem startLink_events : (startLink s).events = s.events := rfl
@[simp] theorem startLink_stats : (startLink s).stats = s.stats := rfl
@[simp] theorem startLink_trace : (startLink s).trace = s.trace := rfl
@[simp] theorem startLink_params : (startLink s).params = s.params := rfl
@[simp] theorem startLink_inForce : (startLink s).inForce = s.inForce := rfl
@[simp] theorem startLink_port : (startLink s).port = s.port := rfl
@[simp] theorem startLink_mem : (startLink s).mem = s.mem := rfl
@[simp] theorem startLink_memCut : (startLink s).memCut = s.memCut := rfl
@[simp] theorem startLink_free : (startLink s).free = s.free := rfl

@[simp] theorem updateFaults_pending (g : Faults → Faults) : (updateFaults g s).pending = s.pending := rfl
@[simp] theorem updateFaults_pins (g : Faults → Faults) : (updateFaults g s).pins = s.pins := rfl
@[simp] theorem updateFaults_link (g : Faults → Faults) : (updateFaults g s).link = s.link := rfl
@[simp] theorem updateFaults_axle (g : Faults → Faults) : (updateFaults g s).axle = s.axle := rfl
@[simp] theorem updateFaults_stations (g : Faults → Faults) : (updateFaults g s).stations = s.stations := rfl
@[simp] theorem updateFaults_monitor (g : Faults → Faults) : (updateFaults g s).monitor = s.monitor := rfl
@[simp] theorem updateFaults_player (g : Faults → Faults) : (updateFaults g s).player = s.player := rfl
@[simp] theorem updateFaults_run (g : Faults → Faults) : (updateFaults g s).run = s.run := rfl
@[simp] theorem updateFaults_events (g : Faults → Faults) : (updateFaults g s).events = s.events := rfl
@[simp] theorem updateFaults_stats (g : Faults → Faults) : (updateFaults g s).stats = s.stats := rfl
@[simp] theorem updateFaults_trace (g : Faults → Faults) : (updateFaults g s).trace = s.trace := rfl
@[simp] theorem updateFaults_store (g : Faults → Faults) : (updateFaults g s).store = s.store := rfl
@[simp] theorem updateFaults_params (g : Faults → Faults) : (updateFaults g s).params = s.params := rfl
@[simp] theorem updateFaults_inForce (g : Faults → Faults) : (updateFaults g s).inForce = s.inForce := rfl
@[simp] theorem updateFaults_port (g : Faults → Faults) : (updateFaults g s).port = s.port := rfl
@[simp] theorem updateFaults_mem (g : Faults → Faults) : (updateFaults g s).mem = s.mem := rfl
@[simp] theorem updateFaults_memCut (g : Faults → Faults) : (updateFaults g s).memCut = s.memCut := rfl
@[simp] theorem updateFaults_free (g : Faults → Faults) : (updateFaults g s).free = s.free := rfl

@[simp] theorem settleValues_pending : (settleValues s).pending = s.pending := rfl
@[simp] theorem settleValues_link : (settleValues s).link = s.link := rfl
@[simp] theorem settleValues_monitor : (settleValues s).monitor = s.monitor := rfl
@[simp] theorem settleValues_player : (settleValues s).player = s.player := rfl
@[simp] theorem settleValues_faults : (settleValues s).faults = s.faults := rfl
@[simp] theorem settleValues_events : (settleValues s).events = s.events := rfl
@[simp] theorem settleValues_stats : (settleValues s).stats = s.stats := rfl
@[simp] theorem settleValues_trace : (settleValues s).trace = s.trace := rfl
@[simp] theorem settleValues_store : (settleValues s).store = s.store := rfl
@[simp] theorem settleValues_params : (settleValues s).params = s.params := rfl
@[simp] theorem settleValues_inForce : (settleValues s).inForce = s.inForce := rfl
@[simp] theorem settleValues_port : (settleValues s).port = s.port := rfl
@[simp] theorem settleValues_mem : (settleValues s).mem = s.mem := rfl
@[simp] theorem settleValues_memCut : (settleValues s).memCut = s.memCut := rfl
@[simp] theorem settleValues_free : (settleValues s).free = s.free := rfl

@[simp] theorem resetCore_pending : (resetCore s).pending = s.pending := rfl
@[simp] theorem resetCore_pins : (resetCore s).pins = s.pins := rfl
@[simp] theorem resetCore_link : (resetCore s).link = s.link := rfl
@[simp] theorem resetCore_stations : (resetCore s).stations = s.stations := rfl
@[simp] theorem resetCore_player : (resetCore s).player = s.player := rfl
@[simp] theorem resetCore_run : (resetCore s).run = s.run := rfl
@[simp] theorem resetCore_faults : (resetCore s).faults = s.faults := rfl
@[simp] theorem resetCore_events : (resetCore s).events = s.events := rfl
@[simp] theorem resetCore_stats : (resetCore s).stats = s.stats := rfl
@[simp] theorem resetCore_trace : (resetCore s).trace = s.trace := rfl
@[simp] theorem resetCore_store : (resetCore s).store = s.store := rfl
@[simp] theorem resetCore_params : (resetCore s).params = s.params := rfl
@[simp] theorem resetCore_inForce : (resetCore s).inForce = s.inForce := rfl
@[simp] theorem resetCore_port : (resetCore s).port = s.port := rfl
@[simp] theorem resetCore_mem : (resetCore s).mem = s.mem := rfl
@[simp] theorem resetCore_memCut : (resetCore s).memCut = s.memCut := rfl
@[simp] theorem resetCore_free : (resetCore s).free = s.free := rfl

@[simp] theorem resetBlocks_pending : (resetBlocks s).pending = s.pending := rfl
@[simp] theorem resetBlocks_pins : (resetBlocks s).pins = s.pins := rfl
@[simp] theorem resetBlocks_link : (resetBlocks s).link = s.link := rfl
@[simp] theorem resetBlocks_axle : (resetBlocks s).axle = s.axle := rfl
@[simp] theorem resetBlocks_stations : (resetBlocks s).stations = s.stations := rfl
@[simp] theorem resetBlocks_monitor : (resetBlocks s).monitor = s.monitor := rfl
@[simp] theorem resetBlocks_comp : (resetBlocks s).comp = s.comp := rfl
@[simp] theorem resetBlocks_store : (resetBlocks s).store = s.store := rfl
@[simp] theorem resetBlocks_params : (resetBlocks s).params = s.params := rfl
@[simp] theorem resetBlocks_inForce : (resetBlocks s).inForce = s.inForce := rfl
@[simp] theorem resetBlocks_port : (resetBlocks s).port = s.port := rfl
@[simp] theorem resetBlocks_mem : (resetBlocks s).mem = s.mem := rfl
@[simp] theorem resetBlocks_memCut : (resetBlocks s).memCut = s.memCut := rfl
@[simp] theorem resetBlocks_free : (resetBlocks s).free = s.free := rfl

@[simp] theorem formLimit_pending (k : CellBlock) : (formLimit k s).pending = s.pending := rfl
@[simp] theorem formLimit_pins (k : CellBlock) : (formLimit k s).pins = s.pins := rfl
@[simp] theorem formLimit_link (k : CellBlock) : (formLimit k s).link = s.link := rfl
@[simp] theorem formLimit_stations (k : CellBlock) : (formLimit k s).stations = s.stations := rfl
@[simp] theorem formLimit_monitor (k : CellBlock) : (formLimit k s).monitor = s.monitor := rfl
@[simp] theorem formLimit_comp (k : CellBlock) : (formLimit k s).comp = s.comp := rfl
@[simp] theorem formLimit_player (k : CellBlock) : (formLimit k s).player = s.player := rfl
@[simp] theorem formLimit_run (k : CellBlock) : (formLimit k s).run = s.run := rfl
@[simp] theorem formLimit_faults (k : CellBlock) : (formLimit k s).faults = s.faults := rfl
@[simp] theorem formLimit_events (k : CellBlock) : (formLimit k s).events = s.events := rfl
@[simp] theorem formLimit_stats (k : CellBlock) : (formLimit k s).stats = s.stats := rfl
@[simp] theorem formLimit_trace (k : CellBlock) : (formLimit k s).trace = s.trace := rfl
@[simp] theorem formLimit_store (k : CellBlock) : (formLimit k s).store = s.store := rfl
@[simp] theorem formLimit_params (k : CellBlock) : (formLimit k s).params = s.params := rfl
@[simp] theorem formLimit_inForce (k : CellBlock) : (formLimit k s).inForce = s.inForce := rfl
@[simp] theorem formLimit_port (k : CellBlock) : (formLimit k s).port = s.port := rfl
@[simp] theorem formLimit_mem (k : CellBlock) : (formLimit k s).mem = s.mem := rfl
@[simp] theorem formLimit_memCut (k : CellBlock) : (formLimit k s).memCut = s.memCut := rfl
@[simp] theorem formLimit_free (k : CellBlock) : (formLimit k s).free = s.free := rfl

@[simp] theorem setBlock_pending (n : Station) (b : Option StationBlock) : (setBlock n b s).pending = s.pending := rfl
@[simp] theorem setBlock_pins (n : Station) (b : Option StationBlock) : (setBlock n b s).pins = s.pins := rfl
@[simp] theorem setBlock_link (n : Station) (b : Option StationBlock) : (setBlock n b s).link = s.link := rfl
@[simp] theorem setBlock_axle (n : Station) (b : Option StationBlock) : (setBlock n b s).axle = s.axle := rfl
@[simp] theorem setBlock_stations (n : Station) (b : Option StationBlock) : (setBlock n b s).stations = s.stations := rfl
@[simp] theorem setBlock_monitor (n : Station) (b : Option StationBlock) : (setBlock n b s).monitor = s.monitor := rfl
@[simp] theorem setBlock_comp (n : Station) (b : Option StationBlock) : (setBlock n b s).comp = s.comp := rfl
@[simp] theorem setBlock_player (n : Station) (b : Option StationBlock) : (setBlock n b s).player = s.player := rfl
@[simp] theorem setBlock_run (n : Station) (b : Option StationBlock) : (setBlock n b s).run = s.run := rfl
@[simp] theorem setBlock_faults (n : Station) (b : Option StationBlock) : (setBlock n b s).faults = s.faults := rfl
@[simp] theorem setBlock_events (n : Station) (b : Option StationBlock) : (setBlock n b s).events = s.events := rfl
@[simp] theorem setBlock_stats (n : Station) (b : Option StationBlock) : (setBlock n b s).stats = s.stats := rfl
@[simp] theorem setBlock_trace (n : Station) (b : Option StationBlock) : (setBlock n b s).trace = s.trace := rfl
@[simp] theorem setBlock_params (n : Station) (b : Option StationBlock) : (setBlock n b s).params = s.params := rfl
@[simp] theorem setBlock_inForce (n : Station) (b : Option StationBlock) : (setBlock n b s).inForce = s.inForce := rfl
@[simp] theorem setBlock_port (n : Station) (b : Option StationBlock) : (setBlock n b s).port = s.port := rfl
@[simp] theorem setBlock_mem (n : Station) (b : Option StationBlock) : (setBlock n b s).mem = s.mem := rfl
@[simp] theorem setBlock_memCut (n : Station) (b : Option StationBlock) : (setBlock n b s).memCut = s.memCut := rfl
@[simp] theorem setBlock_free (n : Station) (b : Option StationBlock) : (setBlock n b s).free = s.free := rfl

@[simp] theorem syncStations_pending (w : Option Station) : (syncStations w s).pending = s.pending := rfl
@[simp] theorem syncStations_pins (w : Option Station) : (syncStations w s).pins = s.pins := rfl
@[simp] theorem syncStations_axle (w : Option Station) : (syncStations w s).axle = s.axle := rfl
@[simp] theorem syncStations_monitor (w : Option Station) : (syncStations w s).monitor = s.monitor := rfl
@[simp] theorem syncStations_comp (w : Option Station) : (syncStations w s).comp = s.comp := rfl
@[simp] theorem syncStations_player (w : Option Station) : (syncStations w s).player = s.player := rfl
@[simp] theorem syncStations_run (w : Option Station) : (syncStations w s).run = s.run := rfl
@[simp] theorem syncStations_faults (w : Option Station) : (syncStations w s).faults = s.faults := rfl
@[simp] theorem syncStations_events (w : Option Station) : (syncStations w s).events = s.events := rfl
@[simp] theorem syncStations_stats (w : Option Station) : (syncStations w s).stats = s.stats := rfl
@[simp] theorem syncStations_trace (w : Option Station) : (syncStations w s).trace = s.trace := rfl
@[simp] theorem syncStations_store (w : Option Station) : (syncStations w s).store = s.store := rfl
@[simp] theorem syncStations_params (w : Option Station) : (syncStations w s).params = s.params := rfl
@[simp] theorem syncStations_inForce (w : Option Station) : (syncStations w s).inForce = s.inForce := rfl
@[simp] theorem syncStations_port (w : Option Station) : (syncStations w s).port = s.port := rfl
@[simp] theorem syncStations_mem (w : Option Station) : (syncStations w s).mem = s.mem := rfl
@[simp] theorem syncStations_memCut (w : Option Station) : (syncStations w s).memCut = s.memCut := rfl
@[simp] theorem syncStations_free (w : Option Station) : (syncStations w s).free = s.free := rfl

@[simp] theorem noteLost_pending (b : Vector (Option StationRec) 8) : (noteLost b s).pending = s.pending := rfl
@[simp] theorem noteLost_pins (b : Vector (Option StationRec) 8) : (noteLost b s).pins = s.pins := rfl
@[simp] theorem noteLost_link (b : Vector (Option StationRec) 8) : (noteLost b s).link = s.link := rfl
@[simp] theorem noteLost_axle (b : Vector (Option StationRec) 8) : (noteLost b s).axle = s.axle := rfl
@[simp] theorem noteLost_stations (b : Vector (Option StationRec) 8) : (noteLost b s).stations = s.stations := rfl
@[simp] theorem noteLost_monitor (b : Vector (Option StationRec) 8) : (noteLost b s).monitor = s.monitor := rfl
@[simp] theorem noteLost_comp (b : Vector (Option StationRec) 8) : (noteLost b s).comp = s.comp := rfl
@[simp] theorem noteLost_player (b : Vector (Option StationRec) 8) : (noteLost b s).player = s.player := rfl
@[simp] theorem noteLost_run (b : Vector (Option StationRec) 8) : (noteLost b s).run = s.run := rfl
@[simp] theorem noteLost_faults (b : Vector (Option StationRec) 8) : (noteLost b s).faults = s.faults := rfl
@[simp] theorem noteLost_events (b : Vector (Option StationRec) 8) : (noteLost b s).events = s.events := rfl
@[simp] theorem noteLost_store (b : Vector (Option StationRec) 8) : (noteLost b s).store = s.store := rfl
@[simp] theorem noteLost_params (b : Vector (Option StationRec) 8) : (noteLost b s).params = s.params := rfl
@[simp] theorem noteLost_inForce (b : Vector (Option StationRec) 8) : (noteLost b s).inForce = s.inForce := rfl
@[simp] theorem noteLost_port (b : Vector (Option StationRec) 8) : (noteLost b s).port = s.port := rfl
@[simp] theorem noteLost_mem (b : Vector (Option StationRec) 8) : (noteLost b s).mem = s.mem := rfl
@[simp] theorem noteLost_memCut (b : Vector (Option StationRec) 8) : (noteLost b s).memCut = s.memCut := rfl
@[simp] theorem noteLost_free (b : Vector (Option StationRec) 8) : (noteLost b s).free = s.free := rfl

@[simp] theorem followSet_pending (w : Option Station) : (followSet w s).pending = s.pending := rfl
@[simp] theorem followSet_pins (w : Option Station) : (followSet w s).pins = s.pins := rfl
@[simp] theorem followSet_axle (w : Option Station) : (followSet w s).axle = s.axle := rfl
@[simp] theorem followSet_monitor (w : Option Station) : (followSet w s).monitor = s.monitor := rfl
@[simp] theorem followSet_comp (w : Option Station) : (followSet w s).comp = s.comp := rfl
@[simp] theorem followSet_player (w : Option Station) : (followSet w s).player = s.player := rfl
@[simp] theorem followSet_run (w : Option Station) : (followSet w s).run = s.run := rfl
@[simp] theorem followSet_faults (w : Option Station) : (followSet w s).faults = s.faults := rfl
@[simp] theorem followSet_events (w : Option Station) : (followSet w s).events = s.events := rfl
@[simp] theorem followSet_store (w : Option Station) : (followSet w s).store = s.store := rfl
@[simp] theorem followSet_params (w : Option Station) : (followSet w s).params = s.params := rfl
@[simp] theorem followSet_inForce (w : Option Station) : (followSet w s).inForce = s.inForce := rfl
@[simp] theorem followSet_port (w : Option Station) : (followSet w s).port = s.port := rfl
@[simp] theorem followSet_mem (w : Option Station) : (followSet w s).mem = s.mem := rfl
@[simp] theorem followSet_memCut (w : Option Station) : (followSet w s).memCut = s.memCut := rfl
@[simp] theorem followSet_free (w : Option Station) : (followSet w s).free = s.free := rfl

@[simp] theorem mapStations_pending (f : Station → StationRec → StationRec) : (mapStations f s).pending = s.pending := rfl
@[simp] theorem mapStations_pins (f : Station → StationRec → StationRec) : (mapStations f s).pins = s.pins := rfl
@[simp] theorem mapStations_link (f : Station → StationRec → StationRec) : (mapStations f s).link = s.link := rfl
@[simp] theorem mapStations_axle (f : Station → StationRec → StationRec) : (mapStations f s).axle = s.axle := rfl
@[simp] theorem mapStations_monitor (f : Station → StationRec → StationRec) : (mapStations f s).monitor = s.monitor := rfl
@[simp] theorem mapStations_comp (f : Station → StationRec → StationRec) : (mapStations f s).comp = s.comp := rfl
@[simp] theorem mapStations_player (f : Station → StationRec → StationRec) : (mapStations f s).player = s.player := rfl
@[simp] theorem mapStations_run (f : Station → StationRec → StationRec) : (mapStations f s).run = s.run := rfl
@[simp] theorem mapStations_faults (f : Station → StationRec → StationRec) : (mapStations f s).faults = s.faults := rfl
@[simp] theorem mapStations_events (f : Station → StationRec → StationRec) : (mapStations f s).events = s.events := rfl
@[simp] theorem mapStations_stats (f : Station → StationRec → StationRec) : (mapStations f s).stats = s.stats := rfl
@[simp] theorem mapStations_trace (f : Station → StationRec → StationRec) : (mapStations f s).trace = s.trace := rfl
@[simp] theorem mapStations_store (f : Station → StationRec → StationRec) : (mapStations f s).store = s.store := rfl
@[simp] theorem mapStations_params (f : Station → StationRec → StationRec) : (mapStations f s).params = s.params := rfl
@[simp] theorem mapStations_inForce (f : Station → StationRec → StationRec) : (mapStations f s).inForce = s.inForce := rfl
@[simp] theorem mapStations_port (f : Station → StationRec → StationRec) : (mapStations f s).port = s.port := rfl
@[simp] theorem mapStations_mem (f : Station → StationRec → StationRec) : (mapStations f s).mem = s.mem := rfl
@[simp] theorem mapStations_memCut (f : Station → StationRec → StationRec) : (mapStations f s).memCut = s.memCut := rfl
@[simp] theorem mapStations_free (f : Station → StationRec → StationRec) : (mapStations f s).free = s.free := rfl

@[simp] theorem pushReply_pending (k t : Byte) (b : Bool) (a : Answer) : (pushReply k t b a s).pending = s.pending := rfl
@[simp] theorem pushReply_pins (k t : Byte) (b : Bool) (a : Answer) : (pushReply k t b a s).pins = s.pins := rfl
@[simp] theorem pushReply_link (k t : Byte) (b : Bool) (a : Answer) : (pushReply k t b a s).link = s.link := rfl
@[simp] theorem pushReply_axle (k t : Byte) (b : Bool) (a : Answer) : (pushReply k t b a s).axle = s.axle := rfl
@[simp] theorem pushReply_stations (k t : Byte) (b : Bool) (a : Answer) : (pushReply k t b a s).stations = s.stations := rfl
@[simp] theorem pushReply_monitor (k t : Byte) (b : Bool) (a : Answer) : (pushReply k t b a s).monitor = s.monitor := rfl
@[simp] theorem pushReply_comp (k t : Byte) (b : Bool) (a : Answer) : (pushReply k t b a s).comp = s.comp := rfl
@[simp] theorem pushReply_player (k t : Byte) (b : Bool) (a : Answer) : (pushReply k t b a s).player = s.player := rfl
@[simp] theorem pushReply_run (k t : Byte) (b : Bool) (a : Answer) : (pushReply k t b a s).run = s.run := rfl
@[simp] theorem pushReply_faults (k t : Byte) (b : Bool) (a : Answer) : (pushReply k t b a s).faults = s.faults := rfl
@[simp] theorem pushReply_events (k t : Byte) (b : Bool) (a : Answer) : (pushReply k t b a s).events = s.events := rfl
@[simp] theorem pushReply_stats (k t : Byte) (b : Bool) (a : Answer) : (pushReply k t b a s).stats = s.stats := rfl
@[simp] theorem pushReply_trace (k t : Byte) (b : Bool) (a : Answer) : (pushReply k t b a s).trace = s.trace := rfl
@[simp] theorem pushReply_store (k t : Byte) (b : Bool) (a : Answer) : (pushReply k t b a s).store = s.store := rfl
@[simp] theorem pushReply_params (k t : Byte) (b : Bool) (a : Answer) : (pushReply k t b a s).params = s.params := rfl
@[simp] theorem pushReply_inForce (k t : Byte) (b : Bool) (a : Answer) : (pushReply k t b a s).inForce = s.inForce := rfl
@[simp] theorem pushReply_mem (k t : Byte) (b : Bool) (a : Answer) : (pushReply k t b a s).mem = s.mem := rfl
@[simp] theorem pushReply_memCut (k t : Byte) (b : Bool) (a : Answer) : (pushReply k t b a s).memCut = s.memCut := rfl
@[simp] theorem pushReply_free (k t : Byte) (b : Bool) (a : Answer) : (pushReply k t b a s).free = s.free := rfl

@[simp] theorem formReply_pending (q : Queued) (a : Answer) : (formReply q a s).pending = s.pending := rfl
@[simp] theorem formReply_pins (q : Queued) (a : Answer) : (formReply q a s).pins = s.pins := rfl
@[simp] theorem formReply_link (q : Queued) (a : Answer) : (formReply q a s).link = s.link := rfl
@[simp] theorem formReply_axle (q : Queued) (a : Answer) : (formReply q a s).axle = s.axle := rfl
@[simp] theorem formReply_stations (q : Queued) (a : Answer) : (formReply q a s).stations = s.stations := rfl
@[simp] theorem formReply_monitor (q : Queued) (a : Answer) : (formReply q a s).monitor = s.monitor := rfl
@[simp] theorem formReply_comp (q : Queued) (a : Answer) : (formReply q a s).comp = s.comp := rfl
@[simp] theorem formReply_player (q : Queued) (a : Answer) : (formReply q a s).player = s.player := rfl
@[simp] theorem formReply_run (q : Queued) (a : Answer) : (formReply q a s).run = s.run := rfl
@[simp] theorem formReply_faults (q : Queued) (a : Answer) : (formReply q a s).faults = s.faults := rfl
@[simp] theorem formReply_events (q : Queued) (a : Answer) : (formReply q a s).events = s.events := rfl
@[simp] theorem formReply_stats (q : Queued) (a : Answer) : (formReply q a s).stats = s.stats := rfl
@[simp] theorem formReply_trace (q : Queued) (a : Answer) : (formReply q a s).trace = s.trace := rfl
@[simp] theorem formReply_store (q : Queued) (a : Answer) : (formReply q a s).store = s.store := rfl
@[simp] theorem formReply_params (q : Queued) (a : Answer) : (formReply q a s).params = s.params := rfl
@[simp] theorem formReply_inForce (q : Queued) (a : Answer) : (formReply q a s).inForce = s.inForce := rfl
@[simp] theorem formReply_mem (q : Queued) (a : Answer) : (formReply q a s).mem = s.mem := rfl
@[simp] theorem formReply_memCut (q : Queued) (a : Answer) : (formReply q a s).memCut = s.memCut := rfl
@[simp] theorem formReply_free (q : Queued) (a : Answer) : (formReply q a s).free = s.free := rfl

@[simp] theorem discardRecord_pending : (discardRecord s).pending = s.pending := rfl
@[simp] theorem discardRecord_pins : (discardRecord s).pins = s.pins := rfl
@[simp] theorem discardRecord_link : (discardRecord s).link = s.link := rfl
@[simp] theorem discardRecord_axle : (discardRecord s).axle = s.axle := rfl
@[simp] theorem discardRecord_stations : (discardRecord s).stations = s.stations := rfl
@[simp] theorem discardRecord_monitor : (discardRecord s).monitor = s.monitor := rfl
@[simp] theorem discardRecord_comp : (discardRecord s).comp = s.comp := rfl
@[simp] theorem discardRecord_player : (discardRecord s).player = s.player := rfl
@[simp] theorem discardRecord_run : (discardRecord s).run = s.run := rfl
@[simp] theorem discardRecord_faults : (discardRecord s).faults = s.faults := rfl
@[simp] theorem discardRecord_events : (discardRecord s).events = s.events := rfl
@[simp] theorem discardRecord_stats : (discardRecord s).stats = s.stats := rfl
@[simp] theorem discardRecord_trace : (discardRecord s).trace = s.trace := rfl
@[simp] theorem discardRecord_store : (discardRecord s).store = s.store := rfl
@[simp] theorem discardRecord_params : (discardRecord s).params = s.params := rfl
@[simp] theorem discardRecord_inForce : (discardRecord s).inForce = s.inForce := rfl
@[simp] theorem discardRecord_mem : (discardRecord s).mem = s.mem := rfl
@[simp] theorem discardRecord_memCut : (discardRecord s).memCut = s.memCut := rfl
@[simp] theorem discardRecord_free : (discardRecord s).free = s.free := rfl

@[simp] theorem publish_pending : (publish s).pending = s.pending := rfl
@[simp] theorem publish_pins : (publish s).pins = s.pins := rfl
@[simp] theorem publish_link : (publish s).link = s.link := rfl
@[simp] theorem publish_axle : (publish s).axle = s.axle := rfl
@[simp] theorem publish_stations : (publish s).stations = s.stations := rfl
@[simp] theorem publish_monitor : (publish s).monitor = s.monitor := rfl
@[simp] theorem publish_comp : (publish s).comp = s.comp := rfl
@[simp] theorem publish_player : (publish s).player = s.player := rfl
@[simp] theorem publish_run : (publish s).run = s.run := rfl
@[simp] theorem publish_faults : (publish s).faults = s.faults := rfl
@[simp] theorem publish_events : (publish s).events = s.events := rfl
@[simp] theorem publish_trace : (publish s).trace = s.trace := rfl
@[simp] theorem publish_store : (publish s).store = s.store := rfl
@[simp] theorem publish_params : (publish s).params = s.params := rfl
@[simp] theorem publish_inForce : (publish s).inForce = s.inForce := rfl
@[simp] theorem publish_port : (publish s).port = s.port := rfl
@[simp] theorem publish_mem : (publish s).mem = s.mem := rfl
@[simp] theorem publish_memCut : (publish s).memCut = s.memCut := rfl
@[simp] theorem publish_free : (publish s).free = s.free := rfl

@[simp] theorem takeSnapshot_pending (i : Fin 16) : (takeSnapshot i s).pending = s.pending := rfl
@[simp] theorem takeSnapshot_pins (i : Fin 16) : (takeSnapshot i s).pins = s.pins := rfl
@[simp] theorem takeSnapshot_link (i : Fin 16) : (takeSnapshot i s).link = s.link := rfl
@[simp] theorem takeSnapshot_axle (i : Fin 16) : (takeSnapshot i s).axle = s.axle := rfl
@[simp] theorem takeSnapshot_stations (i : Fin 16) : (takeSnapshot i s).stations = s.stations := rfl
@[simp] theorem takeSnapshot_monitor (i : Fin 16) : (takeSnapshot i s).monitor = s.monitor := rfl
@[simp] theorem takeSnapshot_comp (i : Fin 16) : (takeSnapshot i s).comp = s.comp := rfl
@[simp] theorem takeSnapshot_player (i : Fin 16) : (takeSnapshot i s).player = s.player := rfl
@[simp] theorem takeSnapshot_run (i : Fin 16) : (takeSnapshot i s).run = s.run := rfl
@[simp] theorem takeSnapshot_faults (i : Fin 16) : (takeSnapshot i s).faults = s.faults := rfl
@[simp] theorem takeSnapshot_events (i : Fin 16) : (takeSnapshot i s).events = s.events := rfl
@[simp] theorem takeSnapshot_trace (i : Fin 16) : (takeSnapshot i s).trace = s.trace := rfl
@[simp] theorem takeSnapshot_store (i : Fin 16) : (takeSnapshot i s).store = s.store := rfl
@[simp] theorem takeSnapshot_params (i : Fin 16) : (takeSnapshot i s).params = s.params := rfl
@[simp] theorem takeSnapshot_inForce (i : Fin 16) : (takeSnapshot i s).inForce = s.inForce := rfl
@[simp] theorem takeSnapshot_port (i : Fin 16) : (takeSnapshot i s).port = s.port := rfl
@[simp] theorem takeSnapshot_mem (i : Fin 16) : (takeSnapshot i s).mem = s.mem := rfl
@[simp] theorem takeSnapshot_memCut (i : Fin 16) : (takeSnapshot i s).memCut = s.memCut := rfl
@[simp] theorem takeSnapshot_free (i : Fin 16) : (takeSnapshot i s).free = s.free := rfl

@[simp] theorem watchSlot_pending (n : Station) (a b : Option LaneOutcome) : (watchSlot n a b s).pending = s.pending := rfl
@[simp] theorem watchSlot_pins (n : Station) (a b : Option LaneOutcome) : (watchSlot n a b s).pins = s.pins := rfl
@[simp] theorem watchSlot_link (n : Station) (a b : Option LaneOutcome) : (watchSlot n a b s).link = s.link := rfl
@[simp] theorem watchSlot_axle (n : Station) (a b : Option LaneOutcome) : (watchSlot n a b s).axle = s.axle := rfl
@[simp] theorem watchSlot_stations (n : Station) (a b : Option LaneOutcome) : (watchSlot n a b s).stations = s.stations := rfl
@[simp] theorem watchSlot_monitor (n : Station) (a b : Option LaneOutcome) : (watchSlot n a b s).monitor = s.monitor := rfl
@[simp] theorem watchSlot_comp (n : Station) (a b : Option LaneOutcome) : (watchSlot n a b s).comp = s.comp := rfl
@[simp] theorem watchSlot_player (n : Station) (a b : Option LaneOutcome) : (watchSlot n a b s).player = s.player := rfl
@[simp] theorem watchSlot_run (n : Station) (a b : Option LaneOutcome) : (watchSlot n a b s).run = s.run := rfl
@[simp] theorem watchSlot_faults (n : Station) (a b : Option LaneOutcome) : (watchSlot n a b s).faults = s.faults := rfl
@[simp] theorem watchSlot_events (n : Station) (a b : Option LaneOutcome) : (watchSlot n a b s).events = s.events := rfl
@[simp] theorem watchSlot_trace (n : Station) (a b : Option LaneOutcome) : (watchSlot n a b s).trace = s.trace := rfl
@[simp] theorem watchSlot_store (n : Station) (a b : Option LaneOutcome) : (watchSlot n a b s).store = s.store := rfl
@[simp] theorem watchSlot_params (n : Station) (a b : Option LaneOutcome) : (watchSlot n a b s).params = s.params := rfl
@[simp] theorem watchSlot_inForce (n : Station) (a b : Option LaneOutcome) : (watchSlot n a b s).inForce = s.inForce := rfl
@[simp] theorem watchSlot_port (n : Station) (a b : Option LaneOutcome) : (watchSlot n a b s).port = s.port := rfl
@[simp] theorem watchSlot_mem (n : Station) (a b : Option LaneOutcome) : (watchSlot n a b s).mem = s.mem := rfl
@[simp] theorem watchSlot_memCut (n : Station) (a b : Option LaneOutcome) : (watchSlot n a b s).memCut = s.memCut := rfl
@[simp] theorem watchSlot_free (n : Station) (a b : Option LaneOutcome) : (watchSlot n a b s).free = s.free := rfl

@[simp] theorem openCycle_pending : (openCycle s).pending = s.pending := rfl
@[simp] theorem openCycle_pins : (openCycle s).pins = s.pins := rfl
@[simp] theorem openCycle_axle : (openCycle s).axle = s.axle := rfl
@[simp] theorem openCycle_stations : (openCycle s).stations = s.stations := rfl
@[simp] theorem openCycle_monitor : (openCycle s).monitor = s.monitor := rfl
@[simp] theorem openCycle_comp : (openCycle s).comp = s.comp := rfl
@[simp] theorem openCycle_player : (openCycle s).player = s.player := rfl
@[simp] theorem openCycle_run : (openCycle s).run = s.run := rfl
@[simp] theorem openCycle_faults : (openCycle s).faults = s.faults := rfl
@[simp] theorem openCycle_events : (openCycle s).events = s.events := rfl
@[simp] theorem openCycle_stats : (openCycle s).stats = s.stats := rfl
@[simp] theorem openCycle_trace : (openCycle s).trace = s.trace := rfl
@[simp] theorem openCycle_store : (openCycle s).store = s.store := rfl
@[simp] theorem openCycle_params : (openCycle s).params = s.params := rfl
@[simp] theorem openCycle_inForce : (openCycle s).inForce = s.inForce := rfl
@[simp] theorem openCycle_port : (openCycle s).port = s.port := rfl
@[simp] theorem openCycle_mem : (openCycle s).mem = s.mem := rfl
@[simp] theorem openCycle_memCut : (openCycle s).memCut = s.memCut := rfl
@[simp] theorem openCycle_free : (openCycle s).free = s.free := rfl

@[simp] theorem setStation_stations (n : Station) (r : StationRec) :
    (setStation n r s).stations = s.stations.set n (some r) := rfl
@[simp] theorem updateSeen_comp (n : Station) (f : StationRec → StationRec) : (updateSeen n f s).comp =
    s.comp.map fun k => { k with recordsBefore := k.recordsBefore.set n (k.recordsBefore[n].map f) } := rfl
@[simp] theorem setLinkStation_st (n : Station) (x : LinkStation) : (setLinkStation n x s).link.st = s.link.st.set n x := rfl
@[simp] theorem setEntry_entries (i : Fin 16) (e : Option EventEntry) :
    (setEntry i e s).events.entries = s.events.entries.set i e := rfl
@[simp] theorem handMark_markPending : (handMark s).events.markPending = true := rfl
@[simp] theorem updateFaults_faults (g : Faults → Faults) : (updateFaults g s).faults = g s.faults := rfl
@[simp] theorem settleValues_op : (settleValues s).run.op = .settle := rfl
@[simp] theorem settleValues_v : (settleValues s).axle.v = 0 := rfl
@[simp] theorem settleValues_driveEnable : (settleValues s).pins.driveEnable = false := rfl
@[simp] theorem settleValues_stations : (settleValues s).stations = missCleared s.stations := rfl
@[simp] theorem settleValues_comp : (settleValues s).comp =
    s.comp.map fun k => { k with recordsBefore := missCleared k.recordsBefore } := rfl
@[simp] theorem startLink_running : (startLink s).link.running = true := rfl
@[simp] theorem startLink_locked : (startLink s).store.locked = true := rfl
@[simp] theorem resetBlocks_op : (resetBlocks s).run.op = s.run.op := rfl
@[simp] theorem resetBlocks_entries : (resetBlocks s).faults.entries = s.faults.entries := rfl
@[simp] theorem resetCore_v : (resetCore s).axle.v = 0 := rfl
@[simp] theorem resetCore_vLimit : (resetCore s).axle.vLimit = s.axle.vLimit := rfl
@[simp] theorem followSet_stations (w : Option Station) : (followSet w s).stations = (syncStations w s).stations := rfl
@[simp] theorem followSet_link (w : Option Station) : (followSet w s).link = (syncStations w s).link := rfl
@[simp] theorem noteLost_snap (b : Vector (Option StationRec) 8) : (noteLost b s).stats.snap = s.stats.snap := rfl
@[simp] theorem noteLost_records (b : Vector (Option StationRec) 8) : (noteLost b s).trace.records = s.trace.records := rfl
@[simp] theorem fullReset_op (a : ResetReason) (b c : Bool) (k : Nat) (m : Memory × Bool) :
    (fullReset a b c k m s).run.op = .loading := rfl
@[simp] theorem fullReset_mem (a : ResetReason) (b c : Bool) (k : Nat) (m : Memory × Bool) :
    (fullReset a b c k m s).mem = m.1 := rfl
@[simp] theorem fullReset_pending (a : ResetReason) (b c : Bool) (k : Nat) (m : Memory × Bool) :
    (fullReset a b c k m s).pending = s.pending := rfl

end Sys2Proof.Machine
end

