-- ==== Sys2Proof/Laws/Memory.lean ====
section
/-! SUPPORT. The commissioning memory: a read after a write, and the canonical form kept by every operation over it. -/

namespace Sys2Proof.Machine

/-- A form that holds from a higher bound holds from a lower one. -/
theorem memWfFrom_mono {m : Memory} {lo lo' : Nat} (h : lo' ≤ lo) (hw : memWfFrom lo m = true) : memWfFrom lo' m = true := by
  cases m with
  | nil => rfl
  | cons p rest =>
    obtain ⟨a, b⟩ := p
    simp only [memWfFrom, Bool.and_eq_true, decide_eq_true_eq, bne_iff_ne, ne_eq] at hw ⊢
    exact ⟨⟨⟨by omega, hw.1.1.2⟩, hw.1.2⟩, hw.2⟩

/-- A write below 8,192 keeps the canonical form above any bound the address respects. -/
theorem memWrite_wfFrom {m : Memory} {lo a : Nat} {b : Byte} (ha : lo ≤ a) (h8 : a < 8192) (hw : memWfFrom lo m = true) :
    memWfFrom lo (memWrite m a b) = true := by
  induction m generalizing lo with
  | nil =>
    by_cases hb : b = blankByte
    · simp [memWrite, hb, memWfFrom]
    · simp [memWrite, hb, memWfFrom, ha, h8]
  | cons p rest ih =>
    obtain ⟨x, y⟩ := p
    simp only [memWfFrom, Bool.and_eq_true, decide_eq_true_eq, bne_iff_ne, ne_eq] at hw
    obtain ⟨⟨⟨hx, hx8⟩, hy⟩, hr⟩ := hw
    by_cases h1 : a < x
    · by_cases hb : b = blankByte
      · simp [memWrite, h1, hb, memWfFrom, hx, hx8, hy, hr]
      · have : a + 1 ≤ x := h1
        simp [memWrite, h1, hb, memWfFrom, ha, h8, hx8, hy, hr, this]
    · by_cases h2 : a = x
      · subst h2
        by_cases hb : b = blankByte
        · simp only [memWrite, hb, lt_irrefl, ↓reduceIte]
          exact memWfFrom_mono (by omega) hr
        · simp [memWrite, hb, memWfFrom, hx, hx8, hr]
      · have hxa : x + 1 ≤ a := by omega
        simp [memWrite, h1, h2, memWfFrom, hx, hx8, hy, ih hxa hr]

/-- A write below 8,192 keeps the canonical form. -/
theorem memWrite_wf {m : Memory} {a : Nat} {b : Byte} (h8 : a < 8192) (hw : Memory.wf m = true) :
    Memory.wf (memWrite m a b) = true := memWrite_wfFrom (Nat.zero_le _) h8 hw

/-- Writes below 8,192 keep the canonical form. -/
theorem memWrites_wf {w : List (Nat × Byte)} {m : Memory} (h : ∀ p ∈ w, p.1 < 8192) (hw : Memory.wf m = true) :
    Memory.wf (memWrites m w) = true := by
  induction w generalizing m with
  | nil => exact hw
  | cons p rest ih =>
    have h1 := memWrite_wf (b := p.2) (h p (by simp)) hw
    exact ih (fun q hq => h q (by simp [hq])) h1

/-- The memory at reset has the canonical form. -/
theorem reset_mem_wf : Memory.wf State.reset.mem = true := rfl

/-- An address below every entry reads as the blank byte. -/
theorem memRead_below {m : Memory} {lo a : Nat} (h : a < lo) (hw : memWfFrom lo m = true) : memRead m a = blankByte := by
  induction m generalizing lo with
  | nil => rfl
  | cons p rest ih =>
    obtain ⟨x, y⟩ := p
    simp only [memWfFrom, Bool.and_eq_true, decide_eq_true_eq] at hw
    have hx : lo ≤ x := hw.1.1.1
    have : a ≠ x := by omega
    simp only [memRead, this, ↓reduceIte]
    exact ih (lo := x + 1) (by omega) hw.2

/-- A read after a write: the byte written at its address, every other byte as before. -/
theorem memRead_memWrite {m : Memory} {lo a x : Nat} {b : Byte} (hw : memWfFrom lo m = true) :
    memRead (memWrite m a b) x = if x = a then b else memRead m x := by
  induction m generalizing lo with
  | nil =>
    by_cases hb : b = blankByte <;> by_cases hx : x = a <;> simp [memWrite, memRead, hb, hx]
  | cons p rest ih =>
    obtain ⟨y, z⟩ := p
    simp only [memWfFrom, Bool.and_eq_true, decide_eq_true_eq] at hw
    have hrest := hw.2
    by_cases h1 : a < y
    · by_cases hb : b = blankByte
      · by_cases hx : x = a
        · subst hx
          have hne : x ≠ y := by omega
          have h0 : memRead rest x = blankByte := memRead_below (Nat.lt_succ_of_lt h1) hrest
          simp [memWrite, h1, hb, memRead, hne, h0]
        · simp [memWrite, h1, hb, hx]
      · by_cases hx : x = a <;> simp [memWrite, h1, hb, memRead, hx]
    · by_cases h2 : a = y
      · subst h2
        by_cases hb : b = blankByte
        · by_cases hx : x = a
          · subst hx
            have h0 : memRead rest x = blankByte := memRead_below (Nat.lt_succ_self x) hrest
            simp [memWrite, hb, h0]
          · simp [memWrite, hb, memRead, hx]
        · by_cases hx : x = a <;> simp [memWrite, hb, memRead, hx]
      · by_cases hx : x = y
        · subst hx
          have : x ≠ a := fun h => h2 h.symm
          simp [memWrite, h1, h2, memRead, this]
        · simp only [memWrite, h1, h2, ↓reduceIte, memRead, hx]
          exact ih hrest

/-- The addresses of placed bytes. -/
theorem placed_lt {off bound : Nat} {b : List Byte} (h : off + b.length ≤ bound) : ∀ p ∈ placed off b, p.1 < bound := by
  induction b generalizing off with
  | nil => simp [placed]
  | cons x rest ih =>
    intro p hp
    simp only [placed, List.mem_cons] at hp
    simp only [List.length_cons] at h
    rcases hp with rfl | hp
    · simp; omega
    · exact ih (by omega) p hp

end Sys2Proof.Machine
end

