-- ==== Sys2Proof/Laws/Ops.lean ====
section
/-! SUPPORT. One lemma for each shared operation that says once what it can do, and an induction rule for each operation that
goes through the stations, the counters or the event entries. -/

namespace Sys2Proof.Machine

/-! ### Reports -/

/-- A report submitted: nothing changes, or it joins a queue of fewer than 32 with the lost count it takes, or a full queue
counts it as lost (R203). -/
theorem submit_cases (b : ReportBody) (s : State) :
    (s.params.reportLevel < b.level ∧ submit b s = s) ∨
    (b.level ≤ s.params.reportLevel ∧ s.port.reports.length < 32 ∧
      submit b s = { s with port := { s.port with
        reports := s.port.reports ++ [⟨s.port.lost, s.run.count, s.run.op, b⟩], lost := 0 } }) ∨
    (b.level ≤ s.params.reportLevel ∧ 32 ≤ s.port.reports.length ∧
      submit b s = { s with port := { s.port with lost := satAdd 255 s.port.lost 1 } }) := by
  unfold submit
  split
  · exact .inl ⟨‹_›, rfl⟩
  · split
    · exact .inr (.inl ⟨by omega, ‹_›, rfl⟩)
    · exact .inr (.inr ⟨by omega, by omega, rfl⟩)

/-- A report changes the report queue and the lost count alone. -/
theorem submit_port (b : ReportBody) (s : State) :
    ∃ q l, submit b s = { s with port := { s.port with reports := q, lost := l } } := by
  rcases submit_cases b s with ⟨_, h⟩ | ⟨_, _, h⟩ | ⟨_, _, h⟩
  · exact ⟨s.port.reports, s.port.lost, by rw [h]⟩
  · exact ⟨_, _, h⟩
  · exact ⟨s.port.reports, _, by rw [h]⟩

/-- A report leaves every field of State but the port. -/
theorem submit_frame (b : ReportBody) (s : State) : { submit b s with port := s.port } = s := by
  obtain ⟨q, l, h⟩ := submit_port b s
  rw [h]

/-- A STATE report is a report. -/
theorem submitState_eq (prev : OpState) (c : StateCause) (k : Option FaultKind) (x : Bool) (s : State) :
    submitState prev c k x s = submit (.state prev s.run.op c k s.run.tag s.run.mode s.run.orderly x) s := rfl

/-! ### The transmitter and the outcome -/

/-- Every meaning answers with the transmitter's choice made. -/
theorem done_eq (s : State) : done s = .next (pumpTx s) := rfl

/-- The transmitter's choice changes the transmitter and the report queue alone (R205). -/
theorem pumpTx_port (s : State) : ∃ x q, pumpTx s = { s with port := { s.port with tx := x, reports := q } } := by
  unfold pumpTx
  split
  · exact ⟨s.port.tx, s.port.reports, rfl⟩
  · split
    · exact ⟨s.port.tx, s.port.reports, rfl⟩
    · split
      · split
        · exact ⟨.reply, s.port.reports, rfl⟩
        · exact ⟨_, _, rfl⟩
        · exact ⟨s.port.tx, s.port.reports, rfl⟩
      · exact ⟨s.port.tx, s.port.reports, rfl⟩
      · exact ⟨s.port.tx, s.port.reports, rfl⟩

/-- The transmitter's choice leaves every field of State but the port. -/
theorem pumpTx_frame (s : State) : { pumpTx s with port := s.port } = s := by
  obtain ⟨x, q, h⟩ := pumpTx_port s
  rw [h]

/-- The transmitter that is sending keeps sending. -/
theorem pumpTx_busy (s : State) (h : s.port.tx ≠ .idle) : pumpTx s = s := by
  unfold pumpTx
  split
  · rfl
  · split
    · rfl
    · split
      · contradiction
      · rfl
      · rfl

/-! ### Induction through the stations, the counters and the entries -/

/-- What f keeps for every station record, eachStation keeps. -/
theorem eachStation_induct {P : State → Prop} {f : Station → StationRec → State → State} {s : State} (h0 : P s)
    (hf : ∀ n r t, t.stations[n] = some r → P t → P (f n r t)) : P (eachStation f s) := by
  unfold eachStation
  generalize stationList = l
  induction l generalizing s with
  | nil => exact h0
  | cons n rest ih =>
    simp only [List.foldl_cons]
    apply ih
    split
    · exact hf n _ s ‹_› h0
    · exact h0

/-- What a firing keeps, fireAll keeps. -/
theorem fireAll_induct {P : State → Prop} {test : EventEntry → Option EventEntry} {s : State} (h0 : P s)
    (hf : ∀ i e t, P t → P (fire i e t)) : P (fireAll test s) := by
  unfold fireAll
  generalize entryList = l
  induction l generalizing s with
  | nil => exact h0
  | cons i rest ih =>
    simp only [List.foldl_cons]
    apply ih
    split
    · exact hf i _ s h0
    · exact h0

/-- What an addition keeps, the slot counts keep. -/
theorem countSlot_induct {P : State → Prop} {n : Station} {a b : Option LaneOutcome} {s : State} (h0 : P s)
    (hf : ∀ k m t, P t → P (addCount k m t)) : P (countSlot n a b s) := by
  unfold countSlot
  generalize counterList = l
  induction l generalizing s with
  | nil => exact h0
  | cons k rest ih =>
    simp only [List.foldl_cons]
    apply ih
    split
    · exact hf k _ s h0
    · exact h0

/-- What an addition keeps, the lock counts keep. -/
theorem countLocks_induct {P : State → Prop} {s : State} (h0 : P s) (hf : ∀ k m t, P t → P (addCount k m t)) :
    P (countLocks s) := by
  unfold countLocks
  generalize counterList = l
  induction l generalizing s with
  | nil => exact h0
  | cons k rest ih =>
    simp only [List.foldl_cons]
    apply ih
    split
    · exact hf k _ s h0
    · exact h0

/-- What a report and a raise keep, the events of a judging keep. -/
theorem applyJudging_induct {P : State → Prop} {n : Station} {j : Judging} {s : State} (h0 : P (setStation n j.r s))
    (hf : ∀ e t, P t → P (stationEvent n e t)) : P (applyJudging n j s) := by
  unfold applyJudging
  generalize j.events = l
  generalize setStation n j.r s = t at h0 ⊢
  induction l generalizing t with
  | nil => exact h0
  | cons e rest ih =>
    simp only [List.foldl_cons]
    exact ih _ (hf e _ h0)

/-! ### Faults -/

/-- A raise of level 3 or 4 is recorded and decided and submits its report, nothing else (R139, R141). -/
theorem raiseFault_low (f : Raise) (s : State) (h : 3 ≤ f.kind.level) :
    ∃ q l, raiseFault f s = { updateFaults (Faults.take f s.run.count s.run.op) s with
      port := { s.port with reports := q, lost := l } } := by
  have hr : ∀ t, react f.kind t = t := by
    intro t
    unfold react
    split <;> first | rfl | omega
  unfold raiseFault
  simp only [hr, ite_self]
  obtain ⟨q, l, hs⟩ := submit_port _ (updateFaults (Faults.take f s.run.count s.run.op) s)
  exact ⟨q, l, by rw [hs]; rfl⟩

/-- The faults of the stations have level 3. -/
theorem stationCause_level (c : StationCause) : c.kind.level = 3 := by cases c <;> rfl

/-- A level-1 fault is always accepted (R140). -/
theorem accepts_one (r : Reaction) : r.accepts 1 = true := by cases r <;> rfl

/-! ### Entries and stops -/

/-- Entry to STOPPING acts in RUN alone (R126). -/
theorem enterStopping_outside (c : StopCause) (k : Option FaultKind) (s : State) (h : s.run.op ≠ .run) :
    enterStopping c k s = s := by
  simp [enterStopping, h]

/-- The ESTOP check does nothing with the line released (R131). -/
theorem checkEstop_released (s : State) (h : s.pins.estop = false) : checkEstop s = s := by simp [checkEstop, h]

/-- SAFE entered with no computation in progress, or in one that began outside a run, replaces no result (R29). -/
theorem voidComputation_outside (s : State) (h : ∀ c, s.comp = some c → c.began.inRun = false) : voidComputation s = s := by
  unfold voidComputation
  split
  · rfl
  · rename_i c hc
    simp [h c hc]

/-- SAFE entered within a computation of a run marks it void and takes its advance back, nothing else (R29). -/
theorem voidComputation_inRun (s : State) (c : Computation) (hc : s.comp = some c) (h : c.began.inRun = true) :
    voidComputation s = { s with
      comp := some { c with void := true }
      axle := { s.axle with whole := c.axleBefore.whole, frac := c.axleBefore.frac, adv := 0 } } := by
  simp [voidComputation, hc, h]

/-! ### Vectors of eight -/

/-- An element of a mapped vector of eight. -/
@[simp] theorem mapEight_get {α β : Type} (f : α → β) (v : Vector α 8) (n : Station) : (mapEight f v)[n] = f v[n] := by
  match n with | 0 => rfl | 1 => rfl | 2 => rfl | 3 => rfl | 4 => rfl | 5 => rfl | 6 => rfl | 7 => rfl

/-- An element of a vector of eight given by a function. -/
@[simp] theorem ofEight_get {α : Type} (f : Station → α) (n : Station) : (ofEight f)[n] = f n := by
  match n with | 0 => rfl | 1 => rfl | 2 => rfl | 3 => rfl | 4 => rfl | 5 => rfl | 6 => rfl | 7 => rfl

/-- An entry to SETTLE clears each miss streak and nothing else of a record (R80). -/
@[simp] theorem missCleared_get (v : Vector (Option StationRec) 8) (n : Station) :
    (missCleared v)[n] = v[n].map fun r => { r with miss := 0 } := mapEight_get _ v n

/-! ### RUN and STOPPING treat a station alike -/

/-- The fault command is the same in RUN and STOPPING (R72). -/
theorem faultCommandOf_inRun (op : OpState) (c : Option StationCause) (h : op.inRun = true) :
    faultCommandOf op c = faultCommandOf .run c := by
  cases op <;> first | rfl | cases h

/-- A miss counts alike in RUN and STOPPING (R55). -/
theorem countsMiss_inRun (op : OpState) (r : StationRec) (h : op.inRun = true) : r.countsMiss op = r.countsMiss .run := by
  cases op <;> first | rfl | cases h

/-- A station fault is the same in RUN and STOPPING (R71). -/
theorem fault_inRun (j : Judging) (n : Station) (op : OpState) (c : StationCause) (h : op.inRun = true) :
    j.fault n op c = j.fault n .run c := by
  simp only [Judging.fault, StationRec.toFaulted, faultCommandOf_inRun op _ h]

/-- RUN and STOPPING judge alike (R49, R55, R71). -/
theorem judge_inRun (n : Station) (p : Params) (op : OpState) (now : Word32) (obs : Observation) (r : StationRec)
    (h : op.inRun = true) : judge n p op now obs r = judge n p .run now obs r := by
  simp only [judge, Judging.observe, Judging.missed, Judging.accept, Judging.formError, Judging.tripped, Judging.captureStep,
    Judging.slipStep, countsMiss_inRun op _ h, fault_inRun _ n op _ h]

/-- RUN and STOPPING assemble alike (R61, R72). -/
theorem assemble_inRun (r : StationRec) (p : Params) (op : OpState) (x : Int) (h : op.inRun = true) :
    r.assemble p op x = r.assemble p .run x := by
  simp only [StationRec.assemble, faultCommandOf_inRun op _ h]

/-! ### Completion -/

/-- Outside a run a completion plays nothing and checks no band (R98, R110). -/
theorem playAndCheck_outside (s : State) (h : s.run.op.inRun = false) : playAndCheck s = s := by simp [playAndCheck, h]

/-- A void computation tests no event entry (log 24). -/
theorem completionTests_void (k : Computation) (s : State) (h : k.void = true) : completionTests k s = s := by
  simp [completionTests, h]

end Sys2Proof.Machine
end

