-- ==== Sys2Proof/Laws/Port.lean ====
section
/-! SUPPORT. What a request does to a free port, and what one does to a busy port. -/

namespace Sys2Proof.Machine

/-- The state in which a request that meets a free port is taken: its record alone is queued. -/
def State.taking (s : State) (q : Queued) : State :=
  { s with port := { s.port with receiving := false, requests := [q] } }

/-- A request that meets a free port is put into service at once (R199, R200). -/
theorem received_free (s : State) (q : Queued) (h : s.portFree) : received q s = serveFront (s.taking q) := by
  obtain ⟨h1, h2, h3, h4, h5⟩ := h
  simp [received, arrive, State.taking, h1, h5]

/-- What the port does with the request in service, by the block's answer (R200, R201). -/
theorem serveFront_taking (s : State) (q : Queued) (h : s.portFree) :
    serveFront (s.taking q) = (match takeRequest q.req (s.taking q) with
      | (t, some a) => formReply q a t
      | (t, none) => { t with port := { t.port with serving := true } }) := by
  obtain ⟨h1, h2, h3, h4, h5⟩ := h
  simp [serveFront, State.taking, Port.canServe, h2, h3, h4, h5] <;> rfl

/-- A request row that meets a free port, the block answering at once. -/
theorem request_served (s t : State) (kind tag : Byte) (r : Request) (a : Answer) (h : s.portFree)
    (ht : takeRequest r (s.taking ⟨kind, tag, r⟩) = (t, some a)) :
    request kind tag r s = done (formReply ⟨kind, tag, r⟩ a t) := by
  simp only [request, received_free s _ h, serveFront_taking s _ h, ht]

/-- Outside LOADING a request of a known kind and length reaches its block (R200). -/
theorem takeRequest_block (s : State) (r : Request) (h : s.run.op ≠ .loading) (hk : r ≠ .badKind) (hl : r ≠ .badLength) :
    takeRequest r s = takeBlock r s := by
  unfold takeRequest
  split <;> first | contradiction | (simp [h])

/-- The reply of a request that met a free port, formed and put on the line: `q` is the request, `t` the state its block
left, in which the queues it met still stand. -/
theorem done_formReply (t : State) (kind tag : Byte) (r : Request) (st : Status) (fs : List Field) (hk : kind.toNat < 128)
    (h1 : t.port.requests = [⟨kind, tag, r⟩]) (h3 : t.port.replies = [])
    (h4 : t.port.fullReset = none) (h5 : t.pins.resetHeld = false) (h6 : t.port.receiving = false) :
    done (formReply ⟨kind, tag, r⟩ ⟨st, fs⟩ t) = .next (t.withReply (kind + 128#8) tag st fs) := by
  have hk' : replyKind kind = kind + 128#8 := by simp [replyKind, hk]
  cases htx : t.port.tx <;>
    simp [done, formReply, pushReply, pumpTx, State.withReply, hk', h1, h3, h4, h5, h6, htx]

/-- A request row that meets a free port outside LOADING, the block answering at once and leaving the port's queues and the
RESET line as it met them. -/
theorem request_answered (s t : State) (kind tag : Byte) (r : Request) (st : Status) (fs : List Field)
    (h : s.takes) (hk : kind.toNat < 128) (hb : r ≠ .badKind) (hl : r ≠ .badLength)
    (ht : takeBlock r (s.taking ⟨kind, tag, r⟩) = (t, some ⟨st, fs⟩))
    (h1 : t.port.requests = [⟨kind, tag, r⟩]) (h3 : t.port.replies = [])
    (h4 : t.port.fullReset = none) (h5 : t.pins.resetHeld = false) (h6 : t.port.receiving = false) :
    request kind tag r s = .next (t.withReply (kind + 128#8) tag st fs) := by
  rw [request_served s t kind tag r ⟨st, fs⟩ h.1
    ((takeRequest_block (s.taking ⟨kind, tag, r⟩) r h.2 hb hl).trans ht)]
  exact done_formReply t kind tag r st fs hk h1 h3 h4 h5 h6

end Sys2Proof.Machine
end

