-- ==== Sys2Proof/Tests/Slice0.lean ====
section
/-! SUPPORT. Small tests by decide. Expected values come from the manual's worked cases and tables, named at each test, or from
a hand calculation by the rule named; the witnesses at the end show a state and operands that meet a statement's hypotheses. -/

namespace Sys2Proof.Tests

open Sys2Proof Sys2Proof.Machine

set_option Elab.async false

/-! ### Helpers -/

/-- The state a command leaves. -/
def after (i : Instr) (s : State) : State := match exec i s with | .next t => t | _ => s

/-- The reply waiting first: status and fields. -/
def replied (s : State) : Option Answer := s.port.replies.head?.map Reply.answer

/-- The bodies of the reports still in the queue. -/
def reported (s : State) : List ReportBody := s.port.reports.map Report.body

def cell0 : CellBlock := ⟨1000, 3, 12000, 250, 400, 80000, 4000, 3, 8, 16⟩
def left0 : StationBlock := ⟨0, .left, 16384, 3769911, .ab, .normal⟩
def right0 : StationBlock := ⟨0, .right, 16384, 3769911, .ab, .inverted⟩
def rawLeft : RawStation := ⟨0, 0, 16384, 3769911, 3, 0⟩
def blocks0 : Vector (Option StationBlock) 8 := #v[some left0, some right0, none, none, none, none, none, none]
def rec0 : StationRec := newRecord left0 0
def rec1 : StationRec := newRecord right0 0

/-- Two commissioned stations, the part in the given operating state, every queue empty. -/
def base (op : OpState) : State :=
  { State.reset with
    run := { resetRun with op := op }
    pins := { resetPins with driveEnable := op.enables }
    link := { resetLink with running := op.running }
    store := { cell := some cell0, blocks := blocks0, locked := op.running, outcome := .valid, storing := false }
    stations := #v[some rec0, some rec1, none, none, none, none, none, none]
    axle := { resetAxle with vLimit := vLimitOf cell0 } }

/-- The record of station 0 replaced. -/
def withRec (r : StationRec) (s : State) : State := setStation 0 r s

/-- The drive link controller's state of station 0 replaced. -/
def withLink (x : LinkStation) (s : State) : State := setLinkStation 0 x s

/-- An observation of station 0. -/
def seen (count : Word32) : Observation := .valid count 9100 .running 0 none

def seg0 : Segment := ⟨101, false, true, some 1, 150, [⟨4, 2000⟩, ⟨2, 2000⟩]⟩

/-! ### WellFormed refuses an ill-formed term of each check -/

theorem test_wf_cut : Instr.wf (.powerUp ⟨false, false⟩ (.writing 141)) = false := by decide
theorem test_wf_cut_low : Instr.wf (.resetLineLow (.writing 141)) = false := by decide
theorem test_wf_store (b : List Byte) (h : b.length = 137) : Instr.wf (.storeCompletion (.failed b)) = false := by
  simp [Instr.wf, h]
theorem test_wf_record (b : List Byte) (h : b.length = 1025) : Instr.wf (.recordReceived ⟨1, 0, b, 0⟩) = false := by
  simp [Instr.wf, h]
theorem test_wf_bad_kind : Instr.wf (.badKind 0x1E#8 0) = false := by decide
theorem test_wf_station : Instr.wf (.getStation 0 256) = false := by decide
theorem test_wf_cell : Instr.wf (.commissionCell 0 { cell0 with period := 65536 }) = false := by decide
theorem test_wf_write : Instr.wf (.commissionStationWrite 0 0 { rawLeft with cpr := 4294967296 }) = false := by decide
theorem test_wf_clear : Instr.wf (.commissionStationClear 0 256) = false := by decide
theorem test_wf_set_param : Instr.wf (.setParam 0 1 2147483648) = false := by decide
theorem test_wf_get_param : Instr.wf (.getParam 0 256) = false := by decide
theorem test_wf_road_load : Instr.wf (.setRoadLoad 0 0 0 0 4294967296) = false := by decide
theorem test_wf_segment : Instr.wf (.appendSegment 0 { seg0 with grade := 32768 }) = false := by decide
theorem test_wf_start : Instr.wf (.startRun 0 0 256 0 0) = false := by decide
theorem test_wf_add_event : Instr.wf (.addEvent 0 (.other 2) 1 0 0) = false := by decide
theorem test_wf_modify_event : Instr.wf (.modifyEvent 0 0 (.cycle 256 0)) = false := by decide
theorem test_wf_remove_event : Instr.wf (.removeEvent 0 256) = false := by decide
theorem test_wf_clear_events : Instr.wf (.clearEvents 0 (.other 1)) = false := by decide
theorem test_wf_counter : Instr.wf (.setCounter 0 ⟨0, 0, 256, 0, 0, 0, 0⟩) = false := by decide
theorem test_wf_watch : Instr.wf (.setWatch 0 0 256) = false := by decide
theorem test_wf_trace : Instr.wf (.setTrace 0 0 65536 0 0) = false := by decide
theorem test_wf_read_trace : Instr.wf (.readTrace 0 65536) = false := by decide
theorem test_wf_service : Instr.wf (.service 0 0 1 65536 0) = false := by decide
theorem test_wf_reset_full : Instr.wf (.resetFull 0 256 0) = false := by decide
theorem test_wf_reset_run : Instr.wf (.resetRunImmediate 0 256) = false := by decide
theorem test_wf_reset_orderly : Instr.wf (.resetRunOrderly 0 256) = false := by decide

/-! ### Decode, step, reset -/

/-- The table gives no row any bits. -/
theorem test_decode_none : decodeTableWord 8 1 = none := by decide

/-- A refused START_RUN from reset, taken from the queue's front (R119). -/
theorem test_step_front :
    (match step { State.reset with pending := [.startRun 5 0 0 0 0, .cycleStart] } with
      | .next t => (t.pending, replied t) | _ => ([], none)) = ([.cycleStart], some ⟨.wrongState, []⟩) := by decide +kernel

theorem test_reset_sound : State.reset.sound = true := by decide +kernel

/-! ### Byte layouts -/

/-- The check value of the CRC-16 with polynomial 0x1021 and start 0xFFFF over the ASCII digits 1 to 9 (R210). -/
theorem test_crc : crc16 [0x31, 0x32, 0x33, 0x34, 0x35, 0x36, 0x37, 0x38, 0x39] = 0x29B1#16 := by decide +kernel

/-- A SYNC frame is 53 bytes, a station report 23 (12.3). -/
theorem test_frame_lengths :
    (SyncFrame.bytes ⟨5, Vector.replicate 8 offEntry, none⟩).length = 53 ∧
      (StationReport.bytes ⟨2, 5, 7, -1, .running, 0, none⟩).length = 23 := by decide +kernel

/-- GET_PARAM of identifier 16 on the wire: start byte, length 1, kind 0x08, tag 7, the body, the CRC (12.2). -/
theorem test_record_bytes : (recordBytes 0x08#8 7 [16]).take 6 = [0xA5, 0x00, 0x01, 0x08, 0x07, 0x10] := by decide +kernel

/-- An image with one station block is 45 bytes long: mark 4, length 2, cell block 24, station block 13, CRC 2 (12.4). -/
theorem test_image_length : (imageBytes { cell0 with mask := 1 } blocks0).length = 45 := by decide +kernel

/-! ### The drive link -/

/-- The worked case of 1.3: station 3 on lane B, INVERTED, count 4,294,000,000 and force −612,000 dN. -/
theorem test_merge_inverted :
    mergeLanes .b .inverted none (some ⟨3, 41, 4294000000#32, -612000, .running, 0, none⟩) =
      .valid 967296#32 500000 .running 0 none := by decide +kernel

/-- The worked case of 1.3: a lane B of 9,020 dN beside a lane A of 9,010 dN. -/
theorem test_merge_disagree :
    mergeLanes .ab .normal (some ⟨0, 41, 1204880, 9010, .running, 0, none⟩) (some ⟨0, 41, 1204880, 9020, .running, 0, none⟩) =
      .disagree := by decide +kernel

/-- The worked case of 1.4, cycles 10, 11, 12 and 15. -/
theorem test_streaks :
    (nextStreak (seen 1) false 62, nextStreak .silent false 63, nextStreak (seen 1) false 63, nextStreak (seen 1) true 64) =
      (63, 63, 64, 0) ∧ degrades (seen 1) false 63 = true ∧ degrades (seen 1) false 64 = false := by decide +kernel

/-- The worked case of 1.5 at cycle start 22: pointer 4, station 4 with an item outstanding, station 1 waiting. -/
theorem test_grant :
    (Link.grant { resetLink with pointer := 4, st := (resetLink.st.set 1 { resetLinkStation with
        waiting := [⟨.read, 12, 0⟩] }).set 4 { resetLinkStation with outstanding := some ⟨⟨.read, 40, 0⟩, 1⟩ } }).2 =
      some (1, ⟨.read, 12, 0⟩) := by decide +kernel

/-- The worked case of 1.5 at cycle close 24: a response with index 41 to the READ of index 40, age 3. -/
theorem test_timeout :
    Outstanding.advance ⟨⟨.read, 40, 0⟩, 3⟩ (some ⟨true, 41, 0⟩) = .inr (.timeout, 0) := by decide +kernel

/-- A CONTENT outcome by the station number, and by the cycle echo (R6). -/
theorem test_content :
    (laneOutcome 2 5 (.bytes (StationReport.bytes ⟨3, 5, 7, 0, .running, 0, none⟩))).1 = .content ∧
      (laneOutcome 2 5 (.bytes (StationReport.bytes ⟨2, 4, 7, 0, .running, 0, none⟩))).1 = .content := by decide +kernel

/-- A frame of 23 bytes with its CRC-16 right but another type byte, or a drive state outside its set, is SYNTAX (R6, 12.3). -/
theorem test_malformed :
    let b := (StationReport.bytes ⟨2, 5, 7, 0, .running, 0, none⟩).take 21
    let f (b : List Byte) := (laneOutcome 2 5 (.bytes (b ++ crcBytes b))).1
    (f b, f (b.set 0 0x3B), f (b.set 11 4)) = (.valid, .malformed, .malformed) := by decide +kernel

/-- The most negative demand of an INVERTED station goes out as the most positive (R5). -/
theorem test_mounted : mountedDemand .inverted (-2147483648) = 2147483647 ∧ mountedDemand .inverted 5 = -5 := by decide

/-- CYCLE_START in RUN: counter 63 goes to 0 and the entry of a FOLLOW station carries its demand (R2, R5). -/
theorem test_cycle_start :
    let s := withRec { rec0 with command := .follow, demand := 15244 } (base .run)
    let t := cycleStartWith (fun _ => true) s
    t.link.counter = 0 ∧ (t.link.sync.map fun f => (f.entries[0], f.entries[1])) =
      some (⟨.follow, 15244⟩, ⟨.torqueOff, 0⟩) := by decide +kernel

/-- SLOT_END of station 0: lane A VALID, lane B late (R3, R6). -/
theorem test_slot_end :
    let t := after (.slotEnd 0 (.bytes (StationReport.bytes ⟨0, 63, 7, 0, .running, 0, none⟩)) .late) (base .run)
    (t.link.st[0].outA, t.link.st[0].outB) = (some .valid, some .late) := by decide +kernel

/-! ### The virtual axle -/

/-- A, B and C of the worked vehicle, mass 18,000 kg (2.4). -/
def road : Params := { resetParams with a := 25000, b := 1500, c := 30000, mass := 18000 }

/-- V_LIMIT for 120.00 km/h at 1,000 µs (R27). -/
theorem test_v_limit : vLimitOf cell0 = 2184533333333 := by decide +kernel

/-- The worked case of 2.3: one ROAD step at 48.60 km/h. -/
theorem test_road_step :
    roadStep road 1000 2184533333333 884736000000 0 36100 = ⟨884737196032, 32815, 0, 3285, false⟩ ∧
      (let x := resetAxle.advance 36100 ⟨884737196032, 32815, 0, 3285, false⟩
       (x.adv, x.frac) = (13500018, 16384)) := by decide +kernel

/-- The worked case of breakaway on a grade of +200, its three rows. -/
theorem test_breakaway :
    ((roadStep road 1000 2184533333333 0 200 0).v, (roadStep road 1000 2184533333333 0 200 50000).v,
      (roadStep road 1000 2184533333333 0 200 64000).v) = (-3751572, 0, 1345673) ∧
    (let x := resetAxle.advance 0 (roadStep road 1000 2184533333333 0 200 0)
     (x.adv, x.frac)) = (-58, 49516) := by decide +kernel

/-- The worked case of coasting to rest. -/
theorem test_coasting :
    (roadStep road 1000 2184533333333 500000 0 0).v = 0 ∧ (roadStep road 1000 2184533333333 500000 0 0).net = -25000 := by
  decide +kernel

/-- The worked case of following a rising trace at k + 1; at k + 19 the axle lands on V_t, 7,979,008,000,000 / 9 by R39 (the
manual's own product there is wrong, log 36). -/
theorem test_speed_step :
    let p := { resetParams with accelLimit := 150 }
    (speedStep p 1000 2184533333333 884736000000 4870).v = 884834304000 ∧
      (speedStep p 1000 2184533333333 886505472000 4870).v = 886556444444 := by decide +kernel

/-- The worked case of a controlled stop, computations 1 and 5,400. -/
theorem test_stop_step :
    (stopStep 250 1000 884736000000).v = 884572160000 ∧ (stopStep 250 1000 163840000).v = 0 := by decide +kernel

/-! ### Station lock -/

/-- Station 1 of the worked case of 3.4, before the computation. -/
def geared : StationRec :=
  { rec0 with state := .locked, baseline := true, lastRaw := 999935, measured := 999935, tLast := 999941, tNext := 1000000,
              tAccept := 999941, residue := 1000000000, e := 6, ff := 15020, intervalFf := 15020, trim := 192,
              demand := 15212, command := .follow, force := some 9050, drive := some .running, trip := some 0 }

/-- The worked case of 3.4: judging, gearing, feedforward and demand assembly. -/
theorem test_gearing :
    let p := { resetParams with kp := 512 }
    let r := (judge 0 p .run 7 (seen 999993) geared).r
    let g := (r.gear 13500018).feed 884737196032
    let a := g.assemble p .run 0
    (r.measured, r.tLast, r.tAccept, r.e) = (999993, 1000000, 1000000, 7) ∧
      (g.tNext, g.residue, g.ff) = (1000058, 3529456912, 15020) ∧ (a.trim, a.demand, a.force) = (224, 15244, some 9100) := by
  decide +kernel

/-- Station 3 of the worked case of 3.6, in CAPTURE. -/
def capturing : StationRec :=
  { rec0 with state := .capture, baseline := true, lastRaw := 2000000, measured := 2000000, ff := 15020, intervalFf := 15020,
              command := .follow, demand := 15020 }

/-- The worked case of 3.6, computations c1 to c5: streak, age, miss streak and state after each. -/
theorem test_capture :
    let p := { resetParams with captureCycles := 3 }
    let f (o : Observation) (r : StationRec) : StationRec := (judge 0 p .run 0 o r).r
    let c1 := f (seen 2000059) capturing
    let c2 := f .silent c1
    let c3 := f (seen 2000176) c2
    let c4 := f (seen 2000235) c3
    let c5 := f (seen 2000293) c4
    (c1.streak, c1.age, c1.miss, c2.streak, c2.age, c2.miss) = (1, 1, 0, 0, 2, 1) ∧
      (c3.streak, c3.age, c3.miss, c4.streak, c4.age) = (1, 3, 0, 2, 4) ∧
      (c5.state, c5.measured, c5.tLast, c5.e, c5.residue) = (.locked, 2000293, 2000293, 0, 0) ∧
      ((c5.gear 13500018).tNext, (c5.gear 13500018).residue) = (2000351, 2529456912) := by decide +kernel

/-- A station with that error, ready to be judged with an observation that keeps it. -/
def slipping (st : LockState) (timer : Nat) (e : Int) : StationRec :=
  { rec0 with state := st, baseline := true, ff := 15020, intervalFf := 15020, tNext := e, e := e, slipTimer := timer }

/-- The worked case of 3.7: c1, c4, and the two endings at c5. -/
theorem test_slip :
    let p := { resetParams with slipTime := 3 }
    let f (r : StationRec) : StationRec := ((judge 0 p .run 0 (seen 0) r).r).assemble p .run 0
    (let r := f (slipping .locked 0 600); (r.state, r.slipTimer, r.trim, r.demand)) = (.slip, 0, 9600, 24620) ∧
    (let r := f (slipping .slip 2 450); (r.state, r.slipTimer, r.trim, r.demand)) = (.slip, 3, 7200, 22220) ∧
    (let r := f (slipping .slip 3 60); (r.state, r.slipTimer, r.trim, r.demand)) = (.locked, 0, 960, 15980) ∧
    (let r := f (slipping .slip 3 520); (r.state, r.cause, r.slipTimer, r.demand, r.command)) =
      (.faulted, some .slipTime, 0, 15020, .follow) ∧
    (let r := f (slipping .slip 1 1700); (r.trim, r.trimSat, r.demand)) = (25600, true, 40620) := by decide +kernel

/-- The worked case of 3.8: c1, c5 and c6 of an encoder jump, each step of the gearing 59. -/
theorem test_jump :
    let r0 : StationRec := { rec0 with state := .locked, baseline := true, lastRaw := 5000000, measured := 5000000,
                                       tLast := 5000000, tAccept := 5000000, tNext := 5000059 }
    let f (c : Word32) (r : StationRec) : StationRec := (judge 0 resetParams .run 0 (seen c) r).r
    let g (t : Int) (r : StationRec) : StationRec := { r with tNext := t }
    let c1 := f 5020059 r0
    let c4 := f 5020236 (g 5000236 (f 5020177 (g 5000177 (f 5020118 (g 5000118 c1)))))
    let c5 := f 5020295 (g 5000295 c4)
    let c6 := f 5020300 c5
    (c1.judgement, c1.miss, c1.measured, c1.state) = (some (.missed .jump), 1, 5000000, .locked) ∧
      (c5.state, c5.cause, c5.miss, c5.faultCommand) = (.faulted, some .lostJump, 5, .torqueOff) ∧
      (c6.judgement, c6.measured, c6.lastRaw, c6.miss) = (some .accepted, 5020300, 5020300, 0) := by decide +kernel

/-- The count deltas of R50. -/
theorem test_delta : countDelta 150 4294967200 = 246 ∧ countDelta 4294967000 100 = -396 := by decide +kernel

/-- The reverse gearing example of R58. -/
theorem test_gear_reverse :
    (({ rec0 with state := .locked, residue := 1000 } : StationRec).gear (-100000)).tNext = -1 ∧
      (({ rec0 with state := .locked, residue := 1000 } : StationRec).gear (-100000)).residue = 2131512000 := by decide +kernel

/-! ### Wind-up -/

/-- A station of the worked case of 4.4 after judging. -/
def tandem (axle : Fin 4) (side : Side) (circ : Nat) (st : LockState) (e f : Int) : Option StationRec :=
  some { newRecord ⟨axle, side, 16384, circ, .ab, .normal⟩ 0 with
    state := st, e := e, force := some f, judgement := some .accepted, baseline := true }

/-- The truck of the worked case of 4.4. -/
def truck : State :=
  { base .run with
    params := { resetParams with kx := 64 }
    stations := #v[tandem 0 .left 3769911 .idle 0 12, tandem 0 .right 3769911 .idle 0 (-8),
      tandem 1 .left 3769911 .locked 7 9000, tandem 1 .right 3769911 .locked (-4) 9100,
      tandem 2 .left 3141593 .slip 20 8950, tandem 2 .right 3141593 .locked 12 9050, none, none] }

/-- The worked case of 4.4: surface errors, spread, mean, ends, cross terms, axle summaries. -/
theorem test_tandem :
    let m := truck.monitorNext
    (m.part, m.spread, m.mean) = (0x3C#8, some 4754, some 1706) ∧
      (m.leading, m.trailing, m.timer, m.warn) = (some 3, some 4, 1, true) ∧
      (m.surface[2], m.surface[3], m.surface[4], m.surface[5]) = (some 1610, some (-920), some 3834, some 2300) ∧
      (m.cross[2], m.cross[3], m.cross[4], m.cross[5]) = (some 0, some (-44), some 44, some 12) ∧
      (m.summaries[0], m.summaries[1]) = (⟨2, 4, 0, none⟩, ⟨2, 18100, 2, some 345⟩) ∧
      (m.summaries[2], m.summaries[3]) = (⟨2, 18000, 2, some 3067⟩, ⟨0, 0, 0, none⟩) := by decide +kernel

/-- The worked case of 4.6 at c8 and c9: the timer goes from 3 to 4 and WINDUP is due, once. -/
theorem test_windup :
    let s := { truck with monitor := { truck.monitor with timer := 3, warn := true } }
    s.windsUp s.monitorNext = true ∧ s.warns s.monitorNext = false ∧
      (let u := { truck with monitor := { truck.monitor with timer := 4, warn := true } }
       u.windsUp u.monitorNext = false) := by decide +kernel

/-! ### Statistics and trace -/

/-- Counter 0 of the worked case of 9.3: WEIGHTED over SYNTAX, CONTENT, LATE, SILENT. -/
theorem test_weighted :
    let c : Counter := { resetCounter with lane := .weighted, slot := slotSet 0x1E }
    (c.slotAmount (some .valid) (some .malformed), c.slotAmount (some .late) (some .silent),
      c.slotAmount (some .valid) (some .valid)) = (1, 2, 0) := by decide

/-- The worked case of 9.3 at the round start: ROUND publishes and zeroes, ACCUMULATE publishes and keeps. -/
theorem test_publish :
    (let c := Counter.publish { resetCounter with working := 40, published := 52 }; (c.working, c.published)) = (0, 40) ∧
    (let c := Counter.publish { resetCounter with working := 1203, published := 1188, accumulate := true }
     (c.working, c.published)) = (1203, 1203) := by decide

/-- The capacities of R177 for no and for two stations, and the 28 records a reply holds for two (the worked case of 9.6). -/
theorem test_trace_sizes :
    traceCapacity 0 = 2730 ∧ traceCapacity 0x24#8 = 910 ∧
      traceReturned 200 { resetTrace with mask := 0x24#8, records := List.replicate 100 [] } = 28 := by decide +kernel

/-! ### Commands, at most two each -/

/-- POWER_UP with RATE_A high alone: 2 Mbit/s, reason POWER, the ESTOP line kept (R135, R196). -/
theorem test_power_up :
    let t := after (.powerUp ⟨true, false⟩ .readBack) { base .run with pins := { resetPins with estop := true } }
    (t.port.rate, t.run.op, t.run.reason, t.pins.estop, t.link.running) = (2, .loading, .power, true, false) := by
  decide +kernel

/-- RESET low, then high with RATE_B high alone: 4 Mbit/s, reason LINE (R135, R196). -/
theorem test_reset_line :
    let t := after (.resetLineHigh ⟨false, true⟩) (after (.resetLineLow .readBack) (base .run))
    (t.port.rate, t.run.op, t.run.reason, t.pins.resetHeld) = (4, .loading, .line, false) := by decide +kernel

/-- RESET low in RUN holds the part: a request is not received (R135). -/
theorem test_reset_held :
    let t := after (.getStatus 1) (after (.resetLineLow .readBack) (base .run))
    (t.port.replies, t.pins.driveEnable) = ([], false) := by decide +kernel

/-- RESET at level FULL: the reply goes out first, then FULL_RESET acts with the stay flag (R133, R201). -/
theorem test_reset_full :
    let s := after (.resetFull 9 0 1) (base .ready)
    (after (.fullReset ⟨false, false⟩) s).run.op = .ready ∧
      (let t := after (.fullReset ⟨false, false⟩) (after .transmitComplete s)
       (t.run.op, t.run.reason, t.run.stay)) = (.loading, .request, true) := by decide +kernel

/-- ESTOP in RUN: SAFE, DRIVE_ENABLE off, the axle at rest, reaction level 1 (R129, R131). -/
theorem test_estop :
    let t := after .estopAsserted { base .run with axle := { resetAxle with v := 5, vLimit := 10 } }
    (t.run.op, t.pins.driveEnable, t.axle.v, t.faults.reaction, t.faults.entries.map FaultEntry.kind) =
      (.safe, false, 0, .one, [.estop]) := by decide +kernel

/-- ESTOP between a cycle close and its completion: the distance and Δd go back, the computation is still in progress, and
GET_STATUS shows the monitor of the computation before (R29, R91, R129). -/
theorem test_estop_in_computation :
    let s := cycleCloseWith (fun _ => .beforeLink) { base .stopping with axle := { resetAxle with v := 884736000000, whole := 7 } }
    let t := after .estopAsserted s
    (s.axle.whole, t.axle.whole, t.axle.adv, t.comp.map Computation.void) = (13497507, 7, 0, some true) ∧
      t.monitorSeen = resetMonitor := by decide +kernel

theorem test_estop_released : (after .estopReleased (after .estopAsserted (base .safe))).pins.estop = false := by
  decide +kernel

/-- A blank memory leaves LOADING for CONFIG with MASS 400, also where a cut store had written nothing yet: the format mark is
read first (R119, R186, R213). -/
theorem test_load_blank :
    let t := after (.loadCompletion true) State.reset
    (t.run.op, t.store.outcome, t.params.mass) = (.config, .blank, 400) ∧
      (after (.loadCompletion true) { State.reset with memCut := true }).store.outcome = .blank := by decide +kernel

/-- A stored set loads VALID and the part settles (R119, R190). -/
theorem test_store_and_load :
    let s := { base .config with store := { (base .config).store with storing := true } }
    let t := after (.loadCompletion true) { State.reset with mem := (after (.storeCompletion .stored) s).mem }
    (t.run.op, t.store.outcome, t.store.cell, t.store.locked) = (.settle, .valid, some cell0, true) := by decide +kernel

/-- A store whose writing failed answers STORE_FAILED (R190). -/
theorem test_store_failed :
    replied (after (.storeCompletion (.failed [1])) (after (.storeCommissioning 3) (base .config))) =
      some ⟨.storeFailed, []⟩ := by decide +kernel

/-- CYCLE_CLOSE in STOPPING at one stop step: V 0 and standstill reported (R41). -/
theorem test_cycle_close :
    let t := cycleCloseWith (fun _ => .beforeLink) { base .stopping with axle := { resetAxle with v := 163840000 } }
    (t.axle.v, t.run.count, t.comp.map Computation.standstill) = (0, 1, some true) := by decide +kernel

/-- The completion that ends a run enters READY, whatever the open order (R127). -/
theorem test_completion_run_end :
    ([.eventsCaptureEnd, .eventsEndCapture, .captureEventsEnd, .captureEndEvents, .endEventsCapture, .endCaptureEvents].map
      fun o => (completionWith (fun _ => o) (cycleCloseWith (fun _ => .beforeLink) (base .stopping))).run.op) =
      List.replicate 6 OpState.ready := by decide +kernel

theorem test_marker_end :
    (after .markerPulseEnd { base .run with pins := { resetPins with marker := true } }).pins.marker = false := by
  decide +kernel

/-- A record with a false CRC is counted and answered by nothing (R198). -/
theorem test_record_bad_crc :
    let t := after (.recordReceived ⟨0x01#8, 4, [], 0⟩) (base .ready)
    (t.port.discards, t.port.replies) = (1, []) := by decide +kernel

/-- GET_PARAM of KP by its record: CRC of 00 01 08 04 01, reply 256 (R195). -/
theorem test_record_get_param :
    replied (after (.recordReceived (sealed (0x08#8, 4, [1]))) (base .ready)) = some ⟨.ok, [.u8 1, .s32 256]⟩ := by
  decide +kernel

theorem test_start_byte : (after .startByte (base .ready)).port.receiving = true := by decide +kernel

theorem test_reception_timeout :
    (after .receptionTimeout (after .startByte (base .ready))).port.discards = 1 := by decide +kernel

theorem test_framing_error :
    (after .lineFramingError (after .startByte (base .ready))).port.receiving = false ∧
      (after .lineFramingError (base .ready)).port.discards = 0 := by decide +kernel

theorem test_length_above_limit :
    (after .bodyLengthAboveLimit (after .startByte (base .ready))).port.discards = 1 := by decide +kernel

/-- A reply goes before a report (R205). -/
theorem test_transmit :
    let t := after .transmitComplete (after (.stopRun 2) { base .run with port := { resetPort 1 with tx := .reply } })
    t.port.tx = .reply ∨ t.port.replies = [] := by decide +kernel

theorem test_bad_kind : replied (after (.badKind 0x40#8 3) (base .run)) = some ⟨.badKind, []⟩ := by decide +kernel

/-- GET_STATUS begins with the cycle counter and the link flag (R206). -/
theorem test_get_status :
    ((replied (after (.getStatus 1) (base .run))).map fun a => (a.status, a.fields.take 2)) = some (.ok, [.u8 63, .u8 1]) := by
  decide +kernel

/-- Between a cycle close and its completion GET_STATUS shows Δd, distance and run cycle state of the computation before; after
the completion those of this one (R206). -/
theorem test_get_status_in_computation :
    let s := cycleCloseWith (fun _ => .beforeLink) { base .stopping with axle := { resetAxle with v := 884736000000, adv := 5 } }
    let t := completionWith (fun _ => .eventsCaptureEnd) s
    (s.axleSeen.adv, s.axleSeen.v, s.axleSeen.whole) = (5, 884736000000, 0) ∧
      (t.axleSeen.adv, t.axleSeen.v) = (13497500, 884572160000) := by decide +kernel

theorem test_get_station : (replied (after (.getStation 1 2) (base .run))).map Answer.status = some .badValue := by
  decide +kernel

/-- A cell block with another mask removes the records of the stations it does not name (R189). -/
theorem test_commission_cell :
    let t := after (.commissionCell 1 { cell0 with mask := 1, vmax := 100 }) (base .config)
    (t.stations[0].isSome, t.stations[1].isSome, t.axle.vLimit) = (true, false, 18204444444) := by decide +kernel

theorem test_commission_write :
    (replied (after (.commissionStationWrite 1 2 rawLeft) (base .config)) = some ⟨.duplicatePosition, []⟩) ∧
      (after (.commissionStationWrite 1 2 { rawLeft with axle := 1 }) (base .config)).store.blocks[2] =
        some { left0 with axle := 1 } := by decide +kernel

theorem test_commission_clear :
    let t := after (.commissionStationClear 1 0) (base .config)
    (t.store.blocks[0], t.stations[0]) = (none, none) := by decide +kernel

/-- A station that loses its record and is commissioned again: the counter, the watch and the trace mask that named it leave it
out (R168, R174, R176; log 42). -/
theorem test_lost_record :
    let s := base .config
    let t := after (.commissionStationClear 1 0) { s with stats := { s.stats with
      counters := s.stats.counters.set 0 { resetCounter with enable := true, station := some 0 }
      watches := s.stats.watches.set 2 { resetWatch with station := some 0 } } }
    let u := after (.commissionStationWrite 1 0 rawLeft) { t with port := resetPort 1 }
    (u.stations[0].isSome, u.stats.counters[0].lost, u.stats.watches[2].lost, u.trace.lost, u.stats.counters[0].station) =
      (true, true, true, 1, some 0) := by decide +kernel

/-- An action that is neither WRITE nor CLEAR goes to the store, which refuses it BAD_VALUE; a body without one has a wrong
length (R188, R200, R211). -/
theorem test_commission_action :
    decodeRequest 0x04#8 [3, 0, 0] = .commissionOther ∧ decodeRequest 0x04#8 [] = .badLength ∧
      (takeRequest .commissionOther (base .config)).2.map Answer.status = some .badValue := by decide +kernel

/-- An accepted store has no reply until it ends (R190, R201). -/
theorem test_store : (after (.storeCommissioning 1) (base .config)).port.serving = true := by decide +kernel

/-- LEAVE_CONFIG names the first missing item (R184). -/
theorem test_leave_config :
    replied (after (.leaveConfig 1) (after (.commissionStationClear 1 1)
      { base .config with port := { resetPort 1 with tx := .reply } })) = some ⟨.ok, []⟩ ∧
    (takeLeaveConfig { base .config with store := { (base .config).store with blocks := blocks0.set 1 none } }).2 =
      ⟨.badValue, [.u8 1, .u8 1]⟩ := by decide +kernel

/-- LOCK_WINDOW 600 against SLIP_WINDOW 512 is stored as 511 (R193). -/
theorem test_set_param :
    replied (after (.setParam 1 4 600) (base .run)) = some ⟨.clamped, [.u8 4, .s32 511]⟩ ∧
      replied (after (.setParam 1 15 2) (base .run)) = some ⟨.badValue, []⟩ := by decide +kernel

theorem test_get_param : replied (after (.getParam 1 39) (base .run)) = some ⟨.badValue, []⟩ := by decide +kernel

/-- SET_ROAD_LOAD with MASS below MASS_MIN (R194). -/
theorem test_road_load :
    replied (after (.setRoadLoad 1 25000 1500 30000 100) (base .run)) =
      some ⟨.clamped, [.u32 25000, .u32 1500, .u32 30000, .u32 400]⟩ := by decide +kernel

theorem test_append : replied (after (.appendSegment 1 seg0) (base .ready)) = some ⟨.ok, [.u8 1]⟩ := by decide +kernel

theorem test_discard :
    replied (after (.discardSegments 1) { base .ready with player := { resetPlayer with waiting := [seg0, seg0] } }) =
      some ⟨.ok, [.u8 2]⟩ := by decide +kernel

/-- START_RUN with a segment waiting: the player plays it, its grade is current, its phase is opened, station 0 captures, and
the SPEED run with nothing waiting is refused (R99, R101, R125). -/
theorem test_start_run :
    let t := after (.startRun 1 0 17 1 1) { base .ready with player := { resetPlayer with waiting := [seg0] } }
    (t.run.op, t.run.tag, t.player.mode, t.axle.grade, t.player.phase, t.stations[0].map StationRec.state) =
      (.run, 17, .playing, 150, some 1, some .capture) ∧
    replied (after (.startRun 1 1 17 0 0) (base .ready)) = some ⟨.profileEmpty, []⟩ := by decide +kernel

/-- START_RUN between a cycle close of READY and its completion: that completion plays the first cycle, 2,000 over 4 cycles from 0
(R100, R110; log 24). In a SPEED run the first computation still aims at 0, and the second moves by one acceleration step, 300 ×
1,000² × 65,536 / 100,000 (R39, R40). -/
theorem test_start_run_in_computation :
    let close := cycleCloseWith (fun _ => .beforeLink)
    let complete := completionWith (fun _ => .eventsCaptureEnd)
    let t := complete (after (.startRun 1 1 17 1 1)
      (close { base .ready with player := { resetPlayer with waiting := [seg0] } }))
    let u := close t
    (t.player.elapsed, t.player.speed, t.player.clock, t.run.op) = (1, 500, 1, .run) ∧ u.axle.v = 0 ∧
      (close (complete u)).axle.v = 196608000 := by decide +kernel

theorem test_stop_run :
    let t := after (.stopRun 1) (base .run)
    (t.run.op, t.run.stopCause) = (.stopping, some .stopRun) := by decide +kernel

/-- The player held at the end of its segment. -/
def held (g : Segment) (w : List Segment) : State :=
  { base .run with player := { resetPlayer with mode := .held, active := some g, waiting := w, speed := 2000 } }

/-- CONTINUE with nothing waiting and not LAST is an underrun (R105, R106). -/
theorem test_hold_continue :
    (after (.releaseHoldContinue 1) (held seg0 [])).player.mode = .underrun ∧
      (after (.releaseHoldContinue 1) (held seg0 [{ seg0 with tag := 5 }])).player.lastTag = some 5 := by decide +kernel

theorem test_hold_repeat :
    let t := after (.releaseHoldRepeat 1) (held seg0 [])
    (t.player.mode, t.player.point, t.player.start) = (.playing, 0, 2000) := by decide +kernel

theorem test_hold_finish :
    let s := held seg0 []
    let t := after (.releaseHoldFinish 1) { s with run := { s.run with mode := .speed } }
    (t.player.mode, t.run.op, t.run.stopCause) = (.ended, .stopping, some .profileEnd) := by decide +kernel

theorem test_engage :
    replied (after (.engage 1 3) (withRec { rec0 with state := .locked } (base .run))) = some ⟨.ok, [.u8 2]⟩ := by
  decide +kernel

theorem test_release :
    let t := after (.release 1 3) (withRec { rec0 with state := .slip, demand := 9, command := .follow } (base .run))
    t.stations[0].map (fun r => (r.state, r.demand, r.command)) = some (.idle, 0, .torqueOff) := by decide +kernel

theorem test_recapture :
    let r : StationRec := { rec0 with state := .faulted, cause := some .slipTime, judgement := some .accepted, miss := 3 }
    ((after (.recapture 1 1) (withRec r (base .run))).stations[0].map fun r => (r.state, r.cause, r.miss)) =
      some (.capture, none, 0) := by decide +kernel

/-- ADD_EVENT takes the lowest free entry; a DISTANCE entry stands at its start mark (R156). -/
theorem test_add_event :
    let t := after (.addEvent 1 (.distance 7 5) 2 3 1) (base .ready)
    (t.events.entries[0].map fun e => (e.trigger, e.armed, e.persistent, e.actions.report)) =
      some (.distance 7 5 7, true, true, true) ∧
    replied (after (.addEvent 1 (.distance 7 0) 2 3 1) (base .ready)) = some ⟨.badValue, []⟩ := by decide +kernel

/-- An entry in use, number 0. -/
def event0 (g : Trigger) (tag : Nat) : EventEntry := ⟨g, ⟨true, false, false, true⟩, tag, false, true, 6⟩

/-- A part with that entry. -/
def withEvent (e : EventEntry) (s : State) : State := setEntry 0 (some e) s

theorem test_modify_event :
    replied (after (.modifyEvent 1 0 (.distance 9 3)) (withEvent (event0 (.distance 7 5 12) 1) (base .ready))) =
      some ⟨.ok, [.u16 6, .u8 1, .u8 1, .u64 12]⟩ := by decide +kernel

theorem test_remove_event :
    replied (after (.removeEvent 1 0) (withEvent (event0 (.traceTime 7) 1) (base .ready))) = some ⟨.ok, [.u16 6]⟩ := by
  decide +kernel

theorem test_clear_events :
    (after (.clearEvents 1 (.tag 2)) (withEvent (event0 (.traceTime 7) 1) (base .ready))).events.entries[0].isSome = true ∧
      replied (after (.clearEvents 1 .all) (withEvent (event0 (.traceTime 7) 1) (base .ready))) = some ⟨.ok, [.u8 1]⟩ := by
  decide +kernel

/-- A firing passes over the marks already reached: at 23 mm the mark of 7 with period 5 goes to 27 (R161). -/
theorem test_distance_firing : nextMark 7 5 23 = 27 ∧ nextMark 7 5 7 = 12 := by decide

theorem test_set_counter :
    let t := after (.setCounter 1 ⟨2, 1, 8, 3, 0x1E, 1, 0⟩) (base .ready)
    (t.stats.counters[2].lane, t.stats.counters[2].station, t.stats.counters[2].slip) = (.weighted, none, true) := by
  decide +kernel

theorem test_set_watch :
    (after (.setWatch 1 3 1) (base .ready)).stats.watches[3].station = some 1 ∧
      replied (after (.setWatch 1 3 8) (base .ready)) = some ⟨.badValue, []⟩ := by decide +kernel

theorem test_read_counters :
    (replied (after (.readCounters 1) (base .ready))).map (fun a => a.fields.take 3) = some [.u8 0, .u8 8, .u8 2] := by
  decide +kernel

theorem test_set_trace :
    replied (after (.setTrace 1 3 10 1 1) { base .ready with trace := { resetTrace with records := [[1], [2]] } }) =
      some ⟨.ok, [.u16 2]⟩ := by decide +kernel

theorem test_read_trace :
    replied (after (.readTrace 1 1) { base .ready with trace := { resetTrace with records := [[7], [8]] } }) =
      some ⟨.ok, [.u8 0, .u16 1, .u32 1, .u32 7]⟩ := by decide +kernel

theorem test_read_faults : replied (after (.readFaults 1) (base .run)) = some ⟨.ok, [.u8 0, .u8 0, .u8 0]⟩ := by decide +kernel

/-- CLEAR_FAULT leaves SAFE for SETTLE, and not while ESTOP is asserted (R132, R151). -/
theorem test_clear_fault :
    (after (.clearFault 1) (base .safe)).run.op = .settle ∧
      replied (after (.clearFault 1) (after .estopAsserted (base .safe))) = some ⟨.causePresent, []⟩ := by decide +kernel

/-- CLEAR_FAULT out of SAFE between a cycle close and its completion: GET_STATION shows miss streak 0 and the rest as before, also
where that computation had left 0 (R79, R80, R132). -/
theorem test_clear_fault_in_computation :
    let k : Computation := ⟨.safe, false, false, false, (base .safe).stations, resetAxle, resetMonitor, resetFaults,
      (base .safe).stations.set 0 (some { rec0 with miss := 3, measured := 9 }), none⟩
    let t := after (.clearFault 1) { base .safe with comp := some k }
    (t.stationSeen 0).map (fun r => (r.miss, r.measured)) = some (0, 9) := by decide +kernel

/-- A READ is queued with value 0 (R13). -/
theorem test_service :
    (after (.service 1 0 1 40 7) (base .run)).link.st[0].waiting = [⟨.read, 40, 0⟩] := by decide +kernel

theorem test_reset_immediate :
    let t := after (.resetRunImmediate 1 0) (withRec { rec0 with state := .locked } (base .run))
    (t.run.op, t.pins.driveEnable, t.stations[0].map StationRec.state) = (.settle, false, some .idle) := by decide +kernel

theorem test_reset_orderly :
    let t := after (.resetRunOrderly 1 0) (base .run)
    (t.run.op, t.run.orderly, t.run.stopCause) = (.stopping, true, some .orderlyReset) := by decide +kernel

/-! Threshold rows. -/

theorem test_service_timeout :
    let x := { resetLinkStation with outstanding := some ⟨⟨.read, 40, 0⟩, 3⟩ }
    let t := after (.serviceTimeout 0) (withLink x { base .run with port := { resetPort 1 with tx := .reply } })
    (t.link.st[0].outstanding, reported t) = (none, [.serviceDone 0 ⟨.read, 40, 0⟩ .timeout 0]) := by decide +kernel

/-- Both stations valid at the sixteenth close settle the part (R121). -/
theorem test_settled :
    let s := setLinkStation 1 { resetLinkStation with obs := some (seen 1) }
      (withLink { resetLinkStation with obs := some (seen 1) } (base .settle))
    let t := after .settled { s with run := { s.run with settleCount := 15 } }
    (t.run.op, t.pins.driveEnable) = (.ready, true) := by decide +kernel

theorem test_settle_fail :
    let s := base .settle
    let t := after .settleFail { s with run := { s.run with settleTimer := 255 } }
    (t.run.op, t.faults.entries.map FaultEntry.detail) = (.safe, [some (.stations 3)]) := by decide +kernel

theorem test_link_lost :
    let s := base .run
    (after .linkLost { s with faults := { s.faults with silence := 7 } }).run.op = .safe ∧
      (after .linkLost { s with faults := { s.faults with silence := 6 } }).run.op = .run := by decide +kernel

theorem test_windup_row :
    let t := after .windup { truck with monitor := { truck.monitor with timer := 3, warn := true } }
    (t.run.op, t.faults.reaction) = (.stopping, .two) := by decide +kernel

theorem test_slip_timer_expiry :
    let s := withLink { resetLinkStation with obs := some (seen 0) } (withRec (slipping .slip 2000 520) (base .run))
    ((after (.slipTimerExpiry 0) s).stations[0].map StationRec.cause) = some (some .slipTime) := by decide +kernel

theorem test_capture_fail :
    let s := withLink { resetLinkStation with obs := some .silent } (withRec { capturing with age := 4000 } (base .run))
    ((after (.captureFail 0) s).stations[0].map StationRec.cause) = some (some .captureFail) := by decide +kernel

theorem test_station_lost :
    let s := withLink { resetLinkStation with obs := some .disagree } (withRec { geared with miss := 4 } (base .run))
    ((after (.stationLost 0 .disagree) s).stations[0].map StationRec.cause) = some (some .lostDisagree) ∧
      (after (.stationLost 0 .silent) s).stations[0] = s.stations[0] := by decide +kernel

theorem test_lane_degraded :
    let x := { resetLinkStation with repA := some ⟨0, 63, 1, 0, .running, 0, none⟩, streakB := 63 }
    ((after (.laneDegraded 0 .b) (withLink x (base .run))).faults.entries.map fun e => (e.kind, e.station, e.lane)) =
      [(.laneDegraded, some 0, some .b)] := by decide +kernel

theorem test_tolerance :
    let s := base .run
    let t := after .tolerance { s with player := { resetPlayer with mode := .playing, active := some seg0, speed := 2000,
                                                                    excursion := 1000 } }
    (t.player.raised, t.player.phaseTol, t.faults.entries.map FaultEntry.kind) = (true, 1, [.tolerance]) := by decide +kernel

theorem test_captured :
    let s := withLink { resetLinkStation with obs := some (seen 2000059) } (withRec { capturing with streak := 31 } (base .run))
    ((after (.captured 0) s).stations[0].map fun r => (r.state, r.tLast)) = some (.locked, 2000059) := by decide +kernel

/-! ### Witnesses: a state and operands that meet a statement's hypotheses, clause by clause -/

/-- One command waits. -/
def queued (c : Instr) (s : State) : State := { s with pending := [c] }

/-- The step answers a next state. -/
def goes (s : State) : Bool := match step s with | .next _ => true | _ => false

/-- The seven operating states but LOADING. -/
def ops : List OpState := [.config, .settle, .ready, .run, .stopping, .safe]

/-- The transmitter busy. -/
def busyTx (s : State) : State := { s with port := { s.port with tx := .reply } }

/-- A computation that began in that state. -/
def computing (k : Computation) (s : State) : State := { s with comp := some k }

def comp0 (op : OpState) (standstill : Bool) : Computation :=
  ⟨op, false, standstill, false, Vector.replicate 8 none, resetAxle, resetMonitor, resetFaults, Vector.replicate 8 none, none⟩

/-- The fault list with one entry. -/
def slipEntry : FaultEntry := ⟨.stationSlip, some 0, none, some .slipTime, none, 0, 0, 255, .run⟩

def withFaults (f : Faults) (s : State) : State := { s with faults := f }

def withPlayer (y : Player) (s : State) : State := { s with player := y }

def withPort (x : Port) (s : State) : State := { s with port := x }

/-- The image of the two stations in the memory. -/
def imageMem : Memory := memWrites [] (storeWrites cell0 blocks0)

theorem witness_StepTakesTheFront :
    (queued .cycleClose (base .run)).pending = [.cycleClose] ∧ (base .run).pending = [] := by decide

theorem witness_OutputsFollowTheState : (ops.all fun op => (base op).outputsAgree) = true ∧
    goes (queued (.stopRun 1) (base .run)) = true := by decide +kernel

theorem witness_EstopIsObeyed : (ops.all fun op => (base op).estopObeyed) = true ∧
    (after .estopAsserted (base .safe)).estopObeyed = true ∧ goes (queued (.clearFault 1) (base .safe)) = true := by decide +kernel

theorem witness_AxleStaysWithinItsLimits :
    let s := { base .run with axle := { resetAxle with v := 2184533333333, vLimit := 2184533333333, frac := 65535 } }
    s.axleSafe = true ∧ s.fractionSound = true ∧ goes (queued .estopAsserted s) = true := by decide +kernel

theorem witness_PortKeepsItsBounds :
    let q : Queued := ⟨0x01#8, 0, .getStatus⟩
    let r (x : Bool) : Reply := ⟨0x81#8, 0, x, ⟨.ok, []⟩⟩
    let s := withPort { resetPort 1 with requests := List.replicate 8 q, replies := r true :: List.replicate 4 (r false),
                                         tx := .reply, refusals := 255, lost := 255, discards := 65535 } (base .run)
    s.portSound = true ∧ goes (queued .transmitComplete s) = true := by decide +kernel

theorem witness_QueuesAndMemoryKeepTheirForm :
    let s := withPlayer { resetPlayer with waiting := [seg0, seg0, seg0, seg0] }
      (withLink { resetLinkStation with waiting := [⟨.read, 1, 0⟩, ⟨.read, 2, 0⟩], outstanding := some ⟨⟨.read, 3, 0⟩, 3⟩ }
        (base .run))
    s.queuesSound = true ∧ Memory.wf imageMem = true ∧ goes (queued .cycleStart s) = true := by decide +kernel

/-- Counters and a streak at their bounds, a full trace buffer of eight stations' records, a player that plays and one in READY. -/
theorem witness_QueuesAndMemoryKeepTheirForm_bounds :
    let s : State := { withLink { resetLinkStation with streakA := 64 } (base .run) with
      stats := { (base .run).stats with counters := Vector.replicate 4 { resetCounter with working := 65535, published := 65535 } }
      trace := { resetTrace with mask := 0xFF#8, records := List.replicate 303 (List.replicate 27 0) }
      player := { resetPlayer with mode := .playing, active := some seg0, waiting := [seg0], phaseTol := 255, excursion := 65535 } }
    s.countsSound = true ∧ s.traceSound = true ∧ s.playerSound = true ∧ goes (queued .estopAsserted s) = true ∧
      (withPlayer { resetPlayer with waiting := [seg0] } (base .ready)).playerSound = true ∧
      (withPlayer { resetPlayer with waiting := [seg0] } (base .safe)).playerSound = false := by decide +kernel

theorem witness_FaultListKeepsIdentities :
    let s := withFaults { resetFaults with entries := [slipEntry] } (base .run)
    s.faultsSound = true ∧ s.faults.entries = [] ++ slipEntry :: [] ∧ slipEntry.kind = .stationSlip ∧
      slipEntry.station = some 0 ∧ slipEntry.lane = none ∧ goes (queued .estopAsserted s) = true := by decide +kernel

theorem witness_StationsStaySound :
    let s := withRec { geared with e := -16777215, residue := 3769910999 } (base .run)
    s.stationsSound = true ∧ s.rollersSound = true ∧ goes (queued (.release 1 3) s) = true := by decide +kernel

theorem witness_WorkingSetStaysSound : (ops.all fun op => (base op).setSound && (base op).tableFollows) = true ∧
    (let s := cycleCloseWith (fun _ => .beforeLink) (base .ready)
     s.outputsAgree = true ∧ s.comp.isSome = true ∧ s.computationFollows = true) ∧
    goes (queued (.commissionStationClear 1 0) (base .config)) = true ∧
    ([OpState.settle, .ready, .run, .stopping, .safe].all fun op => decide ((base op).run.op ≠ .loading) && (base op).store.locked &&
      goes (queued (.commissionStationClear 1 0) (base op))) = true := by decide +kernel

/-- LOCK_WINDOW written at SLIP_WINDOW, and SLIP_WINDOW at LOCK_WINDOW. -/
theorem witness_WindowsStayApart :
    (base .run).windowsApart = true ∧ (base .run).takes ∧ (base .run).paramsInRange = true ∧
      ((base .run).params.slipWindow : Int) ≤ max 1 (min 1000000 512) ∧
      max 2 (min 4000000 64) ≤ ((base .run).params.lockWindow : Int) := by decide +kernel

theorem witness_FullResetsEmptyThePart :
    (base .run).pins.resetHeld = false ∧ (after (.resetLineLow .readBack) (base .run)).pins.resetHeld = true ∧
      (after .transmitComplete (after (.resetFull 9 1 1) (base .run))).port.fullReset = some ⟨true, true⟩ ∧
      (base .run).portFree := by decide +kernel

theorem witness_LinesAct :
    (base .safe).run.op = .safe ∧ (base .run).run.op = .run ∧ (base .settle).run.op = .settle ∧ (base .run).comp = none ∧
      (computing (comp0 .run false) (base .run)).comp = some (comp0 .run false) ∧ (comp0 .stopping true).began = .stopping ∧
      (computing (comp0 .ready false) (base .run)).comp = some (comp0 .ready false) ∧
      (let s := busyTx (withRec geared (base .run))
       s.port.tx ≠ .idle ∧ s.port.reports.length + (heard s (safeReports s .run { kind := .estop })).length = 3 ∧
         (told (after .estopAsserted s).port.reports).drop 2 =
           [(0, .safe, .state .run .safe .fault (some .estop) 0 .road false false)]) := by decide +kernel

/-- A VALID image in the four cases of the stay flag and the ESTOP line, and a memory that does not answer. -/
theorem witness_LoadCompletionActs :
    ([(false, false), (false, true), (true, false), (true, true)].all fun (stay, estop) =>
      let s := { State.reset with mem := imageMem, run := { resetRun with stay := stay }, pins := { resetPins with estop := estop } }
      decide (s.run.op = .loading ∧ s.pins.resetHeld = false ∧ s.pins.estop = estop ∧ s.run.stay = stay ∧
        (∀ n : Station, s.stations[n] = none) ∧ loadImage true s.mem s.memCut = (.valid, some (cell0, blocks0)) ∧
        (busyTx s).port.tx ≠ .idle ∧ s.port.reports.length + (heard s [(0, .settle, .started .power .valid .settle)]).length = 1 ∧
        s.comp = none ∧ s.port.reports.length +
          (heard s ((0, .settle, .started .power .valid .settle) :: safeReports s .settle { kind := .estop })).length = 3)) = true ∧
    (let s := busyTx (withPort { resetPort 1 with reports := List.replicate 31 ⟨0, 0, .run, .traceFull 0 0⟩ } State.reset)
     s.run.op = .loading ∧ loadImage false s.mem s.memCut = (.blank, none) ∧
       s.port.reports.length + (heard s [(0, .config, .started .power .blank .config)]).length = 32 ∧ s.port.tx ≠ .idle) ∧
    (after (.loadCompletion true) State.reset).port.tx = .report ⟨0, 0, .config, .started .power .blank .config⟩ := by
  decide +kernel

/-- A failed store may have written every byte of the image's 58. -/
theorem witness_StoreHoldsItsReply :
    (let s := busyTx (base .config)
     s.takes ∧ s.store.locked = false ∧ s.missing = none ∧ s.port.tx ≠ .idle ∧ (base .config).takes ∧
       (base .config).port.reports = [] ∧ (withPort { resetPort 1 with reports := [⟨0, 0, .run, .traceFull 0 0⟩] } s).takes) ∧
    (let s := after (.storeCommissioning 7) (base .config)
     s.store.storing = true ∧ s.store.cell = some cell0 ∧ s.port.requests = [⟨0x05#8, 7, .storeCommissioning⟩] ∧
       s.port.replies = [] ∧ s.port.receiving = false ∧ s.port.fullReset = none ∧ s.pins.resetHeld = false ∧
       (List.replicate 58 (0#8)).length ≤ (imageBytes cell0 s.store.blocks).length) := by decide +kernel

theorem witness_StoredImageLoadsBack :
    Memory.wf (base .config).mem = true ∧ (base .config).setSound = true ∧ (base .config).store.cell = some cell0 ∧
      (base .config).missing = none ∧ (base .config).rollersSound = true ∧
      loadImage true (storedMemory .stored (base .config)) false = (.valid, some (cell0, blocks0)) := by decide +kernel

/-- A round start in SETTLE with 31 reports waiting, and a grant. -/
theorem witness_CycleStartSendsTheFrame :
    (let s := busyTx (withPort { resetPort 1 with reports := List.replicate 31 ⟨0, 0, .run, .traceFull 0 0⟩ } (base .settle))
     s.link.running = true ∧ s.run.op = .settle ∧ s.link.counter = 63 ∧ 2 ≤ s.params.reportLevel ∧ s.port.reports.length < 32 ∧
       (busyTx s).port.tx ≠ .idle) ∧
      (let t := cycleStartWith (fun _ => true) (withLink { resetLinkStation with waiting := [⟨.read, 1, 0⟩] } (base .ready))
       t.link.sync.bind SyncFrame.item = some (0, ⟨.read, 1, 0⟩)) := by decide +kernel

/-- A round start with an entry that reports and takes a snapshot, one report short of a full queue. -/
theorem witness_CycleEntriesFire :
    let e : EventEntry := { event0 (.cycle 0 63) 1 with actions := ⟨true, true, true, false⟩ }
    let s := busyTx (withPort { resetPort 1 with reports := List.replicate 31 ⟨0, 0, .run, .traceFull 0 0⟩, lost := 5 }
      (withEvent e { base .ready with params := { resetParams with reportLevel := 4 } }))
    let t := cycleStartWith (fun _ => true) s
    s.link.running = true ∧ s.events.entries[0] = some e ∧ s.link.counter = 63 ∧ s.port.tx ≠ .idle ∧
      t.port.reports.drop 31 = [⟨5, 0, .ready, .eventCycle 0 7 0⟩] ∧ t.stats.snap.entry = some 0 := by decide +kernel

/-- A station with a record and one without, a lost watch and counter, and a counter at its first cut. -/
theorem witness_SlotEndStoresOutcomes :
    (let c : Counter := { resetCounter with enable := true, slot := [.silent], accumulate := true, working := 65535 }
     let s : State := busyTx { base .run with
       stats := { (base .run).stats with counters := (base .run).stats.counters.set 2 c }
       inForce := { (base .run).inForce with countEnable := true }, params := { resetParams with reportLevel := 4 } }
     firstCuts s (endSlot 0 .nothing .nothing s) = [.counterSaturated 2 none true] ∧ s.port.reports = []) ∧
    (base .run).link.running = true ∧ (base .run).stations[2] = none ∧ (base .run).stations[0] = some rec0 ∧
      resetWatch.lost = false ∧ ({ resetCounter with lost := true } : Counter).lost = true := by decide +kernel

theorem witness_ReportsAreReadBack :
    crc16 [0x00] ≠ 0 ∧ ([0x00] : List Byte).length ≠ 23 ∧
      (let b : List Byte := (StationReport.bytes ⟨2, 5, 7, 0, .running, 0, some ⟨true, 0, 0⟩⟩)
       b.length = 23 ∧ (b.set 0 0x3B)[0]? ≠ some 0x3A#8 ∧ (b.set 11 4)[11]? = some 4#8 ∧ (b.set 13 2)[13]? = some 2#8 ∧
         (b.set 14 3)[13]? = some 1#8 ∧ (b.set 14 3)[14]? = some 3#8) ∧
      (let r : StationReport := ⟨255, 255, 0, -2147483648, .running, 255, some ⟨true, 65535, 2147483647⟩⟩
       r.station < 256 ∧ r.echo < 256 ∧ fitsS32 r.force = true ∧ r.trip < 256 ∧
         (r.response.all fun x => decide (x.index < 65536) && fitsS32 x.value) = true) := by decide +kernel

theorem witness_CloseFormsObservations :
    (base .run).link.running = true ∧ (base .run).stations[1] = some rec1 := by decide +kernel

theorem witness_CloseUpdatesStreaks :
    let x := { resetLinkStation with repA := some ⟨0, 63, 1, 0, .running, 0, none⟩, streakB := 63 }
    (withLink x (base .run)).link.running = true ∧ (withLink x (base .run)).stations[0] = some rec0 ∧ rec0.block.lanes = .ab ∧
      (withLink x (base .run)).link.st[0].repB = none ∧
      (let t := cycleCloseWith (fun _ => .beforeLink) (withLink x (base .run))
       t.link.st[0].streakB = 64 ∧ t.faults.overflow = false ∧
         (t.faults.entries.map fun e => (e.kind, e.station, e.lane)) = [(.laneDegraded, some 0, some .b)]) := by decide +kernel

/-- Every state in which the link runs, one silence below the limit, a FAULTED station whose command is TORQUE_OFF. -/
theorem witness_CycleCloseMovesTheAxle :
    (ops.all fun op => !op.running || (base op).link.running) = true ∧
      (let s := withFaults { resetFaults with silence := 6 } (base .run)
       s.faults.silence + 1 ≠ s.cell.linkLostLimit ∧ 0 ≤ s.axle.vLimit ∧ s.run.mode = .road ∧ s.run.fresh = false ∧
         (after (.startRun 1 0 17 1 1) (base .ready)).run.fresh = true) ∧
      (let s := withRec { rec0 with state := .faulted, cause := some .driveTrip } (base .run)
       let t := cycleCloseWith (fun _ => .beforeLink) s
       (s.stations[0].map StationRec.state) = some .faulted ∧
         s.stations[0].map StationRec.faultCommand = t.stations[0].map StationRec.faultCommand) ∧
      (let s : State := { base .run with run := { (base .run).run with mode := .speed }, axle := { resetAxle with v := 900000000000, vLimit := 0 } }
       overspeeds s 0 = true ∧ s.faults.reaction = .none ∧ s.faults.silence + 1 ≠ s.cell.linkLostLimit) := by decide +kernel

/-- A silence at LINK_LOST_LIMIT − 1 and a lane that brought a report: no LINK_LOST is due. -/
theorem witness_CycleCloseMovesTheAxle_heard :
    let x := { resetLinkStation with repA := some ⟨0, 63, 1, 0, .running, 0, none⟩ }
    let s := withFaults { resetFaults with silence := 7 } (withLink x (base .run))
    s.link.running = true ∧ s.faults.silence + 1 = s.cell.linkLostLimit ∧ s.run.op = .run ∧ hearsOne s ∧
      (cycleCloseWith (fun _ => .beforeLink) s).run.op = .run := by
  refine ⟨by decide +kernel, by decide +kernel, by decide +kernel, ⟨0, rec0, ?_, 1, 0, .running, 0, none, ?_⟩, by decide +kernel⟩ <;>
    decide +kernel

theorem witness_CompletionEndsTheRun :
    (let s := computing (comp0 .ready false) (base .ready)
     s.link.running = true ∧ s.comp = some (comp0 .ready false)) ∧
    (let s := computing (comp0 .stopping true) (base .stopping)
     s.link.running = true ∧ s.comp = some (comp0 .stopping true) ∧ s.run.op = .stopping ∧ s.run.orderly = false) ∧
    (let s := withEvent (event0 (.traceTime 9) 5) (computing (comp0 .stopping true) (base .stopping))
     s.events.entries[0] = some (event0 (.traceTime 9) 5) ∧ (event0 (.traceTime 9) 5).runTag ≠ s.run.tag ∧
       s.events.entries[1] = none) ∧
    (let s := busyTx (withRec geared (computing (comp0 .stopping true) (base .stopping)))
     s.port.tx ≠ .idle ∧ s.port.reports.length ≤ 3 ∧
       (told (completionWith (fun _ => .eventsCaptureEnd) s).port.reports).drop 1 =
         [(0, .ready, .state .stopping .ready .standstill none 0 .road false false)]) := by decide +kernel

/-- The first of the four cycles of a point, its last one, and the last of the segment's with each way it can end. -/
theorem witness_CompletionPlaysTheProfile :
    let s (g : Segment) (m : PlayerMode) (w : List Segment) (point k : Nat) :=
      withPlayer { resetPlayer with mode := m, active := if m = .underrun then none else some g, waiting := w, point := point,
                                    elapsed := k } (computing (comp0 .run false) (base .run))
    let h := { seg0 with holdAtEnd := false }
    (computing (comp0 .ready false) (s seg0 .playing [] 0 0)).comp = some (comp0 .ready false) ∧
      (comp0 .ready false).standstill = false ∧ (s seg0 .playing [] 0 0).run.op = .run ∧
    (s seg0 .playing [] 0 0).link.running = true ∧ (s seg0 .playing [] 0 0).comp = some (comp0 .run false) ∧
      seg0.points[(s seg0 .playing [] 0 0).player.point]? = some ⟨4, 2000⟩ ∧
      (s seg0 .playing [] 0 2).player.elapsed + 1 < 4 ∧ (s seg0 .playing [] 0 3).player.elapsed + 1 = 4 ∧
      (s seg0 .playing [] 0 3).player.point + 1 < seg0.points.length ∧
      seg0.points[1]? = some ⟨2, 2000⟩ ∧ (s seg0 .playing [] 1 1).player.elapsed + 1 = 2 ∧
      (s seg0 .playing [] 1 1).player.point + 1 = seg0.points.length ∧ seg0.holdAtEnd = true ∧ h.holdAtEnd = false ∧
      h.last = false ∧ ({ h with last := true } : Segment).last = true ∧ (s h .playing [seg0] 1 1).player.waiting = [seg0] ∧
      (s h .playing [] 1 1).player.waiting = [] ∧ (s h .playing [] 1 1).faults.entries.length < 8 ∧
      (s h .underrun [] 1 1).player.mode = .underrun ∧ (s h .underrun [] 1 1).player.active = none ∧
      ({ s h .underrun [] 1 1 with inForce := { (base .run).inForce with underrunStop := true } } : State).inForce.underrunStop =
        true ∧ (base .run).inForce.underrunStop = false ∧ (busyTx (s seg0 .playing [] 1 1)).port.tx ≠ .idle ∧
      told (completionWith (fun _ => .eventsCaptureEnd) (busyTx (s seg0 .playing [] 1 1))).port.reports =
        [(0, .run, .segmentEnded 101 1), (0, .run, .hold 101 2000 1)] ∧
      (s seg0 .held [] 1 2).player.mode = .held ∧ (computing (comp0 .stopping false) (base .stopping)).player.mode = .empty ∧
      (bandChecked (base .run) { resetPlayer with mode := .playing, speed := 200, excursion := 1000 }).2 = none ∧
      (bandChecked (base .run) { resetPlayer with mode := .playing, speed := 201, excursion := 999 }).2 = none ∧
      (bandChecked (base .run) { resetPlayer with mode := .playing, speed := 201, excursion := 1000 }).2 =
        some { kind := .tolerance, detail := some (.phase none) } := by decide +kernel

/-- A record at the ends of its fields does what its row does. -/
theorem witness_RecordsAreTheirRequests :
    let c : Instr := .appendSegment 9 { seg0 with grade := -3000, points := [⟨65535, 12000⟩, ⟨1, 0⟩] }
    c.wf = true ∧ recordOf c = some (sealed (0x0A#8, 9, segmentBody { seg0 with grade := -3000, points := [⟨65535, 12000⟩, ⟨1, 0⟩] })) ∧
      ((recordOf c).map fun r => (after (.recordReceived r) (base .run)) == after c (base .run)) = some true := by decide +kernel

theorem witness_ReceiverDiscardsAndCounts :
    let r : Record := ⟨0x01#8, 4, [], 0⟩
    (base .run).pins.resetHeld = false ∧ crc16 (be2 r.body.length ++ [r.kind, r.tag] ++ r.body) ≠ r.crc ∧
      (after .startByte (base .run)).port.receiving = true ∧ (base .run).port.receiving = false := by decide +kernel

/-- Seven and eight requests, three and four refusals. -/
theorem witness_BusyPortQueuesOrRefuses :
    let q : Queued := ⟨0x01#8, 0, .getStatus⟩
    let f : Reply := ⟨0x81#8, 0, false, ⟨.queueFull, []⟩⟩
    let s (n m : Nat) := withPort { resetPort 1 with requests := List.replicate n q, replies := List.replicate m f,
                                                     serving := true } (base .run)
    requestParts (.stopRun 3) = some (0x0D#8, 3, []) ∧ Instr.wf (.stopRun 3) = true ∧ (s 7 0).port.serving = true ∧
      (s 7 0).port.requests.length < 8 ∧ 8 ≤ (s 8 3).port.requests.length ∧ (s 8 3).port.refused < 4 ∧
      4 ≤ (s 8 4).port.refused := by decide +kernel

theorem witness_LoadingRefusesRequests :
    State.reset.portFree ∧ State.reset.run.op = .loading ∧ requestParts (.stopRun 3) = some (0x0D#8, 3, []) ∧
      isRequestKind 0x0D#8 = true ∧ requestParts (.badKind 0x7F#8 3) = some (0x7F#8, 3, []) ∧ isRequestKind 0x7F#8 = false ∧
      (let r : Record := ⟨0x0A#8, 3, [0, 1, 0, 255, 0, 0, 1, 0, 4, 7], crc16 ([0, 10, 0x0A, 3] ++ [0, 1, 0, 255, 0, 0, 1, 0, 4, 7])⟩
       r.body.length ≤ 1024 ∧ r.body[6]? = some 1#8 ∧ r.body.length ≠ 7 + 4 * 1 ∧
         crc16 (be2 r.body.length ++ [r.kind, r.tag] ++ r.body) = r.crc ∧
         replied (after (.recordReceived r) State.reset) = some ⟨.badLength, []⟩) := by decide +kernel

theorem witness_LoadingRefusesRequests_lengths :
    wrongLength 0x0A [0, 1, 0, 255, 0, 0, 1, 0, 4, 7] ∧ wrongLength 0x04 [] ∧ wrongLength 0x04 [2, 0, 0] ∧ wrongLength 0x01 [0] := by
  refine ⟨.inr (.inr ⟨rfl, ?_⟩), .inr (.inl ⟨rfl, .inl rfl⟩), .inr (.inl ⟨rfl, .inr (.inr ?_)⟩), .inl ⟨0, ?_, ?_⟩⟩
  · intro n h
    cases h
    decide
  all_goals decide

/-- A report, a reply alone, a reply before a full reset, a reply behind which a request waits, and one whose reply is to come. -/
theorem witness_TransmitterChoosesNext :
    let r : Reply := ⟨0x8D#8, 3, true, ⟨.ok, []⟩⟩
    let x : Report := ⟨0, 0, .run, .traceFull 0 0⟩
    (base .run).pins.resetHeld = false ∧
      (let s := withPort { resetPort 1 with tx := .report x, reports := [x] } (base .run)
       s.port.tx = .report x ∧ s.port.fullReset = none) ∧
      (let s := withPort { resetPort 1 with tx := .reply, replies := [r] } (base .run)
       s.port.tx = .reply ∧ s.port.replies = [r] ∧ s.port.requests = [] ∧ s.port.fullReset = none) ∧
      (let s := withPort { resetPort 1 with tx := .reply, replies := [r], fullReset := some ⟨true, false⟩ } (base .run)
       s.port.fullReset = some ⟨true, false⟩ ∧ r.served = true) ∧
      (let s := withPort { resetPort 1 with tx := .reply, replies := [r], requests := [⟨0x0D#8, 3, .stopRun⟩] } (base .run)
       s.port.serving = false ∧ s.port.receiving = false ∧ requestParts (.stopRun 3) = some (0x0D#8, 3, []) ∧
         (Instr.stopRun 3).wf = true ∧ decodeRequest 0x0D#8 [] = .stopRun ∧ (0x0D#8).toNat < 128 ∧
         (takeRequest .stopRun s).2.isSome = true ∧ (takeRequest .storeCommissioning (base .config)).2.isNone = true) := by
  decide +kernel

/-- Among them a computation in progress: one that began outside a run, one that entered STOPPING, one made void, and one since
which a request has, or has not, changed a station's record. -/
theorem witness_ReadsChangeNothing :
    (base .config).takes ∧ (base .run).takes ∧ (base .run).stations[0] = some rec0 ∧ (base .run).stations[7] = none ∧
      (base .run).paramValue 39 = none ∧ 21 < 39 ∧ 39 = 32 + (7 : Station).val ∧ (base .run).paramValue 33 = some 0 ∧
      (takeGetStation 0 (base .run)).2.status = .ok ∧
      (takeGetStation 0 (base .run)).2.body.length = (takeGetStation 1 (withRec geared (base .run))).2.body.length ∧
      (base .run).portFree ∧ (base .run).comp = none ∧ (base .run).computationFollows = true ∧
      (cycleCloseWith (fun _ => .beforeLink) (base .run)).computationFollows = true ∧
      (let k := { comp0 .run false with stopped := some resetPlayer }
       (computing k (base .stopping)).portFree ∧ (computing k (base .stopping)).comp = some k ∧ k.stopped = some resetPlayer ∧
         (computing k (base .stopping)).run.op = .stopping) ∧
      (comp0 .ready false).stopped = none ∧ ({ comp0 .run false with void := true } : Computation).began = .run ∧
      (let k := { comp0 .run false with recordsBefore := (Vector.replicate 8 none).set 0 (some geared) }
       let s := computing { k with records := (Vector.replicate 8 none).set 0 (some rec0) } (base .run)
       (computing k (base .run)).stations[0] = some rec0 ∧ k.records[0] ≠ some rec0 ∧ s.stations[0] ≠ none ∧
         s.comp.map (fun k => k.records[0]) = some (s.stations[0]) ∧ k.recordsBefore[0] = some geared) := by
  decide +kernel

theorem witness_CommissioningWritesTheSet :
    (base .config).takes ∧ (base .config).store.locked = false ∧ cellInRange cell0 = true ∧ parseStation rawLeft = some left0 ∧
      duplicatePosition (base .config).store.blocks 0 left0 = false ∧ (base .config).tableFollows = true ∧
      (base .config).stations[0] ≠ none ∧ (after (.commissionStationClear 1 0) (base .config)).stations[0] = none := by
  decide +kernel

theorem witness_LeaveConfigLocksTheSet :
    let s (x : Store) : State := { base .config with store := x }
    let x := (base .config).store
    (s { x with cell := none }).takes ∧ (s { x with blocks := blocks0.set 1 none }).store.blocks[1] = none ∧
      inMask cell0.mask 1 = true ∧ x.blocks[0] ≠ none ∧ (base .config).takes ∧ (base .config).pins.estop = false ∧
      (∀ m : Station, inMask cell0.mask m = true → x.blocks[m] ≠ none) ∧
      (let u : State := busyTx { base .config with pins := { resetPins with estop := true } }
       u.takes ∧ u.pins.estop = true ∧ told (after (.leaveConfig 1) u).port.reports =
         [(0, .settle, .state .config .settle .leaveConfig none 0 .road false false),
          (0, .settle, .fault { kind := .estop } (some (0, 1)) true .one false),
          (0, .safe, .state .settle .safe .fault (some .estop) 0 .road false false)]) := by decide +kernel

/-- LOCK_WINDOW one below SLIP_WINDOW and SLIP_WINDOW one above LOCK_WINDOW among them. -/
theorem witness_ParametersAreStoredClamped :
    (base .run).takes ∧ (base .run).store.cell = some cell0 ∧ cell0.massMin ≤ cell0.massMax ∧
      ({ base .config with store := resetStore } : State).takes ∧ (base .run).stations[1] ≠ none ∧
      (base .run).stations[7] = none ∧ (base .run).paramsInRange = true ∧ (16, 1, 4) ∈ parameterTable ∧
      max 1 (min 1000000 511) < (base .run).params.slipWindow ∧ (base .run).params.lockWindow < max 2 (min 4000000 65) := by
  decide +kernel

/-- A segment at its bounds, one outside them, three and four segments waiting. -/
theorem witness_SegmentsAreQueued :
    (base .ready).takes ∧ (base .run).takes ∧ (base .safe).takes ∧
      segmentInRange 12000 { seg0 with grade := -3000, phase := some 15, points := List.replicate 48 ⟨1, 12000⟩ } = true ∧
      segmentInRange 12000 { seg0 with points := List.replicate 49 ⟨1, 12000⟩ } = false ∧
      (withPlayer { resetPlayer with waiting := [seg0, seg0, seg0, seg0] } (base .run)).takes := by decide +kernel

/-- The four reports of a run with a segment that opens a phase and one station. -/
theorem witness_StartRunBeginsARun :
    let s := withPlayer { resetPlayer with waiting := [seg0] } (base .ready)
    let sum : Summary := ⟨0, 0, 0, none⟩
    told (after (.startRun 9 1 7 1 0) (busyTx s)).port.reports =
      [(0, .ready, .segmentStarted 101 0 0), (0, .ready, .phase 1 none 0 0),
       (0, .ready, .station 0 .idle .capture .startRun none 0 0 0 sum),
       (0, .run, .state .ready .run .startRun none 7 .speed false false)] ∧
    (base .ready).takes ∧ (base .ready).run.op = .ready ∧ (base .ready).faults.reaction = .none ∧
      (∀ n : Station, inMask 3 n = true → (base .ready).stations[n] ≠ none) ∧ s.takes ∧ s.player.waiting ≠ [] := by
  decide +kernel

theorem witness_RequestsAreRefused :
    (ops.all fun op => decide (base op).takes) = true ∧ inMask 4 2 = true ∧ (base .run).stations[2] = none ∧
      (base .run).store.locked = true ∧ (base .config).store.locked = false ∧ cellInRange { cell0 with vmax := 99 } = false ∧
      parseStation { rawLeft with cpr := 4095 } = none ∧ (base .config).store.blocks[0] = some left0 ∧
      (let s (x : Store) : State := { base .config with store := x }
       let x := (base .config).store
       (s { x with cell := none }).takes ∧ (s { x with blocks := blocks0.set 1 none }).takes ∧
         (s { x with blocks := blocks0.set 1 none }).store.blocks[1] = none ∧ inMask cell0.mask 1 = true ∧ x.blocks[0] ≠ none ∧
         replied (after (.storeCommissioning 1) (s { x with blocks := blocks0.set 1 none })) =
           some ⟨.badValue, [.u8 1, .u8 1]⟩) := by decide +kernel

theorem witness_StopRunEntersStopping :
    (base .run).takes ∧ (base .stopping).takes ∧ (base .ready).takes ∧
      (let s := withPlayer { resetPlayer with mode := .held, active := some seg0, lastTag := some 101 } (base .run)
       s.takes ∧ told (after (.stopRun 1) (busyTx s)).port.reports =
         [(0, .stopping, .profileEnd .stopped (some 101) 0),
          (0, .stopping, .state .run .stopping .stopRun none 0 .road false false)]) := by decide +kernel

theorem witness_ReleaseHoldActs :
    (held seg0 []).takes ∧ (held seg0 []).player.mode = .held ∧ (held seg0 []).player.active = some seg0 ∧ seg0.last = false ∧
      (held { seg0 with last := true } [seg0]).takes ∧ (base .run).player.mode ≠ .held ∧
      (held seg0 []).run.mode = .road ∧
      (let s : State := { held seg0 [] with run := { (held seg0 []).run with mode := .speed },
                                            inForce := { (held seg0 []).inForce with underrunStop := true } }
       s.takes ∧ s.run.mode = .speed ∧ s.inForce.underrunStop = true ∧ s.run.op = .run) := by decide +kernel

theorem witness_RunResetActs :
    (ops.all fun op => decide (base op).takes && !(base op).pins.estop) = true ∧
      (let s : State := { base .safe with pins := { resetPins with estop := true } }
       s.takes ∧ s.run.op = .safe) ∧
      ({ base .config with pins := { resetPins with estop := true } } : State).takes ∧
      (let s := computing (comp0 .stopping true) { base .stopping with run := { (base .stopping).run with orderly := true } }
       s.link.running = true ∧ s.run.orderly = true ∧ s.pins.estop = false) := by decide +kernel

theorem witness_ClearFaultActs :
    (ops.all fun op => decide (base op).takes) = true ∧
      ({ base .safe with pins := { resetPins with estop := true } } : State).takes ∧
      (let s := busyTx (withRec { rec0 with state := .faulted, cause := some .slipTime, e := 5, measured := 9 } (base .safe))
       s.takes ∧ told (after (.clearFault 1) s).port.reports =
         [(0, .safe, .station 0 .faulted .idle .clearFault none 0 9 0 ⟨0, 0, 0, none⟩),
          (0, .settle, .state .safe .settle .clearFault none 0 .road false false)]) := by decide +kernel

theorem witness_StationsMoveByRequest :
    let r : StationRec := { rec0 with state := .faulted, cause := some .slipTime, judgement := some .accepted }
    (withRec r (base .run)).takes ∧ (∀ n : Station, inMask 3 n = true → (withRec r (base .run)).stations[n] ≠ none) ∧
      2 ≤ (base .run).params.reportLevel ∧ (base .run).port.reports.length ≤ 24 := by decide +kernel

/-- One and two items waiting, and an item of age 3, also at a cycle close. -/
theorem witness_ServiceItemsAreCarriedOut :
    let i : ServiceItem := ⟨.read, 1, 0⟩
    (base .config).takes ∧ (base .safe).takes ∧ (base .run).stations[2] = none ∧ (base .run).stations[0] ≠ none ∧
      (withLink { resetLinkStation with waiting := [i] } (base .run)).link.st[0].waiting.length < 2 ∧
      2 ≤ (withLink { resetLinkStation with waiting := [i, i] } (base .run)).link.st[0].waiting.length ∧
      (let s := withLink { resetLinkStation with outstanding := some ⟨i, 3⟩ } (base .run)
       s.link.st[0].outstanding = some ⟨i, 3⟩ ∧ s.link.running = true ∧ s.stations[0] = some rec0) ∧
      (let s := busyTx (withPort { resetPort 1 with reports := List.replicate 8 ⟨0, 0, .run, .traceFull 0 0⟩ }
         (withLink { resetLinkStation with outstanding := some ⟨i, 3⟩ } { base .run with params := { resetParams with reportLevel := 3 } }))
       s.port.tx ≠ .idle ∧ s.port.reports.length ≤ 8 ∧
         (told ((cycleCloseWith (fun _ => .afterSilence) s).port.reports.drop 8)).filter (fun x => isServiceDone x.2.2) =
           [(0, .run, .serviceDone 0 i .timeout 0)]) := by
  decide +kernel

/-- Triggers at the ends of their ranges, free and full tables, an entry of another kind. -/
theorem witness_EventRequestsChangeTheTable :
    triggerIs (.distance 4294967295 1000000) (.distance 4294967295 1000000 4294967295) ∧
      triggerIs (.cycle 63 63) (.cycle 63 63) ∧ triggerIs (.traceTime 0) (.traceTime 0) ∧ (base .ready).takes ∧
      (withEvent (event0 (.traceTime 7) 1) (base .ready)).takes ∧
      (withEvent (event0 (.traceTime 7) 1) (base .ready)).events.entries[1] = none ∧
      (event0 (.traceTime 7) 1).trigger.modify (.cycle 63 63) = none ∧
      (∀ i : Fin 16, (Vector.replicate 16 (some (event0 (.traceTime 7) 1)))[i] ≠ none) := by
  refine ⟨.inr (.inl ⟨_, _, rfl, ?_, ?_, ?_, rfl⟩), .inl ⟨63, 63, rfl, ?_, ?_, ?_⟩, .inr (.inr ⟨0, rfl, ?_, rfl⟩), ?_⟩ <;>
    decide +kernel

/-- A trigger value just out of its range, of each kind. -/
theorem witness_EventRequestsChangeTheTable_range : (∀ x, ¬triggerIs (.cycle 64 0) x) ∧ (∀ x, ¬triggerIs (.distance 0 0) x) ∧
    (∀ x, ¬triggerIs (.traceTime 4294967296) x) := by
  refine ⟨?_, ?_, ?_⟩ <;>
    (rintro x (⟨v, m, h, _⟩ | ⟨a, p, h, _⟩ | ⟨a, h, _⟩) <;> cases h <;> omega)

/-- A mark just reached and one just ahead, a trace time reached; a computation in a run, one outside, one made void. -/
theorem witness_CompletionEntriesFire :
    let s (g : Trigger) : State := withEvent (event0 g 1) { base .run with axle := { resetAxle with whole := 7000000 } }
    (s (.distance 7 5 7)).events.entries[0] = some (event0 (.distance 7 5 7) 1) ∧
      (7 : Int) ≤ (s (.distance 7 5 7)).axle.whole.tdiv 1000000 ∧ (s (.distance 8 5 8)).axle.whole.tdiv 1000000 < 8 ∧
      (s (.traceTime 0)).player.clock.toNat = 0 ∧ (s (.cycle 0 0)).run.op = .run ∧ (comp0 .run false).began = .run ∧
      (comp0 .run false).void = false ∧ (comp0 .ready false).began = .ready ∧
      ({ comp0 .run false with void := true } : Computation).void = true ∧ (base .run).link.running = true ∧
      (computing (comp0 .ready false) (base .run)).comp = some (comp0 .ready false) ∧
      (comp0 .run false).standstill = false ∧ (base .safe).link.running = true ∧ (base .safe).run.op = .safe ∧
      (let e : EventEntry := { event0 (.distance 7 5 7) 1 with actions := ⟨true, true, true, true⟩ }
       let u := busyTx (withEvent e (computing (comp0 .run false)
         { s (.cycle 0 0) with params := { resetParams with reportLevel := 4 } }))
       let t := completionWith (fun _ => .eventsCaptureEnd) u
       u.port.tx ≠ .idle ∧ u.port.reports.length ≤ 8 ∧ told t.port.reports = [(0, .run, .eventDistance 0 7 7 12)] ∧
         t.stats.snap.entry = some 0 ∧ t.events.markPending = true ∧ t.trace.waiting = true ∧ u.trace.waiting = false) := by
  decide +kernel

theorem witness_StatisticsAreConfigured :
    (base .ready).takes ∧ (base .ready).stations[1] ≠ none ∧ (base .ready).stations[7] = none ∧
      (∀ m : LaneMode, 4 ≠ m.code) ∧ LaneMode.weighted.code = 3 := by
  refine ⟨by decide +kernel, by decide +kernel, by decide +kernel, fun m => ?_, rfl⟩
  cases m <;> decide

/-- A buffer one record short of its capacity and a full one, by a mask of eight stations; a count that the decimation divides and
one that it does not. -/
theorem witness_TraceIsSetFilledAndRead :
    (base .ready).takes ∧ (∀ n : Station, inMask 3 n = true → (base .ready).stations[n] ≠ none) ∧ inMask 4 2 = true ∧
      (base .ready).stations[2] = none ∧ 8192 / (3 + 3 * (stationList.filter (inMask 0xFF#8)).length) = 303 ∧
      (base .run).run.op = .run ∧ (computing (comp0 .ready false) (base .run)).comp = some (comp0 .ready false) ∧
      (comp0 .ready false).standstill = false ∧ (computing (comp0 .run false) (base .safe)).run.op = .safe ∧
      (comp0 .run false).capture = false ∧ (0#32).toNat % 10 = 0 ∧ (11#32).toNat % 10 ≠ 0 := by
  decide +kernel

theorem witness_RoadStepFollowsTheForces :
    (0 : Int) ≤ 2184533333333 ∧ (25000 : Int) - roundDiv (18000 * 0 * 980665) 100000000 ≤ road.a ∧
      (road.a : Int) < 25001 - roundDiv (18000 * 0 * 980665) 100000000 ∧
      -25001 - roundDiv (18000 * 0 * 980665) 100000000 < -(road.a : Int) := by decide +kernel

/-- A half and its negative, and a divisor of 1; the count deltas are in test_delta. -/
theorem witness_RoundingIsToNearest : (0 : Int) < 2 ∧ roundDiv 5 2 = 3 ∧ roundDiv (-5) 2 = -3 ∧ (0 : Int) < 1 := by decide

theorem witness_StopRampReachesStandstill :
    let s := { base .stopping with axle := { resetAxle with v := 163840000 * 2 }, pending := List.replicate 2 .cycleClose }
    s.link.running = true ∧ s.run.op = .stopping ∧
      (s.axle.v.natAbs : Int) ≤ 2 * roundDiv ((s.cell.stopDecel : Int) * s.cell.period * s.cell.period * 65536) 100000 := by
  decide +kernel

/-- A close with a degraded lane, a service item that times out, a station lost and OVERSPEED: its reports in their order. -/
theorem witness_CycleCloseRaisesAndReports :
    let i : ServiceItem := ⟨.read, 1, 0⟩
    let x := { resetLinkStation with repA := some ⟨0, 63, 1, 0, .running, 0, none⟩, streakB := 63, outstanding := some ⟨i, 3⟩ }
    let s : State := busyTx (setStation 1 { rec1 with miss := 4 } (withLink x { base .run with
      run := { (base .run).run with mode := .speed }, axle := { resetAxle with v := 900000000000, vLimit := 0 }
      params := { resetParams with reportLevel := 3 } }))
    s.link.running = true ∧ s.port.reports = [] ∧
      ((told (cycleCloseWith (fun _ => .beforeLink) s).port.reports).map fun x => (x.1, x.2.1)) =
        [(1, .run), (1, .run), (1, .run), (1, .run), (1, .run), (1, .stopping)] ∧
      (cycleCloseWith (fun _ => .beforeLink) s).faults.entries.map FaultEntry.kind =
        [.laneDegraded, .stationLost, .overspeed] := by decide +kernel

theorem witness_GearingIsExact :
    geared.state = .locked ∧ 0 < geared.cnm ∧ 0 ≤ geared.residue ∧ geared.residue < geared.cnm ∧ rec0.state ≠ .locked ∧
      geared.tLast.natAbs + ([13500018, -5].map fun d : Int => d.natAbs * geared.block.cpr).sum + geared.cnm.natAbs ≤
        4611686018427387904 ∧ (base .run).stations[0] = some rec0 := by decide +kernel

/-- The delta 58 against the advance 59 with JUMP_LIMIT 1 and 0, and the errors at and beyond SLIP_WINDOW; then, clause by clause,
each lock state with an observation it accepts, a tripped drive, a miss, and a changed circumference trim. -/
theorem witness_JudgingMovesTheStation :
    (geared.state = .locked ∧ geared.baseline = true ∧ resetParams.circTrim[0] = geared.trimPpm ∧
      geared.miss < resetParams.missLimit ∧ resetParams.missLimit ≤ 15 ∧
      (countDelta 999993 geared.lastRaw - (geared.tNext - geared.tAccept)).natAbs = 1 ∧ geared.e.natAbs ≤ 512 ∧
      (geared.tNext - (geared.measured + countDelta 999488 geared.lastRaw)).natAbs = 512 ∧
      (geared.tNext - (geared.measured + countDelta 999487 geared.lastRaw)).natAbs = 513 ∧
      16777215 < (({ geared with tNext := 20000000, tAccept := 19999942 } : StationRec).tNext -
        (geared.measured + countDelta 999993 geared.lastRaw)).natAbs) ∧
    (resetParams.circTrim[0] = rec0.trimPpm ∧ rec0.state = .idle ∧ rec0.baseline = false ∧
      (slipping .faulted 0 0).state = .faulted ∧ DriveState.running ≠ .tripped) ∧
    (let f (e : Int) (d : Word32) : Nat := ((slipping .slip 2 e).tNext - ((slipping .slip 2 e).measured + countDelta d 0)).natAbs
     f 64 0 = 64 ∧ f 65 0 = 65 ∧ resetParams.lockWindow = 64 ∧ resetParams.lockWindow < resetParams.slipWindow ∧
       (slipping .slip 1999 65).slipTimer + 1 ≤ resetParams.slipTime ∧ resetParams.slipTime ≤ 65534) ∧
    (let within (d : Word32) : Bool := decide (((countDelta d capturing.lastRaw * 256).tdiv (min 65535 (capturing.since + 1) : Nat) -
        capturing.intervalFf).natAbs ≤ resetParams.captureWindow)
     within 2000059 = true ∧ within 2000061 = false ∧ resetParams.captureCycles ≤ min 64 (31 + 1) ∧
       min 64 (30 + 1) < resetParams.captureCycles ∧ 1 ≤ resetParams.captureCycles ∧ min 65535 (3999 + 1) ≤ resetParams.captureLimit) ∧
    (geared.miss + 1 ≤ resetParams.missLimit ∧ ({ resetParams with circTrim := resetParams.circTrim.set 0 100 } : Params).circTrim[0] ≠
      geared.trimPpm) ∧
    (resetParams.missLimit < min 16 (({ geared with miss := 4 } : StationRec).miss + 1) ∧ resetParams.slipWindow < 513 ∧
      resetParams.slipTime < min 65535 ((slipping .slip 2000 65).slipTimer + 1) ∧
      resetParams.captureLimit < min 65535 (({ capturing with age := 4000 } : StationRec).age + 1) ∧
      ([geared, capturing, slipping .slip 0 0, { rec0 with baseline := true }].all fun r =>
        decide (r.state ≠ .faulted ∧ r.baseline = true ∧
          resetParams.jumpLimit < (countDelta (r.lastRaw + 100000) r.lastRaw - expectedMove r).natAbs)) = true) ∧
    (withRec geared (base .run)).link.running = true ∧ (withRec geared (base .run)).stations[0] = some geared ∧
      (base .run).stations[2] = none := by decide +kernel

/-- Each lock state, and a counter whose first cut is at the close, one report short of a full queue. -/
theorem witness_AssemblyFormsTheDemand :
    (let c : Counter := { resetCounter with enable := true, slip := true, accumulate := true, working := 65535 }
     let s : State := busyTx (withPort { resetPort 1 with reports := List.replicate 30 ⟨0, 0, .run, .traceFull 0 0⟩ }
       (withRec (slipping .slip 0 520) { base .run with
         stats := { (base .run).stats with counters := (base .run).stats.counters.set 2 c }
         params := { resetParams with countEnable := true, reportLevel := 4 } }))
     let t := cycleCloseWith (fun _ => .beforeLink) s
     s.port.tx ≠ .idle ∧ t.port.reports.length < 32 ∧ firstCuts s t = [.counterSaturated 2 none true]) ∧
    (base .run).link.running = true ∧ rec0.state = .idle ∧ capturing.state = .capture ∧ geared.state = .locked ∧
      (slipping .faulted 0 0).state = .faulted ∧ (slipping .slip 0 0).state = .slip := by decide +kernel

theorem witness_MonitorMeasuresWindUp :
    (stationList.filter fun n : Station => (truck.monitorNext.surface[n]).isSome).length = 4 ∧
      (stationList.filter fun n : Station => ((base .run).monitorNext.surface[n]).isSome).length = 0 ∧
      truck.stations[2].isSome = true ∧ truck.link.running = true ∧ (base .settle).link.running = true ∧
      (let m := { truck.monitor with timer := truck.cell.windupTime }
       ({ truck with monitor := m } : State).windsUp ({ truck with monitor := m } : State).monitorNext = true ∧
         truck.run.op = .run ∧ truck.faults.reaction = .none ∧ truck.faults.overflow = false ∧
         truck.monitor.warn = false ∧ truck.monitorNext.warn = true) := by decide +kernel

/-- A list of eight entries, one of seven, and one that holds the raise's identity; 31 reports waiting. -/
theorem witness_RaisesAreDecided :
    let s (n : Nat) := withFaults { resetFaults with entries := List.replicate n slipEntry } (base .run)
    8 ≤ (s 8).faults.entries.length ∧ (s 7).faults.entries.length < 8 ∧
      (∀ e ∈ (s 8).faults.entries, e.kind ≠ .estop ∨ e.station ≠ none ∨ e.lane ≠ none) ∧ FaultKind.level .overspeed = 2 ∧
      FaultKind.level .estop = 1 ∧ FaultKind.level .stationSlip = 3 ∧ FaultKind.level .underrun = 4 ∧
      (s 1).faults.entries = [] ++ slipEntry :: [] ∧ slipEntry.kind = .stationSlip ∧ slipEntry.station = some 0 ∧
      slipEntry.lane = none ∧ (s 7).port.reports.length < 32 ∧ 3 ≤ (s 7).params.reportLevel := by decide +kernel

/-- A step that serves CLEAR_FAULT at reaction level 1, by its row and from the queue. -/
theorem witness_RaisesAreDecided_step :
    let s := withFaults { resetFaults with reaction := .one, entries := [slipEntry] } (base .safe)
    servesClearFault (queued (.clearFault 1) s) ∧
      servesClearFault (withPort { resetPort 1 with requests := [⟨0x1C#8, 1, .clearFault⟩] } s) ∧
      goes (queued (.clearFault 1) s) = true ∧ severity (after (.clearFault 1) s).faults.reaction = 4 ∧
      severity s.faults.reaction = 1 :=
  ⟨.inr ⟨by decide, _, _, rfl, .inl ⟨1, rfl⟩⟩, .inl ⟨_, _, rfl, rfl⟩, by decide +kernel, by decide +kernel, by decide⟩

/-- Observations of both stations and of none, at a cycle close and before; the fifteenth and sixteenth valid cycle, the timer at
its end, the silence one below the limit. -/
theorem witness_SettleAndSilenceThresholds :
    let s := setLinkStation 1 { resetLinkStation with obs := some (seen 1) }
      (withLink { resetLinkStation with obs := some (seen 1) } (base .settle))
    (s.store.cell = some cell0 ∧ cellInRange cell0 = true ∧ s.link.st[0].obs = some (seen 1) ∧
      s.link.st[1].obs = some (seen 1) ∧ cell0.settleCount ≤ 15 + 1 ∧ 16 * cell0.settleCount ≤ 255 + 1 ∧
      (base .settle).link.st[0].obs = none ∧ 7 + 1 = cell0.linkLostLimit ∧ (busyTx s).port.tx ≠ .idle) ∧
    (let r (n : Nat) : StationReport := ⟨n, 63, 1, 0, .running, 0, none⟩
     let u := setLinkStation 1 { resetLinkStation with repA := some (r 1), repB := some (r 1) }
       (withLink { resetLinkStation with repA := some (r 0), repB := some (r 0) } (base .settle))
     let t := cycleCloseWith (fun _ => .beforeLink) { u with run := { u.run with settleCount := 15 } }
     u.link.running = true ∧ (t.link.st[0].obs.map Observation.code, t.link.st[1].obs.map Observation.code, t.run.op) =
       (some 0, some 0, .ready) ∧
     (let v := cycleCloseWith (fun _ => .beforeLink) { base .settle with run := { (base .settle).run with settleTimer := 255 } }
      (v.link.st[0].obs, v.run.op) = (some .silent, .safe)) ∧
     (cycleCloseWith (fun _ => .beforeLink) (withFaults { resetFaults with silence := 7 } (base .run))).run.op = .safe ∧
     (cycleCloseWith (fun _ => .beforeLink) (withFaults { resetFaults with silence := 6 } (base .run))).run.op = .run) := by decide +kernel

theorem witness_LinkAndTraceThresholds :
    let x := { resetLinkStation with obs := some .silent, outstanding := some ⟨⟨.read, 40, 0⟩, 3⟩, streakA := 63,
                                     repB := some ⟨0, 63, 1, 0, .running, 0, none⟩ }
    let y := { resetPlayer with mode := .playing, active := some seg0, speed := 201, excursion := 1000 }
    let s := withPlayer y (withLink x (base .run))
    (s.link.running = true ∧ s.stations[0] = some rec0 ∧ rec0.block.lanes = .ab ∧ s.link.st[0].obs = some .silent ∧
      s.link.st[0].repA = none ∧ (s.inForce.tolBand : Int) < (displaySpeed s.axle.v s.cell.period - s.player.speed).natAbs ∧
      s.inForce.tolTime < s.player.excursion + 1 ∧ s.inForce.tolTime ≤ 10000 ∧ s.run.mode = .road) ∧
    (let z := withLink { x with repA := x.repB, repB := none, streakA := 0, streakB := 63 } (base .run)
     z.link.st[0].repA = some ⟨0, 63, 1, 0, .running, 0, none⟩ ∧ z.link.st[0].repB = none ∧ z.link.st[0].streakB = 63) ∧
      (let u := { truck with monitor := { truck.monitor with timer := 3 } }
       u.run.op = .run ∧ u.faults.reaction = .none ∧ u.monitorNext.spread = some 4754 ∧
         u.monitorNext.trailing.isSome = true ∧
         (u.cell.windupLimit : Int) < 4754 ∧ u.monitor.timer = u.cell.windupTime ∧ u.cell.windupTime ≤ 1000) := by decide +kernel

/-- A fifth miss of each cause, a capture age of 4,001, a slip timer of 2,001, a thirty-second capture cycle. -/
theorem witness_StationThresholds :
    let p := resetParams
    (base .run).link.running = true ∧ p.circTrim[0] = geared.trimPpm ∧ 1 ≤ p.captureCycles ∧
      p.missLimit < ({ geared with miss := 4 } : StationRec).miss + 1 ∧
      p.captureLimit < ({ capturing with age := 4000 } : StationRec).age + 1 ∧
      p.lockWindow < (slipping .slip 2000 520).e.natAbs ∧ p.slipTime < (slipping .slip 2000 520).slipTimer + 1 ∧
      (withLink { resetLinkStation with obs := some .disagree } (base .run)).link.st[0].obs = some .disagree ∧
      p.jumpLimit < (countDelta 1004090 geared.lastRaw - (geared.tNext - geared.tAccept)).natAbs + 1 ∧
      p.jumpLimit < (countDelta 1004091 geared.lastRaw - (geared.tNext - geared.tAccept)).natAbs ∧
      (let r := { capturing with streak := 31 }
       let d := countDelta 2000059 r.lastRaw
       (d - (r.intervalFf * 1).tdiv 256).natAbs ≤ p.jumpLimit ∧ ((d * 256).tdiv 1 - r.intervalFf).natAbs ≤ p.captureWindow ∧
         p.captureCycles ≤ min 64 (r.streak + 1)) ∧
      (let s := withRec { geared with miss := 4 } (withLink { resetLinkStation with obs := some .silent } (base .run))
       (after (.stationLost 0 .silent) s).faults.entries.map (fun e => (e.kind, e.cause)) = [(.stationLost, some .lostSilent)]) := by
  decide +kernel

end Sys2Proof.Tests
end

section
/-! SUPPORT. What the shared operations can change: the frame of a station's move, of a reaction to a fault and of a
report, each said once as an equality of states. -/

namespace Sys2Proof.Machine

/-! ### Masks and station lists -/

theorem mem_stationList (n : Station) : n ∈ stationList := by
  match n with | 0 | 1 | 2 | 3 | 4 | 5 | 6 | 7 => simp [stationList]

theorem stationList_nodup : stationList.Nodup := by decide

theorem everyStation_iff {p : Station → Bool} : everyStation p = true ↔ ∀ n, p n = true := by
  simp only [everyStation, List.all_eq_true]
  exact ⟨fun h n => h n (mem_stationList n), fun h n _ => h n⟩

/-! ### The stations in order -/

/-- One station's turn in `eachStation`. -/
def stationTurn (f : Station → StationRec → State → State) (n : Station) (s : State) : State :=
  match s.stations[n] with
  | some r => f n r s
  | none => s

/-- Induction along the station numbers: what holds when the stations of `l` have had their turn holds one station
further on. -/
theorem eachStation_progress {Q : List Station → State → Prop} {f : Station → StationRec → State → State} {s : State}
    (h0 : Q [] s) (hstep : ∀ l n t, n ∉ l → Q l t → Q (l ++ [n]) (stationTurn f n t)) :
    Q stationList (eachStation f s) := by
  have go : ∀ (rest l : List Station) (t : State), (l ++ rest).Nodup → Q l t →
      Q (l ++ rest) (rest.foldl (fun t n => stationTurn f n t) t) := by
    intro rest
    induction rest with
    | nil => intro l t _ h; simpa using h
    | cons n rest ih =>
      intro l t hd h
      have hn : n ∉ l := fun hm => (List.nodup_append.mp hd).2.2 n hm n (by simp) rfl
      have := ih (l ++ [n]) _ (by simpa using hd) (hstep l n t hn h)
      simpa using this
  exact go stationList [] s stationList_nodup h0

/-! ### A station's move -/

/-- `s` with the station records, what the replies show of them and the reports of `t`. -/
def State.movedTo (s t : State) : State :=
  { s with stations := t.stations, comp := t.comp, port := { s.port with reports := t.port.reports, lost := t.port.lost } }

/-- Only station records, what the replies show of the stations and the reports differ. -/
def Moved (s t : State) : Prop := t = s.movedTo t

theorem Moved.eq {s t : State} (h : Moved s t) : t = s.movedTo t := h

theorem Moved.refl (s : State) : Moved s s := rfl

theorem Moved.trans {s t u : State} (h : Moved s t) (k : Moved t u) : Moved s u :=
  Eq.trans k (congrArg (fun x => State.movedTo x u) h.eq : _ = (s.movedTo t).movedTo u)

theorem submit_moved (b : ReportBody) (s : State) : Moved s (submit b s) := by
  obtain ⟨q, l, h⟩ := submit_port b s
  rw [Moved, h]
  rfl

theorem setStation_moved (n : Station) (r : StationRec) (s : State) : Moved s (setStation n r s) := rfl

theorem updateSeen_moved (n : Station) (f : StationRec → StationRec) (s : State) : Moved s (updateSeen n f s) := rfl

theorem moveStation_moved (n : Station) (r : StationRec) (f : StationRec → StationRec) (reason : StationReason) (s : State) :
    Moved s (moveStation n r f reason s) :=
  ((setStation_moved n (f r) s).trans (updateSeen_moved n _ _)).trans (submit_moved _ _)

theorem eachStation_moved {f : Station → StationRec → State → State} (hf : ∀ n r t, Moved t (f n r t)) (s : State) :
    Moved s (eachStation f s) :=
  eachStation_induct (Moved.refl s) fun n r t _ h => h.trans (hf n r t)

/-- A move made where `p` holds and nowhere else. -/
theorem ite_moved {p : Prop} [Decidable p] {s t : State} (h : Moved s t) : Moved s (if p then t else s) := by
  split
  · exact h
  · exact Moved.refl s

theorem idleEngaged_moved (reason : StationReason) (s : State) : Moved s (idleEngaged reason s) :=
  eachStation_moved (fun n r t => ite_moved (moveStation_moved n r _ reason t)) s

theorem moveMask_moved (m : Mask) (f : StationRec → StationRec) (reason : StationReason) (s : State) :
    Moved s (moveMask m f reason s) :=
  eachStation_moved (fun n r t => ite_moved (moveStation_moved n r f reason t)) s

theorem clearStations_moved (s : State) : Moved s (clearStations s) :=
  eachStation_moved (fun n r t => ite_moved (moveStation_moved n r _ _ t)) s

theorem resetStations_moved (s : State) : Moved s (resetStations s) :=
  eachStation_moved (fun n r t => by
    split
    · exact setStation_moved n _ t
    · exact moveStation_moved n r _ _ t) s

/-! ### A reaction to a fault -/

/-- `s` with all that a raise can reach as it stands in `t`: the run controller's operating state and stop cause, a pending
orderly reset and the run's count enable, DRIVE_ENABLE, the fault list, the station records, the player, the event entries,
the axle's motion, the computation in progress and the reports. -/
def State.reactedTo (s t : State) : State :=
  { s with
    run := { s.run with op := t.run.op, stopCause := t.run.stopCause, countEnable := t.run.countEnable, orderly := t.run.orderly }
    pins := { s.pins with driveEnable := t.pins.driveEnable }
    faults := { t.faults with silence := s.faults.silence }
    axle := { s.axle with v := t.axle.v, whole := t.axle.whole, frac := t.axle.frac, adv := t.axle.adv }
    comp := t.comp, stations := t.stations, player := t.player
    events := { s.events with entries := t.events.entries }
    port := { s.port with reports := t.port.reports, lost := t.port.lost } }

/-- Only what a raise can reach differs. -/
def Reacted (s t : State) : Prop := t = s.reactedTo t

theorem Reacted.eq {s t : State} (h : Reacted s t) : t = s.reactedTo t := h

theorem Reacted.refl (s : State) : Reacted s s := rfl

theorem Reacted.trans {s t u : State} (h : Reacted s t) (k : Reacted t u) : Reacted s u :=
  Eq.trans k (congrArg (fun x => State.reactedTo x u) h.eq : _ = (s.reactedTo t).reactedTo u)

theorem Moved.reacted {s t : State} (h : Moved s t) : Reacted s t := by
  rw [Reacted, h]
  rfl

theorem submit_reacted (b : ReportBody) (s : State) : Reacted s (submit b s) := (submit_moved b s).reacted

theorem playerEnd_reacted (e : EndReason) (s : State) : Reacted s (playerEnd e s) :=
  Reacted.trans (t := { s with player := { s.player with active := none, mode := .ended, ended := some e } }) rfl
    (submit_reacted _ _)

theorem playerStop_reacted (s : State) : Reacted s (playerStop s) := by
  unfold playerStop
  split
  · exact playerEnd_reacted _ s
  · exact playerEnd_reacted _ s
  · exact playerEnd_reacted _ s
  · exact Reacted.refl s
  · exact Reacted.refl s

theorem enterStopping_reacted (c : StopCause) (k : Option FaultKind) (s : State) : Reacted s (enterStopping c k s) := by
  unfold enterStopping
  split
  · exact (Reacted.trans (t := { s with run := { s.run with op := .stopping, stopCause := some c } }) rfl
      (playerStop_reacted _)).trans (submit_reacted _ _)
  · exact Reacted.refl s

theorem voidComputation_reacted (s : State) : Reacted s (voidComputation s) := by
  unfold voidComputation
  split
  · exact Reacted.refl s
  · split
    · rfl
    · exact Reacted.refl s

/-- SAFE entered, as it stands before the stations are let go (R129). -/
def enteringSafe (s : State) : State :=
  let s := voidComputation { s with run := { s.run with op := .safe }, pins := { s.pins with driveEnable := false } }
  { s with axle := { s.axle with v := 0 } }

/-- The player emptied and the run's event entries removed, on an entry to SAFE from an operating state (R129). -/
def runAbandoned (prev : OpState) (s : State) : State :=
  let s := { s with player := s.player.emptied }
  if prev.inRun then removeRunEvents s else s

/-- Count enable, stop cause and pending orderly reset cleared (R129). -/
def runCleared (s : State) : State :=
  { s with run := { s.run with countEnable := false, stopCause := none, orderly := false } }

theorem enterSafe_eq (k : FaultKind) (s : State) : enterSafe k s =
    submitState s.run.op .fault (some k) (runAbandoned s.run.op (idleEngaged .safe (enteringSafe s))).run.orderly
      (runCleared (runAbandoned s.run.op (idleEngaged .safe (enteringSafe s)))) := rfl

theorem enteringSafe_reacted (s : State) : Reacted s (enteringSafe s) :=
  ((Reacted.trans (s := s) (t := ({ s with run := { s.run with op := .safe }, pins := { s.pins with driveEnable := false } }
    : State)) rfl (voidComputation_reacted _)).trans rfl)

theorem runAbandoned_reacted (prev : OpState) (s : State) : Reacted s (runAbandoned prev s) := by
  unfold runAbandoned
  split <;> rfl

theorem enterSafe_reacted (k : FaultKind) (s : State) : Reacted s (enterSafe k s) := by
  rw [enterSafe_eq]
  have hr : ∀ t, Reacted t (runCleared t) := fun t => rfl
  exact ((((enteringSafe_reacted s).trans (idleEngaged_moved _ _).reacted).trans (runAbandoned_reacted _ _)).trans (hr _)).trans
    (submit_reacted _ _)

theorem recordRaise_silence (f : Raise) (now : Word32) (op : OpState) (m : Faults) :
    (recordRaise f now op m).1.silence = m.silence := by
  unfold recordRaise
  split
  · rfl
  · split <;> rfl

theorem take_silence (f : Raise) (now : Word32) (op : OpState) (m : Faults) : (m.take f now op).silence = m.silence :=
  recordRaise_silence f now op m

theorem react_reacted (k : FaultKind) (s : State) : Reacted s (react k s) := by
  unfold react
  split
  · split
    · exact enterSafe_reacted k s
    · exact Reacted.refl s
  · exact enterStopping_reacted _ _ s
  · exact Reacted.refl s

theorem updateFaults_take_reacted (f : Raise) (now : Word32) (op : OpState) (s : State) :
    Reacted s (updateFaults (Faults.take f now op) s) := by
  have h : (Faults.take f now op s.faults).silence = s.faults.silence := take_silence f now op s.faults
  show _ = State.reactedTo s _
  simp only [State.reactedTo, updateFaults, ← h]

theorem raiseFault_reacted (f : Raise) (s : State) : Reacted s (raiseFault f s) := by
  have h := (updateFaults_take_reacted f s.run.count s.run.op s).trans (submit_reacted (.fault f
    (recordRaise f s.run.count s.run.op s.faults).2 (s.faults.reaction.accepts f.kind.level)
    (updateFaults (Faults.take f s.run.count s.run.op) s).faults.reaction
    (updateFaults (Faults.take f s.run.count s.run.op) s).faults.overflow) _)
  unfold raiseFault
  simp only []
  split
  · exact h.trans (react_reacted _ _)
  · exact h

section
variable {s t : State} (h : Reacted s t)
include h
theorem Reacted.link : t.link = s.link := by rw [h.eq]; rfl
theorem Reacted.store : t.store = s.store := by rw [h.eq]; rfl
theorem Reacted.stats : t.stats = s.stats := by rw [h.eq]; rfl
theorem Reacted.trace : t.trace = s.trace := by rw [h.eq]; rfl
theorem Reacted.params : t.params = s.params := by rw [h.eq]; rfl
theorem Reacted.inForce : t.inForce = s.inForce := by rw [h.eq]; rfl
theorem Reacted.monitor : t.monitor = s.monitor := by rw [h.eq]; rfl
theorem Reacted.mem : t.mem = s.mem := by rw [h.eq]; rfl
theorem Reacted.estop : t.pins.estop = s.pins.estop := by rw [h.eq]; rfl
theorem Reacted.resetHeld : t.pins.resetHeld = s.pins.resetHeld := by rw [h.eq]; rfl
theorem Reacted.count : t.run.count = s.run.count := by rw [h.eq]; rfl
theorem Reacted.vLimit : t.axle.vLimit = s.axle.vLimit := by rw [h.eq]; rfl

/-- The blocks a raise can reach, each as it stands in `t`. -/
theorem Reacted.frame : t = { s with
    run := t.run, pins := t.pins, faults := t.faults, axle := t.axle, comp := t.comp, stations := t.stations
    player := t.player, events := t.events, port := { s.port with reports := t.port.reports, lost := t.port.lost } } := by
  have hrun : t.run = (s.reactedTo t).run := congrArg State.run h.eq
  have hpins : t.pins = (s.reactedTo t).pins := congrArg State.pins h.eq
  have hfaults : t.faults = (s.reactedTo t).faults := congrArg State.faults h.eq
  have haxle : t.axle = (s.reactedTo t).axle := congrArg State.axle h.eq
  have hevents : t.events = (s.reactedTo t).events := congrArg State.events h.eq
  rw [hrun, hpins, hfaults, haxle, hevents]
  exact h.eq
end

end Sys2Proof.Machine
end

section
/-! SUPPORT. What a step can do to the operating state, DRIVE_ENABLE, the link, the lock, the player, the counters, the trace
and the memory: the relation `Change` says it once, and every command is shown to be a chain of such changes. The
invariants of these parts are read off it. -/

namespace Sys2Proof.Machine

/-! ### The parts the invariants speak of -/

/-- The operating state with its outputs, and the bounded parts of the state. -/
structure View where
  op : OpState
  drive : Bool
  running : Bool
  locked : Bool
  st : Vector LinkStation 8
  player : Player
  counters : Vector Counter 4
  snap : Vector Nat 4
  mask : Mask
  records : List (List Word32)
  mem : Memory

/-- These parts of a state. -/
def State.view (s : State) : View :=
  { op := s.run.op, drive := s.pins.driveEnable, running := s.link.running, locked := s.store.locked, st := s.link.st,
    player := s.player, counters := s.stats.counters, snap := s.stats.snap.values, mask := s.trace.mask,
    records := s.trace.records, mem := s.mem }

/-- At most two service items wait, and an outstanding one is younger than four cycle closes (R13, R18). -/
def LinkStation.queued (x : LinkStation) : Prop := x.waiting.length ≤ 2 ∧ ∀ o, x.outstanding = some o → o.age < 4

/-- Both lane-degraded streaks lie within 64 (R10). -/
def LinkStation.streaked (x : LinkStation) : Prop := x.streakA ≤ 64 ∧ x.streakB ≤ 64

/-- A station of the drive link controller keeps its bounds. -/
def LinkStation.Keeps (x y : LinkStation) : Prop := (x.queued → y.queued) ∧ (x.streaked → y.streaked)

/-- The counters and the snapshot lie within 65,535 (R165, R172). -/
def countsBounded (cs : Vector Counter 4) (v : Vector Nat 4) : Prop :=
  ∀ k : Fin 4, cs[k].working ≤ 65535 ∧ cs[k].published ≤ 65535 ∧ v[k] ≤ 65535

/-- The trace records lie within the capacity of their mask, each of its size (R177). -/
def traceBounded (m : Mask) (l : List (List Word32)) : Prop :=
  l.length ≤ traceCapacity m ∧ ∀ r ∈ l, r.length = 3 + 3 * maskCount m

/-- No segment is active or waits, and the player is EMPTY (R95, R98). -/
def Player.resting (y : Player) : Prop := y.active = none ∧ y.mode = .empty ∧ y.waiting = []

/-- The player goes on to y: no segment joins the queue, the phase and excursion counts keep their ranges, and a player that
is not EMPTY does not become so. -/
def Player.Keeps (x y : Player) : Prop :=
  y.waiting.length ≤ x.waiting.length ∧ (x.phaseTol ≤ 255 → y.phaseTol ≤ 255) ∧ (x.excursion ≤ 65535 → y.excursion ≤ 65535) ∧
    (x.mode ≠ .empty → y.mode ≠ .empty)

/-- The player may play: in RUN and STOPPING, and wherever it is not EMPTY. -/
def View.playing (v : View) : Prop := v.op.inRun = true ∨ v.player.mode ≠ .empty

/-- The changes a step is made of. -/
inductive Change : View → View → Prop
  /-- the drive link controller's stations keep their bounds -/
  | stations (v : View) (st : Vector LinkStation 8) (h : ∀ n : Station, v.st[n].Keeps st[n]) : Change v { v with st := st }
  /-- the counters and the snapshot keep their bounds -/
  | counts (v : View) (c : Vector Counter 4) (x : Vector Nat 4) (h : countsBounded v.counters v.snap → countsBounded c x) :
      Change v { v with counters := c, snap := x }
  /-- the trace buffer keeps its bounds -/
  | trace (v : View) (m : Mask) (l : List (List Word32)) (h : traceBounded v.mask v.records → traceBounded m l) :
      Change v { v with mask := m, records := l }
  /-- the memory keeps its form -/
  | memory (v : View) (m : Memory) (h : Memory.wf v.mem = true → Memory.wf m = true) : Change v { v with mem := m }
  /-- the player plays -/
  | play (v : View) (y : Player) (h : v.playing) (hy : v.player.Keeps y) : Change v { v with player := y }
  /-- a segment joins the queue (R94) -/
  | append (v : View) (g : Segment) (h : v.op.enables = true) (hl : v.player.waiting.length < 4) :
      Change v { v with player := { v.player with waiting := v.player.waiting ++ [g] } }
  /-- the waiting segments are discarded (R97) -/
  | discard (v : View) : Change v { v with player := { v.player with waiting := [] } }
  /-- the player is put to rest (R95, R115) -/
  | rest (v : View) (y : Player) (h : y.resting) (ht : v.player.phaseTol ≤ 255 → y.phaseTol ≤ 255)
      (he : v.player.excursion ≤ 65535 → y.excursion ≤ 65535) : Change v { v with player := y }
  /-- LOADING ends in CONFIG (R119) -/
  | config (v : View) (h : v.op = .loading) : Change v { v with op := .config }
  /-- the set locks, the link starts, and the part enters SETTLE (R119, R120) -/
  | lock (v : View) (h : v.op = .loading ∨ v.op = .config) :
      Change v { v with op := .settle, drive := false, running := true, locked := true }
  /-- the part settles, or a run ends (R121, R127) -/
  | ready (v : View) (h : v.op = .settle ∨ (v.op = .stopping ∧ v.player.resting)) :
      Change v { v with op := .ready, drive := true }
  /-- a run starts (R125) -/
  | start (v : View) (h : v.op = .ready) : Change v { v with op := .run }
  /-- STOPPING is entered (R126) -/
  | stop (v : View) (h : v.op = .run) : Change v { v with op := .stopping }
  /-- SAFE is entered (R129) -/
  | safe (v : View) (h : v.op.watchesEstop = true) (hy : v.player.resting) : Change v { v with op := .safe, drive := false }
  /-- SETTLE is entered from a running state (R132, R133) -/
  | settle (v : View) (h : v.op.running = true) (hy : v.op = .safe ∨ v.player.resting) :
      Change v { v with op := .settle, drive := false }
  /-- every block at its full-reset values, the memory as given (R133) -/
  | reset (v : View) (m : Memory) (h : Memory.wf v.mem = true → Memory.wf m = true) :
      Change v { State.reset.view with mem := m }

/-- A chain of changes leads from s to t. -/
def Reaches (s t : State) : Prop := Relation.ReflTransGen Change s.view t.view

theorem Reaches.of_eq {s t : State} (h : t.view = s.view) : Reaches s t := by
  rw [Reaches, h]

theorem Reaches.refl (s : State) : Reaches s s := Reaches.of_eq rfl

theorem Reaches.trans {s t u : State} (h : Reaches s t) (k : Reaches t u) : Reaches s u := Relation.ReflTransGen.trans h k

theorem Reaches.of_change {s t : State} (h : Change s.view t.view) : Reaches s t := Relation.ReflTransGen.single h

/-- A first part that the view does not show. -/
theorem Reaches.after {s s' t : State} (k : Reaches s' t) (h : s'.view = s.view) : Reaches s t := (Reaches.of_eq h).trans k

/-- A last part that the view does not show. -/
theorem Reaches.before {s t t' : State} (k : Reaches s t) (h : t'.view = t.view) : Reaches s t' := k.trans (Reaches.of_eq h)

/-- What every change keeps, every chain of changes keeps. -/
theorem Reaches.keeps {P : View → Prop} (hP : ∀ v w, Change v w → P v → P w) {s t : State} (h : Reaches s t)
    (hs : P s.view) : P t.view := by
  unfold Reaches at h
  generalize t.view = w at h ⊢
  induction h with
  | refl => exact hs
  | tail _ hc ih => exact hP _ _ hc ih

/-- From a state in which the player may play: a chain of changes to one in which it may. -/
def Plays (s t : State) : Prop := s.view.playing → Reaches s t ∧ t.view.playing

theorem Plays.of_eq {s t : State} (h : t.view = s.view) : Plays s t := fun hp => ⟨Reaches.of_eq h, by rw [h]; exact hp⟩

theorem Plays.trans {s t u : State} (h : Plays s t) (k : Plays t u) : Plays s u := fun hp =>
  have ⟨ht, hpt⟩ := h hp
  have ⟨hu, hpu⟩ := k hpt
  ⟨ht.trans hu, hpu⟩

/-- A change of the player alone. -/
theorem Plays.of_player {s t : State} (y : Player) (h : t.view = { s.view with player := y }) (hy : s.player.Keeps y) :
    Plays s t := by
  intro hp
  refine ⟨Reaches.of_change (h ▸ Change.play _ y hp hy), ?_⟩
  rw [h]
  exact hp.imp id hy.2.2.2

/-! ### Reports, stations, raises -/

theorem Moved.view {s t : State} (h : Moved s t) : t.view = s.view := by rw [h.eq]; rfl

@[simp] theorem submit_view (b : ReportBody) (s : State) : (submit b s).view = s.view := (submit_moved b s).view

@[simp] theorem submitState_view (p : OpState) (c : StateCause) (k : Option FaultKind) (x : Bool) (s : State) :
    (submitState p c k x s).view = s.view := submit_view _ s

theorem updateFaults_view (g : Faults → Faults) (s : State) : (updateFaults g s).view = s.view := rfl

theorem enteringSafe_view (s : State) : (enteringSafe s).view = { s.view with op := .safe, drive := false } := by
  unfold enteringSafe voidComputation
  simp only []
  split
  · rfl
  · split <;> rfl

theorem runAbandoned_view (prev : OpState) (s : State) :
    (runAbandoned prev s).view = { s.view with player := s.player.emptied } := by
  unfold runAbandoned
  simp only []
  split <;> rfl

theorem runCleared_view (s : State) : (runCleared s).view = s.view := rfl

theorem enterSafe_view (k : FaultKind) (s : State) :
    (enterSafe k s).view = { s.view with op := .safe, drive := false, player := s.player.emptied } := by
  rw [enterSafe_eq, submitState_view]
  have hi := (idleEngaged_moved .safe (enteringSafe s)).view.trans (enteringSafe_view s)
  generalize idleEngaged .safe (enteringSafe s) = u at hi ⊢
  have hp : u.player = s.player := congrArg View.player hi
  rw [runCleared_view, runAbandoned_view, hi, hp]

theorem emptied_resting (y : Player) : y.emptied.resting := ⟨rfl, rfl, rfl⟩

theorem enterSafe_reaches (k : FaultKind) (s : State) (h : s.run.op.watchesEstop = true) : Reaches s (enterSafe k s) := by
  have h1 : Change s.view { s.view with player := s.player.emptied } :=
    .rest _ _ (emptied_resting _) id (fun _ => Nat.zero_le _)
  have h2 := Change.safe { s.view with player := s.player.emptied } h (emptied_resting _)
  rw [Reaches, enterSafe_view]
  exact .tail (.single h1) h2

/-- The player after an entry to STOPPING keeps what it must. -/
theorem playerStop_view (s : State) : ∃ y, s.player.Keeps y ∧ (playerStop s).view = { s.view with player := y } := by
  have hend : ∃ y, s.player.Keeps y ∧ (playerEnd .stopped s).view = { s.view with player := y } :=
    ⟨{ s.player with active := none, mode := .ended, ended := some .stopped }, ⟨le_refl _, id, id, fun _ => by simp⟩,
      submit_view _ _⟩
  unfold playerStop
  split
  · exact hend
  · exact hend
  · exact hend
  · exact ⟨s.player, ⟨le_refl _, id, id, id⟩, rfl⟩
  · exact ⟨s.player, ⟨le_refl _, id, id, id⟩, rfl⟩

theorem enterStopping_reaches (c : StopCause) (k : Option FaultKind) (s : State) : Reaches s (enterStopping c k s) := by
  unfold enterStopping
  split
  · rename_i h
    obtain ⟨y, hy, hv⟩ := playerStop_view { s with run := { s.run with op := .stopping, stopCause := some c } }
    have h1 : Change s.view _ := .stop _ h
    have h2 : Change { s.view with op := .stopping } _ := .play _ y (.inl rfl) hy
    rw [Reaches, submitState_view, hv]
    exact .tail (.single h1) h2
  · exact Reaches.refl s

theorem enterStopping_plays (c : StopCause) (k : Option FaultKind) (s : State) : Plays s (enterStopping c k s) := by
  intro hp
  refine ⟨enterStopping_reaches c k s, ?_⟩
  unfold enterStopping
  split
  · obtain ⟨y, hy, hv⟩ := playerStop_view { s with run := { s.run with op := .stopping, stopCause := some c } }
    rw [submitState_view, hv]
    exact .inl rfl
  · exact hp

theorem react_reaches (k : FaultKind) (s : State) : Reaches s (react k s) := by
  unfold react
  split
  · split
    · exact enterSafe_reaches k s ‹_›
    · exact Reaches.refl s
  · exact enterStopping_reaches _ _ s
  · exact Reaches.refl s

theorem raiseFault_reaches (f : Raise) (s : State) : Reaches s (raiseFault f s) := by
  unfold raiseFault
  simp only []
  split
  · exact (Reaches.of_eq (submit_view _ (updateFaults (Faults.take f s.run.count s.run.op) s))).trans (react_reaches _ _)
  · exact Reaches.of_eq (submit_view _ (updateFaults (Faults.take f s.run.count s.run.op) s))

/-- A raise of level 3 or 4 changes no part of the view. -/
theorem raiseFault_low_view (f : Raise) (s : State) (h : 3 ≤ f.kind.level) : (raiseFault f s).view = s.view := by
  obtain ⟨q, l, hf⟩ := raiseFault_low f s h
  rw [hf]
  rfl

theorem checkEstop_reaches (s : State) : Reaches s (checkEstop s) := by
  unfold checkEstop
  split
  · exact raiseFault_reaches _ s
  · exact Reaches.refl s

theorem eachStation_reaches {f : Station → StationRec → State → State} (hf : ∀ n r t, Reaches t (f n r t)) (s : State) :
    Reaches s (eachStation f s) :=
  eachStation_induct (Reaches.refl s) fun n r t _ h => h.trans (hf n r t)

/-! ### The statistics unit -/

theorem Counter.add_bounded (c : Counter) (a : Nat) : (c.add a).working ≤ 65535 := by
  unfold Counter.add
  split
  · exact le_refl _
  · simp only []; omega

theorem Counter.add_published (c : Counter) (a : Nat) : (c.add a).published = c.published := by
  unfold Counter.add
  split <;> rfl

theorem addCount_reaches (k : Fin 4) (a : Nat) (s : State) : Reaches s (addCount k a s) := by
  have h : Reaches s { s with stats := { s.stats with counters := s.stats.counters.set k (s.stats.counters[k].add a) } } := by
    refine Reaches.of_change (.counts s.view (s.stats.counters.set k (s.stats.counters[k].add a)) s.stats.snap.values ?_)
    intro hb j
    obtain ⟨hw, hp, hv⟩ := hb j
    by_cases hj : k = j
    · subst hj
      simp only [Fin.getElem_fin, Vector.getElem_set_self]
      exact ⟨Counter.add_bounded _ _, by rw [Counter.add_published]; exact hp, hv⟩
    · have : (k : Nat) ≠ j := fun e => hj (Fin.ext e)
      simp only [Fin.getElem_fin, Vector.getElem_set_ne _ _ this]
      exact ⟨hw, hp, hv⟩
  unfold addCount
  simp only []
  split
  · exact h.trans (Reaches.of_eq (submit_view _ _))
  · exact h

theorem countSlot_reaches (n : Station) (a b : Option LaneOutcome) (s : State) : Reaches s (countSlot n a b s) :=
  countSlot_induct (Reaches.refl s) fun k m t h => h.trans (addCount_reaches k m t)

theorem countLocks_reaches (s : State) : Reaches s (countLocks s) :=
  countLocks_induct (Reaches.refl s) fun k m t h => h.trans (addCount_reaches k m t)

/-- The counters replaced one by one, each within its bounds. -/
theorem counters_reaches (f : Counter → Counter) (hf : ∀ c : Counter, c.working ≤ 65535 → c.published ≤ 65535 →
    (f c).working ≤ 65535 ∧ (f c).published ≤ 65535) (s t : State)
    (h : t.view = { s.view with counters := s.stats.counters.map f }) : Reaches s t := by
  refine Reaches.of_change (h ▸ .counts s.view (s.stats.counters.map f) s.stats.snap.values ?_)
  intro hb k
  obtain ⟨hw, hp, hv⟩ := hb k
  have := hf _ hw hp
  simp only [Fin.getElem_fin, Vector.getElem_map]
  exact ⟨this.1, this.2, hv⟩

theorem Vector.four_eq_map {α β : Type} (f : α → β) (v : Vector α 4) : #v[f v[0], f v[1], f v[2], f v[3]] = v.map f := by
  ext i hi
  match i, hi with | 0, _ | 1, _ | 2, _ | 3, _ => simp

theorem publish_reaches (s : State) : Reaches s (publish s) := by
  refine counters_reaches Counter.publish (fun c hw hp => ?_) s _ ?_
  · unfold Counter.publish
    split
    · exact ⟨hw, hw⟩
    · exact ⟨Nat.zero_le _, hw⟩
  · simp only [State.view, publish, Vector.four_eq_map]

theorem noteLost_reaches (b : Vector (Option StationRec) 8) (s : State) : Reaches s (noteLost b s) := by
  refine counters_reaches (Counter.loses fun n => b[n].isSome && s.stations[n].isNone) (fun c hw hp => ?_) s _ rfl
  unfold Counter.loses
  split <;> exact ⟨hw, hp⟩

theorem takeSnapshot_reaches (i : Fin 16) (s : State) : Reaches s (takeSnapshot i s) := by
  refine Reaches.of_change (.counts s.view s.stats.counters (takeSnapshot i s).stats.snap.values ?_)
  intro hb k
  obtain ⟨hw, hp, _⟩ := hb k
  refine ⟨hw, hp, ?_⟩
  match k with
  | 0 => exact (hb 0).2.1
  | 1 => exact (hb 1).2.1
  | 2 => exact (hb 2).2.1
  | 3 => exact (hb 3).2.1

end Sys2Proof.Machine
end

section
/-! SUPPORT. Every operation of the blocks is a chain of changes, in the order of the model's files. -/

namespace Sys2Proof.Machine

/-! ### The drive link controller -/

theorem LinkStation.Keeps.refl (x : LinkStation) : x.Keeps x := ⟨id, id⟩

/-- One station of the drive link controller replaced, its bounds kept. -/
theorem setLinkStation_reaches (n : Station) (x : LinkStation) (s : State) (h : s.link.st[n].Keeps x) :
    Reaches s (setLinkStation n x s) := by
  refine Reaches.of_change (.stations s.view (s.link.st.set n x) fun m => ?_)
  show s.link.st[m].Keeps (s.link.st.set n x)[m]
  by_cases hm : n = m
  · subst hm
    simpa using h
  · have : (n : Nat) ≠ m := fun e => hm (Fin.ext e)
    simpa [Vector.getElem_set_ne _ _ this] using LinkStation.Keeps.refl _

theorem satAdd_le (cap n k : Nat) : satAdd cap n k ≤ cap := Nat.min_le_left _ _

theorem nextStreak_le (obs : Observation) (lane : Bool) (k : Nat) (h : k ≤ 64) : nextStreak obs lane k ≤ 64 := by
  unfold nextStreak
  split
  · split
    · exact Nat.zero_le _
    · exact satAdd_le _ _ _
  · exact Nat.zero_le _
  · exact h

theorem mergeStation_reaches (n : Station) (r : StationRec) (s : State) : Reaches s (mergeStation n r s) := by
  have hfault : ∀ (b : Bool) (f : Raise) (t : State), Reaches t (if b = true then raiseFault f t else t) := fun b f t => by
    split
    · exact raiseFault_reaches f t
    · exact Reaches.refl t
  unfold mergeStation
  simp only []
  split
  · refine Reaches.trans (Reaches.trans (setLinkStation_reaches n _ s ?_) (hfault _ _ _)) (hfault _ _ _)
    exact ⟨id, fun h => ⟨nextStreak_le _ _ _ h.1, nextStreak_le _ _ _ h.2⟩⟩
  · exact setLinkStation_reaches n _ s ⟨id, id⟩
  · exact setLinkStation_reaches n _ s ⟨id, id⟩

/-- An item that stays outstanding is younger than four cycle closes (R18). -/
theorem Outstanding.advance_age {o o' : Outstanding} {p : Option ServiceResponse} (h : o.advance p = .inl o')
    (ho : o.age < 4) : o'.age < 4 := by
  have hold : (if o.age + 1 = 4 then (.inr (.timeout, o.item.value) : Outstanding ⊕ (ServiceResult × Int))
      else .inl { o with age := o.age + 1 }) = .inl o' → o'.age < 4 := by
    intro h
    split at h
    · cases h
    · cases h
      simp only []
      omega
  unfold Outstanding.advance at h
  simp only [] at h
  split at h
  · exact hold h
  · split at h
    · cases h
    · exact hold h

theorem serviceStation_reaches (n : Station) (s : State) : Reaches s (serviceStation n s) := by
  unfold serviceStation
  simp only []
  split
  · exact Reaches.refl s
  · rename_i o ho
    split
    · rename_i o' ha
      refine setLinkStation_reaches n _ s ⟨fun h => ⟨h.1, fun x hx => ?_⟩, id⟩
      cases hx
      exact Outstanding.advance_age ha (h.2 o ho)
    · refine Reaches.before (setLinkStation_reaches n _ s ?_) (submit_view _ _)
      exact ⟨fun h => ⟨h.1, fun x hx => by cases hx⟩, id⟩

theorem closeLink_reaches (s : State) : Reaches s (closeLink s) :=
  eachStation_reaches (fun n r t => (mergeStation_reaches n r t).trans (serviceStation_reaches n _)) s

theorem grant_keeps (l : Link) (m : Station) : l.st[m].Keeps l.grant.1.st[m] := by
  unfold Link.grant
  split
  · exact .refl _
  · rename_i n hn
    split
    · exact .refl _
    · rename_i i rest hw
      by_cases hm : n = m
      · subst hm
        have hlen : l.st[n].waiting.length = rest.length + 1 := by rw [hw]; rfl
        simp only [Fin.getElem_fin, Vector.getElem_set_self] at hlen ⊢
        exact ⟨fun h => ⟨by have := h.1; simp only []; omega, fun o ho => by cases ho; exact Nat.zero_lt_succ _⟩, id⟩
      · have : (n : Nat) ≠ m := fun e => hm (Fin.ext e)
        simpa [Vector.getElem_set_ne _ _ this] using LinkStation.Keeps.refl _

theorem openCycle_reaches (s : State) : Reaches s (openCycle s) := by
  have hv : (openCycle s).view = { s.view with running := (openCycle s).link.running, st := (openCycle s).link.st } := rfl
  have hr : (openCycle s).link.running = s.link.running := by
    unfold openCycle Link.grant
    simp only []
    split
    · rfl
    · split <;> rfl
  rw [Reaches, hv, hr]
  refine .single (.stations s.view (openCycle s).link.st fun n => ?_)
  have h := grant_keeps { s.link with
    counter := s.link.counter + 1
    st := mapEight (fun x : LinkStation => { x with repA := none, repB := none }) s.link.st } n
  simp only [mapEight_get] at h
  exact ⟨fun hq => h.1 hq, fun hs => h.2 hs⟩

theorem watchSlot_reaches (n : Station) (a b : Option LaneOutcome) (s : State) : Reaches s (watchSlot n a b s) :=
  Reaches.of_eq rfl

theorem endSlot_reaches (n : Station) (a b : Reception) (s : State) : Reaches s (endSlot n a b s) := by
  unfold endSlot
  split
  · exact Reaches.refl s
  · refine Reaches.trans (Reaches.trans (setLinkStation_reaches n _ s ?_) (countSlot_reaches _ _ _ _)) (watchSlot_reaches _ _ _ _)
    exact ⟨id, id⟩

theorem cancelled_view (n : Station) (l : List ServiceItem) (s : State) :
    (l.foldl (fun s i => submit (.serviceDone n i .cancelled i.value) s) s).view = s.view := by
  induction l generalizing s with
  | nil => rfl
  | cons i rest ih => exact (ih _).trans (submit_view _ s)

theorem cancelStation_reaches (n : Station) (s : State) : Reaches s (cancelStation n s) := by
  unfold cancelStation
  simp only []
  refine Reaches.before (setLinkStation_reaches n { s.link.st[n] with waiting := [], outstanding := none } s ?_)
    (cancelled_view n _ _)
  exact ⟨fun _ => ⟨Nat.zero_le _, fun x hx => by cases hx⟩, id⟩

theorem cancelService_reaches (s : State) : Reaches s (cancelService s) := by
  have h := eachStation_reaches (fun n _ t => cancelStation_reaches n t) s
  unfold cancelService
  generalize eachStation _ s = u at h ⊢
  exact h.before rfl

/-! ### The cycle computation -/

theorem axleStage_reaches (s : State) : Reaches s (axleStage s) := by
  unfold axleStage
  split
  · simp only []
    split
    · exact (raiseFault_reaches _ _).after rfl
    · exact Reaches.of_eq rfl
  · exact Reaches.of_eq rfl

theorem stationEvent_reaches (n : Station) (e : StationEvent) (s : State) : Reaches s (stationEvent n e s) := by
  cases e with
  | fault f => exact raiseFault_reaches f s
  | changed old r reason => exact Reaches.of_eq (submit_view _ s)

theorem applyJudging_reaches (n : Station) (j : Judging) (s : State) : Reaches s (applyJudging n j s) :=
  applyJudging_induct (Reaches.of_eq (setStation_moved n j.r s).view) fun e t h => h.trans (stationEvent_reaches n e t)

theorem judgeStage_reaches (s : State) : Reaches s (judgeStage s) := by
  unfold judgeStage
  exact eachStation_induct (Reaches.refl s) fun n r t _ h => h.trans (applyJudging_reaches n _ t)

theorem windupStage_reaches (s : State) : Reaches s (windupStage s) := by
  have h : Reaches s { s with monitor := s.monitorNext } := Reaches.of_eq rfl
  unfold windupStage
  simp only []
  split <;> split
  · exact (h.trans (raiseFault_reaches _ _)).trans (raiseFault_reaches _ _)
  · exact h.trans (raiseFault_reaches _ _)
  · exact h.trans (raiseFault_reaches _ _)
  · exact h

theorem stages_reaches (s : State) : Reaches s (stages s) := by
  have hg : ∀ t, Reaches t (gearStage t) := fun t => Reaches.of_eq rfl
  have ha : ∀ t, Reaches t (assembleStage t) := fun t => Reaches.of_eq rfl
  exact (((((judgeStage_reaches s).trans (axleStage_reaches _)).trans (hg _)).trans (windupStage_reaches _)).trans (ha _)).trans
    (countLocks_reaches _)

theorem compute_reaches (s : State) : Reaches s (compute s) := by
  have h0 : Reaches s { s with inForce := s.params.inForce, trace := { s.trace with waiting := false } } := Reaches.of_eq rfl
  have h1 := h0.trans (stages_reaches _)
  unfold compute
  simp only []
  generalize stages _ = u at h1 ⊢
  exact h1.trans (Reaches.of_eq rfl)

/-! ### The commissioning store -/

theorem resetLinkStation_bounds (x : LinkStation) : x.Keeps resetLinkStation :=
  ⟨fun _ => ⟨Nat.zero_le _, fun o ho => by cases ho⟩, fun _ => ⟨Nat.zero_le _, Nat.zero_le _⟩⟩

theorem syncStations_reaches (w : Option Station) (s : State) : Reaches s (syncStations w s) := by
  refine Reaches.of_change (.stations s.view (syncStations w s).link.st fun n => ?_)
  simp only [syncStations, ofEight_get]
  split
  · exact resetLinkStation_bounds _
  · exact .refl _

theorem followSet_reaches (w : Option Station) (s : State) : Reaches s (followSet w s) :=
  (syncStations_reaches w s).trans (noteLost_reaches _ _)

theorem formLimit_view (k : CellBlock) (s : State) : (formLimit k s).view = s.view := rfl

theorem applyLoad_reaches (o : LoadOutcome) (w : Option (CellBlock × Vector (Option StationBlock) 8)) (s : State) :
    Reaches s (applyLoad o w s) := by
  unfold applyLoad
  split
  · rename_i k blocks
    refine Reaches.before ?_ (formLimit_view k _)
    exact (syncStations_reaches none _).after rfl
  · exact (syncStations_reaches none _).after rfl

/-- The link starts and the set locks on an entry to SETTLE from LOADING or CONFIG. -/
theorem startLink_reaches (s : State) (h : s.run.op = .loading ∨ s.run.op = .config) : Reaches s (startLink (settleValues s)) :=
  Reaches.of_change (.lock s.view h)

theorem leaveLoading_reaches (s : State) (h : s.run.op = .loading) : Reaches s (leaveLoading s) := by
  unfold leaveLoading
  simp only []
  split
  · exact ((startLink_reaches s (.inl h)).trans (Reaches.of_eq (submit_view _ _))).trans (checkEstop_reaches _)
  · have hc : Reaches s { s with run := { s.run with op := .config } } := Reaches.of_change (.config s.view h)
    exact hc.trans (Reaches.of_eq (submit_view _ _))

theorem applyLoad_run (o : LoadOutcome) (w : Option (CellBlock × Vector (Option StationBlock) 8)) (s : State) :
    (applyLoad o w s).run = s.run := by
  unfold applyLoad
  split <;> rfl

theorem completeLoad_reaches (answers : Bool) (s : State) : Reaches s (completeLoad answers s) := by
  unfold completeLoad
  split
  · rename_i h
    exact (applyLoad_reaches _ _ s).trans (leaveLoading_reaches _ (by rw [applyLoad_run]; exact h.1))
  · exact Reaches.refl s

theorem takeCommissionCell_reaches (k : CellBlock) (s : State) : Reaches s (takeCommissionCell k s).1 := by
  unfold takeCommissionCell
  split
  · exact Reaches.refl s
  · split
    · exact Reaches.refl s
    · exact (followSet_reaches _ _).after rfl

theorem setBlock_reaches (n : Station) (b : Option StationBlock) (s : State) : Reaches s (setBlock n b s) := Reaches.of_eq rfl

theorem takeCommissionWrite_reaches (n : Nat) (raw : RawStation) (s : State) : Reaches s (takeCommissionWrite n raw s).1 := by
  unfold takeCommissionWrite
  split
  · exact Reaches.refl s
  · split
    · split
      · exact Reaches.refl s
      · exact (setBlock_reaches _ _ s).trans (followSet_reaches _ _)
    · exact Reaches.refl s

theorem takeCommissionClear_reaches (n : Nat) (s : State) : Reaches s (takeCommissionClear n s).1 := by
  unfold takeCommissionClear
  split
  · exact Reaches.refl s
  · split
    · exact (setBlock_reaches _ _ s).trans (followSet_reaches _ _)
    · exact Reaches.refl s

theorem takeCommissionOther_state (s : State) : (takeCommissionOther s).1 = s := by
  unfold takeCommissionOther
  split <;> rfl

theorem takeLeaveConfig_reaches (s : State) : Reaches s (takeLeaveConfig s).1 := by
  unfold takeLeaveConfig
  split
  · exact Reaches.refl s
  · rename_i h
    split
    · exact Reaches.refl s
    · exact ((startLink_reaches s (.inr (not_not.mp h))).trans (Reaches.of_eq (submitState_view _ _ _ _ _))).trans
        (checkEstop_reaches _)

theorem takeStore_view (s : State) : (takeStore s).1.view = s.view := by
  unfold takeStore
  split
  · rfl
  · split <;> rfl

theorem takeSetParam_view (i : Nat) (v : Int) (s : State) : (takeSetParam i v s).1.view = s.view := by
  unfold takeSetParam
  split
  · rfl
  · split <;> rfl

theorem takeGetParam_state (i : Nat) (s : State) : (takeGetParam i s).1 = s := by
  unfold takeGetParam
  split <;> rfl

/-! ### The commissioning memory -/

theorem cellBytes_length (c : CellBlock) : (cellBytes c).length = 24 := by simp [cellBytes, be1, be2, be4]

theorem stationBytes_length (n : Station) (b : StationBlock) : (stationBytes n b).length = 13 := by
  simp [stationBytes, be1, be2, be4]

theorem imageStations_length (c : CellBlock) (blocks : Vector (Option StationBlock) 8) :
    (imageStations c blocks).length ≤ 104 := by
  have h : ∀ n : Station, (if inMask c.mask n then (match blocks[n] with | some b => stationBytes n b | none => [])
      else [] : List Byte).length ≤ 13 := fun n => by
    split
    · split
      · exact le_of_eq (stationBytes_length _ _)
      · exact Nat.zero_le _
    · exact Nat.zero_le _
  have hl : ∀ l : List Station, (l.flatMap fun n => if inMask c.mask n then
      (match blocks[n] with | some b => stationBytes n b | none => []) else [] : List Byte).length ≤ 13 * l.length := by
    intro l
    induction l with
    | nil => simp
    | cons n rest ih =>
      have := h n
      simp only [List.flatMap_cons, List.length_append, List.length_cons]
      omega
  exact hl stationList

theorem imageCovered_length (c : CellBlock) (blocks : Vector (Option StationBlock) 8) :
    (imageCovered c blocks).length ≤ 134 := by
  have := imageStations_length c blocks
  simp only [imageCovered, formatMark, be2, List.length_append, List.length_cons, List.length_nil, cellBytes_length]
  omega

theorem crcBytes_length (b : List Byte) : (crcBytes b).length = 2 := rfl

/-- Every byte write of a store lies within the image's 136 bytes (R190, R213). -/
theorem storeWrites_lt (c : CellBlock) (blocks : Vector (Option StationBlock) 8) : ∀ p ∈ storeWrites c blocks, p.1 < 136 := by
  have h := imageCovered_length c blocks
  intro p hp
  simp only [storeWrites, List.mem_append] at hp
  obtain (hp | hp) | hp := hp
  · exact placed_lt (by rw [List.length_map, crcBytes_length]; omega) p hp
  · exact placed_lt (by omega) p hp
  · exact placed_lt (by rw [crcBytes_length]; omega) p hp

theorem imageWrites_lt (s : State) : ∀ p ∈ s.imageWrites, p.1 < 136 := by
  unfold State.imageWrites
  split
  · exact storeWrites_lt _ _
  · simp

theorem imageLength_le (s : State) : s.imageLength ≤ 136 := by
  unfold State.imageLength
  split
  · have := imageCovered_length ‹CellBlock› s.store.blocks
    simp only [imageBytes, List.length_append, crcBytes_length]
    omega
  · exact Nat.zero_le _

theorem storedMemory_wf (r : StoreResult) (s : State) (h : Memory.wf s.mem = true) : Memory.wf (storedMemory r s) = true := by
  cases r with
  | stored => exact memWrites_wf (fun p hp => lt_trans (imageWrites_lt s p hp) (by decide)) h
  | failed left =>
    refine memWrites_wf (placed_lt ?_) h
    have := imageLength_le s
    rw [List.length_take]
    omega

theorem cutMemory_wf (x : StoreCut) (s : State) (h : Memory.wf s.mem = true) : Memory.wf (cutMemory x s).1 = true := by
  unfold cutMemory
  split
  · split
    · exact memWrites_wf (fun p hp => lt_trans (imageWrites_lt s p (List.mem_of_mem_take hp)) (by decide)) h
    · exact memWrites_wf (fun p hp => lt_trans (imageWrites_lt s p hp) (by decide)) h
  · exact h

theorem fullReset_reaches (a : ResetReason) (b c : Bool) (k : Nat) (m : Memory × Bool) (s : State)
    (h : Memory.wf s.mem = true → Memory.wf m.1 = true) : Reaches s (fullReset a b c k m s) :=
  Reaches.of_change (.reset s.view m.1 h)

/-! ### The trace buffer -/

theorem stationWords_length (r : Option StationRec) : (stationWords r).length = 3 := by
  unfold stationWords
  split <;> rfl

theorem captureRecord_length (records : Vector (Option StationRec) 8) (s : State) :
    (captureRecord records s).length = 3 + 3 * maskCount s.trace.mask := by
  simp only [captureRecord, maskCount, List.length_append, List.length_flatMap, stationWords_length, List.map_const',
    List.sum_replicate, smul_eq_mul, List.length_cons, List.length_nil]
  omega

theorem maskCount_le (m : Mask) : maskCount m ≤ 8 := List.length_filter_le (inMask m) stationList

theorem traceCapacity_pos (m : Mask) : 0 < traceCapacity m := by
  have := maskCount_le m
  exact Nat.div_pos (by omega) (by omega)

theorem storeRecord_reaches (r : List Word32) (s : State) (hr : r.length = 3 + 3 * maskCount s.trace.mask) :
    Reaches s (storeRecord r s) := by
  have hadd : ∀ l : List (List Word32), (∀ x ∈ l, x ∈ s.trace.records) →
      (s.trace.records.length ≤ traceCapacity s.trace.mask → l.length + 1 ≤ traceCapacity s.trace.mask) →
      Change s.view { s.view with mask := s.trace.mask, records := l ++ [r] } := fun l hl hc =>
    .trace s.view _ _ fun h => ⟨by simpa using hc h.1, fun x hx => by
      rcases List.mem_append.mp hx with hx | hx
      · exact h.2 x (hl x hx)
      · rw [List.mem_singleton.mp hx]; exact hr⟩
  unfold storeRecord
  split
  · exact Reaches.of_change (hadd s.trace.records (fun _ h => h) (fun _ => by omega))
  · split
    · refine Reaches.of_change (hadd (s.trace.records.drop 1) (fun _ h => List.mem_of_mem_drop h) (fun h => ?_))
      have := traceCapacity_pos s.trace.mask
      rw [List.length_drop]
      omega
    · split
      · exact Reaches.refl s
      · exact Reaches.of_eq (submit_view _ _)

theorem traceCapture_reaches (k : Computation) (s : State) : Reaches s (traceCapture k s) := by
  unfold traceCapture
  split
  · exact storeRecord_reaches _ s (captureRecord_length _ s)
  · exact Reaches.refl s

theorem takeSetTrace_reaches (m : Mask) (d p e : Nat) (s : State) : Reaches s (takeSetTrace m d p e s).1 := by
  unfold takeSetTrace
  split
  · exact Reaches.refl s
  · exact Reaches.of_change (.trace s.view m [] fun _ => ⟨Nat.zero_le _, by simp⟩)

theorem takeReadTrace_reaches (n : Nat) (s : State) : Reaches s (takeReadTrace n s).1 :=
  Reaches.of_change (.trace s.view s.trace.mask (s.trace.records.drop (traceReturned n s.trace)) fun h =>
    ⟨by have := h.1; rw [List.length_drop]; exact le_trans (Nat.sub_le _ _) this,
     fun r hr => h.2 r (List.mem_of_mem_drop hr)⟩)

/-! ### The event table -/

theorem fire_reaches (i : Fin 16) (e : EventEntry) (s : State) : Reaches s (fire i e s) := by
  have hmark : ∀ (b : Bool) (t : State), Reaches t (if b = true then handMark t else t) := fun b t => by
    split <;> exact Reaches.of_eq rfl
  have hrep : ∀ (b : Bool) (x : ReportBody) (t : State), Reaches t (if b = true then submit x t else t) := fun b x t => by
    split
    · exact Reaches.of_eq (submit_view x t)
    · exact Reaches.refl t
  have hsnap : ∀ (b : Bool) (t : State), Reaches t (if b = true then takeSnapshot i t else t) := fun b t => by
    split
    · exact takeSnapshot_reaches i t
    · exact Reaches.refl t
  have hcap : ∀ (b : Bool) (t : State),
      Reaches t (if b = true then { t with trace := { t.trace with waiting := true } } else t) := fun b t => by
    split <;> exact Reaches.of_eq rfl
  have hset : ∀ x, Reaches s (setEntry i x s) := fun x => Reaches.of_eq rfl
  exact ((((hset _).trans (hmark _ _)).trans (hrep _ _ _)).trans (hsnap _ _)).trans (hcap _ _)

theorem fireAll_reaches (test : EventEntry → Option EventEntry) (s : State) : Reaches s (fireAll test s) :=
  fireAll_induct (Reaches.refl s) fun i e t h => h.trans (fire_reaches i e t)

theorem cycleTests_reaches (s : State) : Reaches s (cycleTests s) := by
  unfold cycleTests
  split
  · exact fireAll_reaches _ s
  · exact Reaches.refl s

theorem completionTests_reaches (k : Computation) (s : State) : Reaches s (completionTests k s) := by
  unfold completionTests
  split
  · exact fireAll_reaches _ s
  · exact Reaches.refl s

end Sys2Proof.Machine
end

section
/-! SUPPORT. The player, the run controller, the port and the commands as chains of changes. -/

namespace Sys2Proof.Machine

theorem ite_reaches {p : Prop} [Decidable p] {s t : State} (h : p → Reaches s t) : Reaches s (if p then t else s) := by
  split
  · exact h ‹_›
  · exact Reaches.refl s

/-! ### The profile player -/

theorem Player.Keeps.refl (y : Player) : y.Keeps y := ⟨le_refl _, id, id, id⟩

theorem Player.Keeps.trans {x y z : Player} (h : x.Keeps y) (k : y.Keeps z) : x.Keeps z :=
  ⟨k.1.trans h.1, k.2.1 ∘ h.2.1, k.2.2.1 ∘ h.2.2.1, k.2.2.2 ∘ h.2.2.2⟩

theorem openPhase_view (p : Nat) (s : State) :
    (openPhase p s).view = { s.view with player := { s.player with phase := some p, phaseTol := 0 } } := by
  unfold openPhase
  have h := submit_view (.phase p s.player.phase s.player.phaseTol s.player.clock) s
  generalize submit _ s = u at h ⊢
  have hp : u.player = s.player := congrArg View.player h
  show ({ u.view with player := { u.player with phase := some p, phaseTol := 0 } } : View) = _
  rw [h, hp]

/-- A segment start changes the player alone, and only as it may in a run. -/
theorem startSegment_view (g : Segment) (rest : List Segment) (s : State) (h : rest.length ≤ s.player.waiting.length) :
    ∃ y, s.player.Keeps y ∧ (startSegment g rest s).view = { s.view with player := y } := by
  have h0 : s.player.Keeps { s.player with
      active := some g, waiting := rest, mode := .playing, point := 0, elapsed := 0, start := s.player.speed,
      lastTag := some g.tag } := ⟨h, id, id, fun _ => by simp⟩
  unfold startSegment
  simp only []
  have hs := submit_view (.segmentStarted g.tag s.player.clock rest.length) { s with player := { s.player with
      active := some g, waiting := rest, mode := .playing, point := 0, elapsed := 0, start := s.player.speed,
      lastTag := some g.tag } }
  generalize submit _ _ = u at hs ⊢
  have hp := congrArg View.player hs
  split
  · rename_i p _
    refine ⟨{ u.player with phase := some p, phaseTol := 0 }, h0.trans ?_, ?_⟩
    · rw [show u.player = _ from hp]
      exact ⟨le_refl _, fun _ => Nat.zero_le _, id, id⟩
    · rw [openPhase_view]
      exact congrArg (fun v : View => { v with player := { u.player with phase := some p, phaseTol := 0 } }) hs
  · exact ⟨_, h0, hs⟩

theorem startSegment_plays (g : Segment) (rest : List Segment) (s : State) (h : rest.length ≤ s.player.waiting.length) :
    Plays s (startSegment g rest s) :=
  have ⟨y, hy, hv⟩ := startSegment_view g rest s h
  Plays.of_player y hv hy

theorem playerEnd_plays (e : EndReason) (s : State) : Plays s (playerEnd e s) :=
  Plays.of_player { s.player with active := none, mode := .ended, ended := some e } (submit_view _ _)
    ⟨le_refl _, id, id, fun _ => by simp⟩

theorem endProfile_plays (e : EndReason) (s : State) : Plays s (endProfile e s) := by
  unfold endProfile
  simp only []
  split
  · exact (playerEnd_plays e s).trans (enterStopping_plays _ _ _)
  · exact playerEnd_plays e s

theorem underrunTest_plays (s : State) : Plays s (underrunTest s) := by
  unfold underrunTest
  split
  · exact enterStopping_plays _ _ s
  · exact Plays.of_eq rfl

theorem enterUnderrun_plays (s : State) : Plays s (enterUnderrun s) := by
  have h1 : Plays s { s with player := { s.player with active := none, mode := .underrun } } :=
    Plays.of_player _ rfl ⟨le_refl _, id, id, fun _ => by simp⟩
  have h2 : ∀ t, Plays t (raiseFault { kind := .underrun } t) := fun t =>
    Plays.of_eq (raiseFault_low_view _ t (by decide))
  exact (h1.trans (h2 _)).trans (underrunTest_plays _)

theorem decideEnd_plays (hold : Bool) (g : Segment) (s : State) : Plays s (decideEnd hold g s) := by
  unfold decideEnd
  split
  · exact Plays.of_player { s.player with mode := .held } (submit_view _ _) ⟨le_refl _, id, id, fun _ => by simp⟩
  · split
    · exact endProfile_plays _ s
    · split
      · rename_i next rest hw
        exact startSegment_plays next rest s (by rw [hw]; exact Nat.le_succ _)
      · exact enterUnderrun_plays s

theorem playCycle_keeps (y : Player) (g : Segment) : y.Keeps (y.playCycle g).1 := by
  unfold Player.playCycle
  split
  · exact ⟨le_refl _, id, id, id⟩
  · simp only []
    split
    · split
      · exact ⟨le_refl _, id, id, id⟩
      · exact ⟨le_refl _, id, id, id⟩
    · exact ⟨le_refl _, id, id, id⟩

theorem playerWork_plays (s : State) : Plays s (playerWork s) := by
  unfold playerWork
  split
  · rename_i g _ _
    have h1 : Plays s { s with player := (s.player.playCycle g).1 } := Plays.of_player _ rfl (playCycle_keeps s.player g)
    simp only []
    split
    · exact (h1.trans (Plays.of_eq (submit_view _ _))).trans (decideEnd_plays _ _ _)
    · exact h1
  · split
    · rename_i next rest hw
      exact startSegment_plays next rest s (by rw [hw]; exact Nat.le_succ _)
    · exact underrunTest_plays s
  · exact Plays.of_eq rfl

theorem raiseTolerance_plays (s : State) : Plays s (raiseTolerance s) := by
  have h1 : Plays s (raiseFault { kind := .tolerance, detail := some (.phase s.player.phase) } s) :=
    Plays.of_eq (raiseFault_low_view _ s (le_of_lt (by decide : 3 < FaultKind.tolerance.level)))
  exact h1.trans (Plays.of_player _ rfl ⟨le_refl _, fun _ => satAdd_le _ _ _, id, id⟩)

theorem bandCheck_plays (s : State) : Plays s (bandCheck s) := by
  have h1 : Plays s { s with player := s.player.outside } :=
    Plays.of_player _ rfl ⟨le_refl _, id, fun _ => satAdd_le _ _ _, id⟩
  unfold bandCheck
  split
  · split
    · simp only []
      split
      · exact h1.trans (raiseTolerance_plays _)
      · exact h1
    · exact Plays.of_player s.player.inside rfl ⟨le_refl _, id, fun _ => Nat.zero_le _, id⟩
  · exact Plays.of_eq rfl

theorem playAndCheck_reaches (s : State) : Reaches s (playAndCheck s) := by
  unfold playAndCheck
  split
  · rename_i h
    exact ((playerWork_plays s).trans (bandCheck_plays _) (.inl h)).1
  · exact Reaches.refl s

theorem checksBand_inRun (s : State) (h : s.checksBand = true) : s.run.op.inRun = true := by
  unfold State.checksBand at h
  simp only [Bool.and_eq_true, beq_iff_eq] at h
  rw [h.1.1]
  rfl

theorem toleranceStep_reaches (s : State) : Reaches s (toleranceStep s) := by
  unfold toleranceStep
  split
  · rename_i h
    have hc : s.checksBand = true := by
      unfold State.exceedsTolerance at h
      simp only [Bool.and_eq_true] at h
      exact h.1.1.1
    exact (bandCheck_plays s (.inl (checksBand_inRun s hc))).1
  · exact Reaches.refl s

theorem takeAppend_reaches (g : Segment) (s : State) : Reaches s (takeAppend g s).1 := by
  unfold takeAppend
  split
  · exact Reaches.refl s
  · rename_i h
    split
    · exact Reaches.refl s
    · split
      · exact Reaches.refl s
      · have he : s.run.op.enables = true := by
          have : s.run.op = .ready ∨ s.run.op = .run := by tauto
          rcases this with h | h <;> rw [h] <;> rfl
        exact Reaches.of_change (.append s.view g he (by simpa [State.view] using ‹¬4 ≤ _›))

theorem takeDiscard_reaches (s : State) : Reaches s (takeDiscard s).1 := Reaches.of_change (.discard s.view)

theorem releaseHeld_plays (a : HoldAction) (g : Segment) (s : State) : Plays s (releaseHeld a g s) := by
  cases a with
  | goOn => exact decideEnd_plays _ g s
  | again => exact startSegment_plays g _ s (le_refl _)
  | finish => exact endProfile_plays _ s
  | other k => exact Plays.of_eq rfl

theorem takeReleaseHold_reaches (a : HoldAction) (s : State) : Reaches s (takeReleaseHold a s).1 := by
  unfold takeReleaseHold
  split
  · exact Reaches.refl s
  · split
    · rename_i g hm _
      exact (releaseHeld_plays _ g s (.inr (by show s.player.mode ≠ _; rw [hm]; simp))).1
    · exact Reaches.refl s

/-! ### The run controller -/

theorem playerStart_view (s : State) : ∃ y, s.player.Keeps y ∧ (playerStart s).view = { s.view with player := y } := by
  have h1 : s.player.Keeps s.player.started := ⟨le_refl _, fun _ => Nat.zero_le _, fun _ => Nat.zero_le _, id⟩
  unfold playerStart
  simp only []
  split
  · rename_i next rest hw
    obtain ⟨y, hy, hv⟩ := startSegment_view next rest { s with player := s.player.started } (by rw [hw]; exact Nat.le_succ _)
    exact ⟨y, h1.trans hy, hv⟩
  · exact ⟨_, h1, rfl⟩

theorem startRun_reaches (mode : RunMode) (tag : Nat) (m : Mask) (count : Bool) (s : State) (h : s.run.op = .ready) :
    Reaches s (startRun mode tag m count s) := by
  unfold startRun
  simp only []
  obtain ⟨y, hy, hv⟩ := playerStart_view { s with
    run := { s.run with count := 0, tag := tag, mode := mode, countEnable := count, fresh := true }
    axle := s.axle.started
    events := { s.events with entries := rebaseEvents s.events.entries } }
  generalize playerStart _ = u at hv ⊢
  have hu : (moveMask m StationRec.toCapture .startRun u).view = { s.view with player := y } :=
    (moveMask_moved _ _ _ u).view.trans hv
  generalize moveMask m StationRec.toCapture .startRun u = w at hu ⊢
  have h1 : Change s.view { s.view with op := .run } := .start _ h
  have h2 : Change { s.view with op := .run } { s.view with op := .run, player := y } := .play _ y (.inl rfl) hy
  rw [Reaches, submitState_view]
  refine .tail (.single h1) ?_
  convert h2 using 1
  exact congrArg (fun v : View => { v with op := .run }) hu

theorem takeStartRun_reaches (mode tag : Nat) (m : Mask) (count : Nat) (s : State) :
    Reaches s (takeStartRun mode tag m count s).1 := by
  unfold takeStartRun
  split
  · exact Reaches.refl s
  · rename_i h
    split
    · exact Reaches.refl s
    · split
      · exact Reaches.refl s
      · split
        · exact Reaches.refl s
        · split
          · exact Reaches.refl s
          · dsimp only
            exact startRun_reaches _ _ _ _ s (not_not.mp h)

theorem takeStopRun_reaches (s : State) : Reaches s (takeStopRun s).1 := by
  unfold takeStopRun
  split
  · exact enterStopping_reaches _ _ s
  · exact Reaches.refl s
  · exact Reaches.refl s

/-- Run end after the stations are let go, before its report (R127). -/
def runFinished (s : State) : State :=
  let s := removeRunEvents { s with player := s.player.emptied }
  { s with run := { s.run with countEnable := false, stopCause := none, op := .ready }
           pins := { s.pins with driveEnable := true } }

theorem runEnd_eq (s : State) :
    runEnd s = submitState .stopping .standstill none false (runFinished (idleEngaged .runEnd s)) := rfl

theorem runFinished_reaches (s : State) (h : s.run.op = .stopping) : Reaches s (runFinished s) := by
  have h1 : Change s.view { s.view with player := s.player.emptied } :=
    .rest _ _ (emptied_resting _) id (fun _ => Nat.zero_le _)
  exact .tail (.single h1) (Change.ready { s.view with player := s.player.emptied } (.inr ⟨h, emptied_resting _⟩))

theorem runEnd_reaches (s : State) (h : s.run.op = .stopping) : Reaches s (runEnd s) := by
  rw [runEnd_eq]
  have hi := (idleEngaged_moved .runEnd s).view
  generalize idleEngaged .runEnd s = u at hi ⊢
  have ho : u.run.op = .stopping := (congrArg View.op hi).trans h
  exact ((runFinished_reaches u ho).after hi).before (submitState_view _ _ _ _ _)

theorem takeService_reaches (n op index : Nat) (v : Int) (s : State) : Reaches s (takeService n op index v s).1 := by
  unfold takeService
  split
  · exact Reaches.refl s
  · split
    · split
      · exact Reaches.refl s
      · split
        · exact Reaches.refl s
        · rename_i m o _ _ _ hlen
          refine setLinkStation_reaches m _ s ⟨fun h => ⟨?_, h.2⟩, id⟩
          simp only [List.length_append, List.length_cons, List.length_nil]
          omega
    · exact Reaches.refl s

theorem resetPlayer_resting : resetPlayer.resting := ⟨rfl, rfl, rfl⟩

theorem resetBlocks_reaches (s : State) : Reaches s (resetBlocks s) := by
  have h1 : Change s.view { s.view with player := resetPlayer } :=
    .rest _ _ resetPlayer_resting (fun _ => Nat.zero_le _) (fun _ => Nat.zero_le _)
  have h2 : Change { s.view with player := resetPlayer } { s.view with
      player := resetPlayer, counters := (resetBlocks s).stats.counters, snap := (resetBlocks s).stats.snap.values } := by
    refine .counts _ _ _ fun _ k => ?_
    match k with
    | 0 | 1 | 2 | 3 => exact ⟨Nat.zero_le _, Nat.zero_le _, Nat.zero_le _⟩
  refine .tail (.tail (.single h1) h2) ?_
  exact .trace _ s.trace.mask [] fun _ => ⟨Nat.zero_le _, by simp⟩

theorem settleValues_reaches (s : State) (h : s.run.op.running = true) (hy : s.run.op = .safe ∨ s.player.resting) :
    Reaches s (settleValues s) := Reaches.of_change (.settle s.view h hy)

theorem resettle_reaches (prev : OpState) (c : StateCause) (s : State) (h : s.run.op.running = true)
    (hy : s.run.op = .safe ∨ s.player.resting) : Reaches s (resettle prev c s) :=
  ((settleValues_reaches s h hy).before (submitState_view _ _ _ _ _)).trans (checkEstop_reaches _)

theorem cancelled_moved (n : Station) (l : List ServiceItem) (s : State) :
    Moved s (l.foldl (fun s i => submit (.serviceDone n i .cancelled i.value) s) s) := by
  induction l generalizing s with
  | nil => exact Moved.refl s
  | cons i rest ih => exact (submit_moved _ s).trans (ih _)

theorem cancelStation_run (n : Station) (s : State) : (cancelStation n s).run = s.run := by
  unfold cancelStation
  simp only []
  rw [(cancelled_moved n _ _).eq]
  rfl

theorem cancelService_run (s : State) : (cancelService s).run = s.run := by
  have h : (eachStation (fun n _ s => cancelStation n s) s).run = s.run :=
    eachStation_induct (P := fun t => t.run = s.run) rfl fun n _ t _ ht => (cancelStation_run n t).trans ht
  unfold cancelService
  generalize eachStation _ s = u at h ⊢
  exact h

/-- A run reset before the entry to SETTLE (R133). -/
def runEmptied (s : State) : State := resetBlocks (resetStations (resetCore (cancelService s)))

theorem runReset_eq (s : State) :
    runReset s = if s.run.op.running then resettle s.run.op .runReset (runEmptied s) else runEmptied s := rfl

theorem resetCore_view (s : State) : (resetCore s).view = s.view := rfl

theorem runEmptied_reaches (s : State) : Reaches s (runEmptied s) := by
  have h := cancelService_reaches s
  unfold runEmptied
  generalize cancelService s = u at h ⊢
  have hr := (resetStations_moved (resetCore u)).view
  generalize resetStations (resetCore u) = w at hr ⊢
  exact (h.before (hr.trans (resetCore_view u))).trans (resetBlocks_reaches w)

theorem runEmptied_op (s : State) : (runEmptied s).run.op = s.run.op := by
  have h := cancelService_run s
  unfold runEmptied
  generalize cancelService s = u at h ⊢
  have hr := (resetStations_moved (resetCore u)).view
  generalize resetStations (resetCore u) = w at hr ⊢
  rw [resetBlocks_op, ← h]
  exact congrArg View.op hr

theorem runEmptied_player (s : State) : (runEmptied s).player = resetPlayer := rfl

theorem runReset_reaches (s : State) : Reaches s (runReset s) := by
  have h := runEmptied_reaches s
  have hp := runEmptied_player s
  have ho := runEmptied_op s
  rw [runReset_eq]
  generalize runEmptied s = u at h hp ho ⊢
  split
  · rename_i hr
    exact h.trans (resettle_reaches _ _ u (by rw [ho]; exact hr) (.inr (by rw [hp]; exact resetPlayer_resting)))
  · exact h

theorem takeResetRun_reaches (orderly : Bool) (s : State) : Reaches s (takeResetRun orderly s).1 := by
  unfold takeResetRun
  split
  · exact Reaches.refl s
  · split
    · exact (enterStopping_reaches _ _ _).after rfl
    · split
      · exact Reaches.of_eq rfl
      · exact runReset_reaches s

theorem takeReset_reaches (l m x : Nat) (s : State) : Reaches s (takeReset l m x s).1 := by
  unfold takeReset
  split
  · exact Reaches.refl s
  · split
    · exact Reaches.of_eq rfl
    · exact takeResetRun_reaches _ s

theorem takeClearFault_reaches (s : State) : Reaches s (takeClearFault s).1 := by
  have hc : (clearStations (updateFaults Faults.cleared s)).view = s.view :=
    (clearStations_moved (updateFaults Faults.cleared s)).view.trans (updateFaults_view _ s)
  unfold takeClearFault
  split
  · exact Reaches.refl s
  · exact Reaches.refl s
  · exact Reaches.refl s
  · exact Reaches.of_eq rfl
  · split
    · exact Reaches.refl s
    · simp only []
      split
      · rename_i hs
        generalize clearStations (updateFaults Faults.cleared s) = u at hc ⊢
        have ho : u.run.op = .safe := (congrArg View.op hc).trans hs
        exact (resettle_reaches _ _ _ (by rw [ho]; rfl) (.inl ho)).after hc
      · exact Reaches.of_eq hc

theorem silenceUpdate_reaches (s : State) : Reaches s (silenceUpdate s) := by
  unfold silenceUpdate
  simp only []
  split
  · exact (raiseFault_reaches _ _).after rfl
  · exact Reaches.of_eq rfl

theorem settleUpdate_reaches (s : State) : Reaches s (settleUpdate s) := by
  unfold settleUpdate
  split
  · rename_i h
    simp only []
    split
    · refine Reaches.before ?_ (submitState_view _ _ _ _ _)
      exact Reaches.of_change (.ready s.view (.inl h))
    · split
      · exact (raiseFault_reaches _ _).after rfl
      · exact Reaches.of_eq rfl
  · exact Reaches.refl s

theorem countCycle_view (s : State) : (countCycle s).view = s.view := by
  unfold countCycle
  split <;> rfl

/-! ### The link cycle -/

theorem settleReport_reaches (s : State) : Reaches s (settleReport s) := by
  unfold settleReport
  split
  · exact Reaches.of_eq (submit_view _ s)
  · exact Reaches.refl s

theorem beginPulse_reaches (s : State) : Reaches s (beginPulse s) := by
  unfold beginPulse
  split
  · exact Reaches.of_eq rfl
  · exact Reaches.refl s

theorem roundStart_reaches (b : Bool) (s : State) : Reaches s (roundStart b s) := by
  unfold roundStart
  split
  · exact ((publish_reaches s).trans (cycleTests_reaches _)).trans (settleReport_reaches _)
  · exact ((cycleTests_reaches s).trans (publish_reaches _)).trans (settleReport_reaches _)

theorem cycleStartWith_reaches (f : Nat → Bool) (s : State) : Reaches s (cycleStartWith f s) := by
  have h := (openCycle_reaches s).trans (beginPulse_reaches _)
  unfold cycleStartWith
  simp only []
  split
  · exact h.trans ((roundStart_reaches _ _).after rfl)
  · exact h.trans (cycleTests_reaches _)

theorem closeChecks_reaches (o : CountOrder) (s : State) : Reaches s (closeChecks o s) := by
  have hc : ∀ t, Reaches t (countCycle t) := fun t => Reaches.of_eq (countCycle_view t)
  cases o with
  | beforeLink => exact (((hc s).trans (closeLink_reaches _)).trans (silenceUpdate_reaches _)).trans (settleUpdate_reaches _)
  | beforeSilence => exact (((closeLink_reaches s).trans (hc _)).trans (silenceUpdate_reaches _)).trans (settleUpdate_reaches _)
  | afterSilence => exact (((closeLink_reaches s).trans (silenceUpdate_reaches _)).trans (hc _)).trans (settleUpdate_reaches _)

theorem cycleCloseWith_reaches (f : Nat → CountOrder) (s : State) : Reaches s (cycleCloseWith f s) := by
  unfold cycleCloseWith
  simp only []
  split
  · refine Reaches.trans ?_ (compute_reaches _)
    exact (closeChecks_reaches _ _).after rfl
  · refine Reaches.trans ?_ (compute_reaches _)
    exact (closeChecks_reaches _ _).after rfl

theorem finishRun_reaches (b : Bool) (s : State) : Reaches s (finishRun b s) := by
  unfold finishRun
  split
  · rename_i h
    simp only [Bool.and_eq_true, beq_iff_eq] at h
    split
    · exact runReset_reaches s
    · exact runEnd_reaches s h.2
  · exact Reaches.refl s

theorem completionWork_reaches (o : CompletionOrder) (k : Computation) (s : State) : Reaches s (completionWork o k s) := by
  have e := completionTests_reaches k
  have t := traceCapture_reaches k
  have r := finishRun_reaches k.standstill
  cases o with
  | eventsCaptureEnd => exact ((e s).trans (t _)).trans (r _)
  | eventsEndCapture => exact ((e s).trans (r _)).trans (t _)
  | captureEventsEnd => exact ((t s).trans (e _)).trans (r _)
  | captureEndEvents => exact ((t s).trans (r _)).trans (e _)
  | endEventsCapture => exact ((r s).trans (e _)).trans (t _)
  | endCaptureEvents => exact ((r s).trans (t _)).trans (e _)

theorem completionWith_reaches (f : Nat → CompletionOrder) (s : State) : Reaches s (completionWith f s) := by
  unfold completionWith
  simp only []
  split
  · refine Reaches.trans ?_ (completionWork_reaches _ _ _)
    exact (playAndCheck_reaches _).after rfl
  · refine Reaches.trans ?_ (traceCapture_reaches _ _)
    exact (playAndCheck_reaches _).after rfl

/-! ### The threshold steps -/

theorem serviceTimeout_reaches (n : Station) (s : State) : Reaches s (serviceTimeout n s) := by
  unfold serviceTimeout
  split
  · exact serviceStation_reaches n s
  · exact Reaches.refl s

theorem judgeIf_reaches (p : StationEvent → Bool) (n : Station) (s : State) : Reaches s (judgeIf p n s) := by
  unfold judgeIf
  split
  · exact Reaches.refl s
  · simp only []
    split
    · exact (applyJudging_reaches _ _ _).after rfl
    · exact Reaches.refl s

theorem laneDegradedStep_reaches (n : Station) (l : Lane) (s : State) : Reaches s (laneDegradedStep n l s) := by
  unfold laneDegradedStep
  split
  · exact Reaches.refl s
  · exact ite_reaches fun _ => mergeStation_reaches n _ s

theorem windupStep_reaches (s : State) : Reaches s (windupStep s) := by
  unfold windupStep
  split
  · exact windupStage_reaches s
  · exact Reaches.refl s

theorem settledStep_reaches (s : State) : Reaches s (settledStep s) := by
  unfold settledStep
  split
  · exact settleUpdate_reaches s
  · exact Reaches.refl s

theorem settleFailStep_reaches (s : State) : Reaches s (settleFailStep s) := by
  unfold settleFailStep
  split
  · exact settleUpdate_reaches s
  · exact Reaches.refl s

theorem linkLostStep_reaches (s : State) : Reaches s (linkLostStep s) := by
  unfold linkLostStep
  split
  · exact silenceUpdate_reaches s
  · exact Reaches.refl s

/-! ### The cell link port -/

theorem moveAnswer_view (m : Mask) (f : StationRec → StationRec) (reason : StationReason) (s : State) :
    (moveAnswer m f reason s).1.view = s.view := by
  unfold moveAnswer
  dsimp only
  exact (moveMask_moved m f reason s).view

theorem takeEngage_view (m : Mask) (s : State) : (takeEngage m s).1.view = s.view := by
  unfold takeEngage
  split
  · rfl
  · split
    · rfl
    · exact moveAnswer_view _ _ _ s

theorem takeRecapture_view (m : Mask) (s : State) : (takeRecapture m s).1.view = s.view := by
  unfold takeRecapture
  split
  · rfl
  · split
    · rfl
    · exact moveAnswer_view _ _ _ s

theorem takeRelease_view (m : Mask) (s : State) : (takeRelease m s).1.view = s.view := by
  unfold takeRelease
  split
  · rfl
  · split
    · rfl
    · exact moveAnswer_view _ _ _ s

theorem takeAddEvent_view (t : TriggerArg) (a r p : Nat) (s : State) : (takeAddEvent t a r p s).1.view = s.view := by
  unfold takeAddEvent
  split
  · rfl
  · split
    · rfl
    · split <;> rfl

theorem takeModifyEvent_view (n : Nat) (t : TriggerArg) (s : State) : (takeModifyEvent n t s).1.view = s.view := by
  unfold takeModifyEvent
  split
  · split
    · rfl
    · split
      · rfl
      · split <;> rfl
  · rfl

theorem takeRemoveEvent_view (n : Nat) (s : State) : (takeRemoveEvent n s).1.view = s.view := by
  unfold takeRemoveEvent
  split
  · split <;> rfl
  · rfl

theorem takeClearEvents_view (x : ClearArg) (s : State) : (takeClearEvents x s).1.view = s.view := by
  unfold takeClearEvents
  split
  · rfl
  · rfl
  · split <;> rfl

theorem parseCounter_zero {a : CounterArg} {s : State} {k : Fin 4} {c : Counter} (h : parseCounter a s = some (k, c)) :
    c.working = 0 ∧ c.published = 0 := by
  unfold parseCounter at h
  split at h
  · split at h
    · cases h
    · simp only [Option.ite_none_right_eq_some, Option.some.injEq, Prod.mk.injEq] at h
      rw [← h.2.2]
      exact ⟨rfl, rfl⟩
  · cases h

theorem takeSetCounter_reaches (a : CounterArg) (s : State) : Reaches s (takeSetCounter a s).1 := by
  unfold takeSetCounter
  split
  · exact Reaches.refl s
  · rename_i k c hp
    obtain ⟨hw, hpub⟩ := parseCounter_zero hp
    refine Reaches.of_change (.counts s.view (s.stats.counters.set k c) s.stats.snap.values fun hb j => ?_)
    by_cases hj : k = j
    · subst hj
      simp only [Fin.getElem_fin, Vector.getElem_set_self, hw, hpub]
      exact ⟨Nat.zero_le _, Nat.zero_le _, (hb k).2.2⟩
    · have : (k : Nat) ≠ j := fun e => hj (Fin.ext e)
      simp only [Fin.getElem_fin, Vector.getElem_set_ne _ _ this]
      exact hb j

theorem takeSetWatch_view (n st : Nat) (s : State) : (takeSetWatch n st s).1.view = s.view := by
  unfold takeSetWatch
  split
  · cases h : stationOf st with
    | none => simp only []; split <;> rfl
    | some m => simp only []; split <;> rfl
  · rfl

theorem takeGetStation_state (n : Nat) (s : State) : (takeGetStation n s).1 = s := by
  unfold takeGetStation
  split
  · rfl
  · split <;> rfl

theorem takeBlock_reaches (r : Request) (s : State) : Reaches s (takeBlock r s).1 := by
  cases r with
  | badKind => exact Reaches.refl s
  | badLength => exact Reaches.refl s
  | getStatus => exact Reaches.refl s
  | getStation n => exact Reaches.of_eq (congrArg State.view (takeGetStation_state n s))
  | commissionCell k => exact takeCommissionCell_reaches k s
  | commissionWrite n b => exact takeCommissionWrite_reaches n b s
  | commissionClear n => exact takeCommissionClear_reaches n s
  | commissionOther => exact Reaches.of_eq (congrArg State.view (takeCommissionOther_state s))
  | storeCommissioning => exact Reaches.of_eq (takeStore_view s)
  | leaveConfig => exact takeLeaveConfig_reaches s
  | setParam i v => exact Reaches.of_eq (takeSetParam_view i v s)
  | getParam i => exact Reaches.of_eq (congrArg State.view (takeGetParam_state i s))
  | setRoadLoad a b c m => exact Reaches.of_eq rfl
  | appendSegment g => exact takeAppend_reaches g s
  | discardSegments => exact takeDiscard_reaches s
  | startRun m t e k => exact takeStartRun_reaches m t e k s
  | stopRun => exact takeStopRun_reaches s
  | releaseHold a => exact takeReleaseHold_reaches a s
  | engage m => exact Reaches.of_eq (takeEngage_view m s)
  | release m => exact Reaches.of_eq (takeRelease_view m s)
  | recapture m => exact Reaches.of_eq (takeRecapture_view m s)
  | addEvent t a r p => exact Reaches.of_eq (takeAddEvent_view t a r p s)
  | modifyEvent n t => exact Reaches.of_eq (takeModifyEvent_view n t s)
  | removeEvent n => exact Reaches.of_eq (takeRemoveEvent_view n s)
  | clearEvents x => exact Reaches.of_eq (takeClearEvents_view x s)
  | setCounter x => exact takeSetCounter_reaches x s
  | setWatch n st => exact Reaches.of_eq (takeSetWatch_view n st s)
  | readCounters => exact Reaches.refl s
  | setTrace m d p e => exact takeSetTrace_reaches m d p e s
  | readTrace n => exact takeReadTrace_reaches n s
  | readFaults => exact Reaches.refl s
  | clearFault => exact takeClearFault_reaches s
  | service n o i v => exact takeService_reaches n o i v s
  | reset l m x => exact takeReset_reaches l m x s

theorem takeRequest_reaches (r : Request) (s : State) : Reaches s (takeRequest r s).1 := by
  unfold takeRequest
  split
  · exact Reaches.refl s
  · exact Reaches.refl s
  · split
    · exact Reaches.refl s
    · exact takeBlock_reaches _ s

theorem formReply_view (q : Queued) (a : Answer) (s : State) : (formReply q a s).view = s.view := rfl

theorem serveFront_reaches (s : State) : Reaches s (serveFront s) := by
  unfold serveFront
  split
  · split
    · exact Reaches.refl s
    · rename_i q _ _
      have h := takeRequest_reaches q.req s
      split
      · rename_i t a ht
        rw [ht] at h
        exact h.before rfl
      · rename_i t ht
        rw [ht] at h
        exact h.before rfl
  · exact Reaches.refl s

theorem arrive_view (q : Queued) (s : State) : (arrive q s).view = s.view := by
  unfold arrive
  split
  · rfl
  · split <;> rfl

theorem received_reaches (q : Queued) (s : State) : Reaches s (received q s) := by
  unfold received
  split
  · exact Reaches.refl s
  · exact (serveFront_reaches _).after (arrive_view _ _)

theorem completeRecord_reaches (r : Record) (s : State) : Reaches s (completeRecord r s) := by
  unfold completeRecord
  split
  · exact Reaches.refl s
  · split
    · exact Reaches.of_eq rfl
    · exact received_reaches _ s

theorem discardIfReceiving_reaches (s : State) : Reaches s (discardIfReceiving s) := by
  unfold discardIfReceiving
  split <;> exact Reaches.of_eq rfl

theorem beginRecord_reaches (s : State) : Reaches s (beginRecord s) := by
  unfold beginRecord
  split <;> exact Reaches.of_eq rfl

theorem replySent_reaches (s : State) : Reaches s (replySent s) := by
  unfold replySent
  split
  · exact Reaches.of_eq rfl
  · simp only []
    split
    · split <;> exact Reaches.of_eq rfl
    · exact (serveFront_reaches _).after rfl

theorem transmitEnd_reaches (s : State) : Reaches s (transmitEnd s) := by
  unfold transmitEnd
  split
  · exact Reaches.refl s
  · exact Reaches.of_eq rfl
  · exact replySent_reaches s

theorem completeStore_reaches (r : StoreResult) (s : State) : Reaches s (completeStore r s) := by
  unfold completeStore
  split
  · have h : Change s.view { s.view with mem := storedMemory r s } := .memory _ _ (storedMemory_wf r s)
    simp only []
    split
    · exact (Reaches.of_change h).before (formReply_view _ _ _)
    · exact Reaches.of_change h
  · exact Reaches.refl s

theorem pumpTx_view (s : State) : (pumpTx s).view = s.view := by
  obtain ⟨x, q, h⟩ := pumpTx_port s
  rw [h]
  rfl

/-! ### The commands -/

/-- The transmitter's choice at a command's end shows nothing in the view. -/
theorem done_reaches {s u t : State} (h : Reaches s u) (ht : done u = .next t) : Reaches s t := by
  cases ht
  exact h.before (pumpTx_view u)

theorem request_reaches {kind tag : Byte} {r : Request} {s t : State} (ht : request kind tag r s = .next t) : Reaches s t :=
  done_reaches (received_reaches _ s) ht

theorem beginFullReset_reaches (x : Straps) (s : State) : Reaches s (beginFullReset x s) := by
  unfold beginFullReset
  split
  · exact ite_reaches fun _ => fullReset_reaches _ _ _ _ _ s id
  · exact Reaches.refl s

/-- Every command is a chain of changes. -/
theorem exec_reaches (i : Instr) (s t : State) (h : exec i s = .next t) : Reaches s t := by
  cases i with
  | powerUp straps cut => exact done_reaches (fullReset_reaches _ _ _ _ _ s (cutMemory_wf cut s)) h
  | resetLineLow cut =>
    refine done_reaches ?_ h
    split
    · exact Reaches.refl s
    · exact fullReset_reaches _ _ _ _ _ s (cutMemory_wf cut s)
  | resetLineHigh straps => exact done_reaches (ite_reaches fun _ => fullReset_reaches _ _ _ _ _ s id) h
  | estopAsserted =>
    refine done_reaches ?_ h
    exact (checkEstop_reaches _).after rfl
  | estopReleased => exact done_reaches (u := { s with pins := { s.pins with estop := false } }) (Reaches.of_eq rfl) h
  | loadCompletion answers => exact done_reaches (completeLoad_reaches answers s) h
  | storeCompletion result => exact done_reaches (completeStore_reaches result s) h
  | fullReset straps => exact done_reaches (beginFullReset_reaches straps s) h
  | cycleStart => exact done_reaches (ite_reaches fun _ => cycleStartWith_reaches _ s) h
  | slotEnd n a b => exact done_reaches (ite_reaches fun _ => endSlot_reaches n a b s) h
  | cycleClose => exact done_reaches (ite_reaches fun _ => cycleCloseWith_reaches _ s) h
  | cycleComputationCompletion => exact done_reaches (ite_reaches fun _ => completionWith_reaches _ s) h
  | markerPulseEnd => exact done_reaches (u := { s with pins := { s.pins with marker := false } }) (Reaches.of_eq rfl) h
  | recordReceived r => exact done_reaches (completeRecord_reaches r s) h
  | receptionTimeout => exact done_reaches (discardIfReceiving_reaches s) h
  | lineFramingError => exact done_reaches (discardIfReceiving_reaches s) h
  | bodyLengthAboveLimit => exact done_reaches (discardIfReceiving_reaches s) h
  | startByte => exact done_reaches (beginRecord_reaches s) h
  | transmitComplete => exact done_reaches (transmitEnd_reaches s) h
  | badKind kind tag =>
    simp only [exec, execBadKind] at h
    split at h
    · exact done_reaches (Reaches.refl s) h
    · exact request_reaches h
  | serviceTimeout n => exact done_reaches (serviceTimeout_reaches n s) h
  | settled => exact done_reaches (settledStep_reaches s) h
  | settleFail => exact done_reaches (settleFailStep_reaches s) h
  | linkLost => exact done_reaches (linkLostStep_reaches s) h
  | windup => exact done_reaches (windupStep_reaches s) h
  | slipTimerExpiry n => exact done_reaches (judgeIf_reaches _ n s) h
  | captureFail n => exact done_reaches (judgeIf_reaches _ n s) h
  | stationLost n c => exact done_reaches (judgeIf_reaches _ n s) h
  | captured n => exact done_reaches (judgeIf_reaches _ n s) h
  | laneDegraded n l => exact done_reaches (laneDegradedStep_reaches n l s) h
  | tolerance => exact done_reaches (toleranceStep_reaches s) h
  | _ => exact request_reaches h

/-- Every step is a chain of changes. -/
theorem step_reaches (s t : State) (h : step s = .next t) : Reaches s t := by
  unfold step at h
  split at h
  · cases h
    exact Reaches.refl s
  · exact (exec_reaches _ _ t h).after rfl

end Sys2Proof.Machine
end

section
/-! The invariants of `View`, each kept by every change, and the obligations they settle; the machine's step and its reset
values. -/

namespace Sys2Proof.Machine

/-- DRIVE_ENABLE, link and lock follow the operating state (R1, R117, R191). -/
def View.outputsAgree (v : View) : Prop :=
  v.drive = v.op.enables ∧ v.running = v.op.running ∧ (v.op.running = true → v.locked = true)

theorem outputsAgree_iff (s : State) : s.outputsAgree = true ↔ s.view.outputsAgree := by
  unfold State.outputsAgree View.outputsAgree
  simp only [Bool.and_eq_true, beq_iff_eq, Bool.or_eq_true, Bool.not_eq_true']
  cases h : s.run.op.running <;> simp [State.view, h, and_assoc]

theorem watchesEstop_running {op : OpState} (h : op.watchesEstop = true) : op.running = true := by
  cases op <;> first | rfl | cases h

theorem Change.keeps_outputsAgree (v w : View) (h : Change v w) (hv : v.outputsAgree) : w.outputsAgree := by
  obtain ⟨hd, hr, hl⟩ := hv
  have stay : ∀ {op : OpState} (_ : op.running = true), v.op.running = true →
      v.running = op.running ∧ (op.running = true → v.locked = true) := fun ho hop =>
    ⟨by rw [hr, hop, ho], fun _ => hl hop⟩
  cases h with
  | stations | counts | trace | memory | play | append | discard | rest => exact ⟨hd, hr, hl⟩
  | config h => exact ⟨by rw [hd, h]; rfl, by rw [hr, h]; rfl, fun hc => by cases hc⟩
  | lock h => exact ⟨rfl, rfl, fun _ => rfl⟩
  | ready h =>
    have hop : v.op.running = true := by rcases h with h | ⟨h, _⟩ <;> rw [h] <;> rfl
    exact ⟨rfl, stay rfl hop⟩
  | start h => exact ⟨by rw [hd, h]; rfl, stay rfl (by rw [h]; rfl)⟩
  | stop h => exact ⟨by rw [hd, h]; rfl, stay rfl (by rw [h]; rfl)⟩
  | safe h hy => exact ⟨rfl, stay rfl (watchesEstop_running h)⟩
  | settle h hy => exact ⟨rfl, stay rfl h⟩
  | reset => exact ⟨rfl, rfl, fun hc => by cases hc⟩

/-- The waiting segments and service items and the outstanding items keep their bounds (R13, R18, R95). -/
def View.queuesSound (v : View) : Prop := v.player.waiting.length ≤ 4 ∧ ∀ n : Station, v.st[n].queued

theorem queuesSound_iff (s : State) : s.queuesSound = true ↔ s.view.queuesSound := by
  have hq : ∀ x : LinkStation, ((decide (x.waiting.length ≤ 2) &&
      (match x.outstanding with | some o => decide (o.age < 4) | none => true)) = true ↔ x.queued) := fun x => by
    unfold LinkStation.queued
    cases x.outstanding <;> simp
  unfold State.queuesSound View.queuesSound
  rw [Bool.and_eq_true, everyStation_iff, decide_eq_true_eq]
  exact and_congr Iff.rfl (forall_congr' fun n => hq _)

theorem Change.keeps_queuesSound (v w : View) (h : Change v w) (hv : v.queuesSound) : w.queuesSound := by
  obtain ⟨hw, hq⟩ := hv
  cases h with
  | stations st h => exact ⟨hw, fun n => (h n).1 (hq n)⟩
  | counts | trace | memory | config | lock | ready | start | stop | safe | settle => exact ⟨hw, hq⟩
  | play y h hy => exact ⟨hy.1.trans hw, hq⟩
  | append g h hl => exact ⟨by simpa using hl, hq⟩
  | discard => exact ⟨Nat.zero_le _, hq⟩
  | rest y h ht he => exact ⟨by rw [show y.waiting = [] from h.2.2]; exact Nat.zero_le _, hq⟩
  | reset m h =>
    refine ⟨Nat.zero_le _, fun n => ?_⟩
    have : (Vector.replicate 8 resetLinkStation)[n] = resetLinkStation := by simp
    rw [show ({ State.reset.view with mem := m } : View).st[n] = resetLinkStation from this]
    exact ⟨Nat.zero_le _, fun o ho => by cases ho⟩

/-- The counters, the snapshot and the lane streaks keep their bounds (R10, R165, R172). -/
def View.countsSound (v : View) : Prop := countsBounded v.counters v.snap ∧ ∀ n : Station, v.st[n].streaked

theorem countsSound_iff (s : State) : s.countsSound = true ↔ s.view.countsSound := by
  unfold State.countsSound View.countsSound
  rw [Bool.and_eq_true, everyStation_iff, List.all_eq_true]
  refine and_congr ⟨fun h k => ?_, fun h k _ => ?_⟩ (forall_congr' fun n => ?_)
  · have hk : k ∈ ([0, 1, 2, 3] : List (Fin 4)) := by fin_cases k <;> simp
    have := h k hk
    simp only [Bool.and_eq_true, decide_eq_true_eq] at this
    exact ⟨this.1.1, this.1.2, this.2⟩
  · obtain ⟨hw, hp, hs⟩ := h k
    simp only [Bool.and_eq_true, decide_eq_true_eq]
    exact ⟨⟨hw, hp⟩, hs⟩
  · simp only [Bool.and_eq_true, decide_eq_true_eq]
    rfl

theorem Change.keeps_countsSound (v w : View) (h : Change v w) (hv : v.countsSound) : w.countsSound := by
  obtain ⟨hc, hs⟩ := hv
  cases h with
  | stations st h => exact ⟨hc, fun n => (h n).2 (hs n)⟩
  | counts cs x h => exact ⟨h hc, hs⟩
  | trace | memory | play | append | discard | rest | config | lock | ready | start | stop | safe | settle => exact ⟨hc, hs⟩
  | reset m h =>
    refine ⟨fun k => ?_, fun n => ?_⟩
    · match k with
      | 0 | 1 | 2 | 3 => exact ⟨Nat.zero_le _, Nat.zero_le _, Nat.zero_le _⟩
    · have : (Vector.replicate 8 resetLinkStation)[n] = resetLinkStation := by simp
      rw [show ({ State.reset.view with mem := m } : View).st[n] = resetLinkStation from this]
      exact ⟨Nat.zero_le _, Nat.zero_le _⟩

theorem traceSound_iff (s : State) : s.traceSound = true ↔ traceBounded s.view.mask s.view.records := by
  unfold State.traceSound traceBounded
  simp only [Bool.and_eq_true, decide_eq_true_eq, List.all_eq_true, beq_iff_eq]
  rfl

theorem Change.keeps_traceBounded (v w : View) (h : Change v w) (hv : traceBounded v.mask v.records) :
    traceBounded w.mask w.records := by
  cases h with
  | trace m l h => exact h hv
  | reset m h => exact ⟨Nat.zero_le _, fun r hr => absurd hr (by simp [State.view, State.reset, resetTrace])⟩
  | _ => exact hv

/-- The player is EMPTY outside a run, no segment waits outside READY, RUN and STOPPING, and its counts keep their ranges
(R95, R98). -/
def View.playerSound (v : View) : Prop :=
  (v.op.inRun = false → v.player.active = none ∧ v.player.mode = .empty) ∧
    (v.op.enables = false → v.player.waiting = []) ∧ v.player.phaseTol ≤ 255 ∧ v.player.excursion ≤ 65535

theorem playerSound_iff (s : State) : s.playerSound = true ↔ s.view.playerSound := by
  unfold State.playerSound View.playerSound
  simp only [Bool.and_eq_true, Bool.or_eq_true, decide_eq_true_eq, beq_iff_eq, Option.isNone_iff_eq_none,
    List.isEmpty_iff, and_assoc]
  show _ ↔ (s.run.op.inRun = false → s.player.active = none ∧ s.player.mode = .empty) ∧
    (s.run.op.enables = false → s.player.waiting = []) ∧ s.player.phaseTol ≤ 255 ∧ s.player.excursion ≤ 65535
  cases s.run.op.inRun <;> cases s.run.op.enables <;> simp

theorem enables_of_inRun {op : OpState} (h : op.inRun = true) : op.enables = true := by
  cases op <;> first | rfl | cases h

theorem Change.keeps_playerSound (v w : View) (h : Change v w) (hv : v.playerSound) : w.playerSound := by
  obtain ⟨he, hw, ht, hx⟩ := hv
  have inRun_of_playing : v.playing → v.op.inRun = true := fun hp => by
    rcases hp with hp | hp
    · exact hp
    · by_contra hn
      exact hp (he (by simpa using hn)).2
  have atRest : ∀ {op : OpState}, v.player.resting →
      (op.inRun = false → v.player.active = none ∧ v.player.mode = .empty) ∧ (op.enables = false → v.player.waiting = []) :=
    fun hr => ⟨fun _ => ⟨hr.1, hr.2.1⟩, fun _ => hr.2.2⟩
  have outside : ∀ {op : OpState}, v.op.inRun = false → v.op.enables = false →
      (op.inRun = false → v.player.active = none ∧ v.player.mode = .empty) ∧ (op.enables = false → v.player.waiting = []) :=
    fun h1 h2 => ⟨fun _ => he h1, fun _ => hw h2⟩
  cases h with
  | stations | counts | trace | memory => exact ⟨he, hw, ht, hx⟩
  | play y h hy =>
    have hi := inRun_of_playing h
    exact ⟨fun hn => absurd (hi.symm.trans hn) (by simp), fun hn => absurd ((enables_of_inRun hi).symm.trans hn) (by simp),
      hy.2.1 ht, hy.2.2.1 hx⟩
  | append g h hl => exact ⟨he, fun hn => absurd (h.symm.trans hn) (by simp), ht, hx⟩
  | discard => exact ⟨he, fun _ => rfl, ht, hx⟩
  | rest y h hyt hye => exact ⟨fun _ => ⟨h.1, h.2.1⟩, fun _ => h.2.2, hyt ht, hye hx⟩
  | config h =>
    have := outside (op := .config) (by rw [h]; rfl) (by rw [h]; rfl)
    exact ⟨this.1, this.2, ht, hx⟩
  | lock h =>
    have := outside (op := .settle) (by rcases h with h | h <;> rw [h] <;> rfl) (by rcases h with h | h <;> rw [h] <;> rfl)
    exact ⟨this.1, this.2, ht, hx⟩
  | ready h =>
    rcases h with h | ⟨_, hr⟩
    · have := outside (op := .ready) (by rw [h]; rfl) (by rw [h]; rfl)
      exact ⟨this.1, this.2, ht, hx⟩
    · have := atRest (op := .ready) hr
      exact ⟨this.1, this.2, ht, hx⟩
  | start h => exact ⟨fun hn => (by cases hn), fun hn => (by cases hn), ht, hx⟩
  | stop h => exact ⟨fun hn => (by cases hn), fun hn => (by cases hn), ht, hx⟩
  | safe h hy =>
    have := atRest (op := .safe) hy
    exact ⟨this.1, this.2, ht, hx⟩
  | settle h hy =>
    rcases hy with hs | hr
    · have := outside (op := .settle) (by rw [hs]; rfl) (by rw [hs]; rfl)
      exact ⟨this.1, this.2, ht, hx⟩
    · have := atRest (op := .settle) hr
      exact ⟨this.1, this.2, ht, hx⟩
  | reset m h => exact ⟨fun _ => ⟨rfl, rfl⟩, fun _ => rfl, Nat.zero_le _, Nat.zero_le _⟩

theorem Change.keeps_memory (v w : View) (h : Change v w) (hv : Memory.wf v.mem = true) : Memory.wf w.mem = true := by
  cases h with
  | memory m h => exact h hv
  | reset m h => exact h hv
  | _ => exact hv

/-- A condition of the state that says what a condition of its view says, kept by every change, is kept by every step. -/
theorem step_keeps {p : State → Bool} {P : View → Prop} (hp : ∀ s, p s = true ↔ P s.view)
    (hP : ∀ v w, Change v w → P v → P w) (s t : State) (hs : p s = true) (h : step s = .next t) : p t = true :=
  (hp t).mpr ((step_reaches s t h).keeps hP ((hp s).mp hs))

/-- Settles O3: every change of the outputs follows the operating state. -/
theorem outputsFollowTheState : Obligations.OutputsFollowTheState :=
  step_keeps outputsAgree_iff Change.keeps_outputsAgree

/-- Settles O7: each bound is an invariant of the changes. -/
theorem queuesAndMemoryKeepTheirForm : Obligations.QueuesAndMemoryKeepTheirForm :=
  ⟨step_keeps queuesSound_iff Change.keeps_queuesSound, step_keeps countsSound_iff Change.keeps_countsSound,
    step_keeps traceSound_iff Change.keeps_traceBounded, step_keeps playerSound_iff Change.keeps_playerSound,
    step_keeps (p := fun s => Memory.wf s.mem) (P := fun v => Memory.wf v.mem = true) (fun _ => Iff.rfl) Change.keeps_memory⟩

/-- Settles O1. -/
theorem stepTakesTheFront : Obligations.StepTakesTheFront :=
  ⟨fun c rest s h => by rw [step, h], fun s h => by rw [step, h]⟩

/-- Every condition of a sound state holds of the reset state, by evaluation. -/
theorem reset_sound : State.reset.sound = true := by decide +kernel

/-- Settles O2: the statement is about one closed state; its values are evaluated, its soundness is `reset_sound`. -/
theorem resetValues : Obligations.ResetValues := by
  refine ⟨?_, reset_sound⟩
  dsimp only
  refine ⟨?link, ?axle, ?stations, ?monitor, ?player, ?run, ?faults, ?events, ?counters, ?snapshot, ?trace, ?store, ?params,
    ?port⟩
  all_goals decide +kernel

end Sys2Proof.Machine
end

section
/-! SUPPORT. The report queue as an account of the reports submitted, in their order; what stations that move report; what an
entry to SAFE leaves, field by field. -/

namespace Sys2Proof.Machine

/-! ### The account of the report queue (R203, R204, R205) -/

/-- The port after one report at a REPORT_LEVEL (R203). -/
def Port.tell (level : Nat) (p : Port) (x : Told) : Port :=
  if level < x.2.2.level then p
  else if p.reports.length < 32 then
    { p with reports := p.reports ++ [{ lost := p.lost, count := x.1, op := x.2.1, body := x.2.2 }], lost := 0 }
  else { p with lost := satAdd 255 p.lost 1 }

/-- The port after some reports. -/
def Port.tellAll (level : Nat) (l : List Told) (p : Port) : Port := l.foldl (Port.tell level) p

@[simp] theorem tellAll_nil (level : Nat) (p : Port) : p.tellAll level [] = p := rfl

theorem tellAll_append (level : Nat) (l m : List Told) (p : Port) :
    p.tellAll level (l ++ m) = (p.tellAll level l).tellAll level m := List.foldl_append

theorem submit_tell (b : ReportBody) (s : State) :
    submit b s = { s with port := s.port.tell s.params.reportLevel (s.run.count, s.run.op, b) } := by
  unfold submit Port.tell
  split
  · rfl
  · split <;> rfl

theorem submit_port_tellAll (b : ReportBody) (s : State) :
    (submit b s).port = s.port.tellAll s.params.reportLevel [(s.run.count, s.run.op, b)] := by
  rw [submit_tell]
  rfl

/-- Only the report queue and the lost count take part. -/
theorem tellAll_frame (level : Nat) (l : List Told) (p : Port) :
    p.tellAll level l = { p with reports := (p.tellAll level l).reports, lost := (p.tellAll level l).lost } := by
  induction l generalizing p with
  | nil => rfl
  | cons x rest ih =>
    have h := ih (p.tell level x)
    have hx : p.tell level x = { p with reports := (p.tell level x).reports, lost := (p.tell level x).lost } := by
      unfold Port.tell
      split
      · rfl
      · split <;> rfl
    exact h.trans (congrArg (fun q : Port => { q with
      reports := ((p.tell level x).tellAll level rest).reports, lost := ((p.tell level x).tellAll level rest).lost }) hx)

/-- Reports for which there is room join the queue within REPORT_LEVEL, in their order (R203, R204). -/
theorem tellAll_room (level : Nat) (l : List Told) (p : Port)
    (h : p.reports.length + (l.filter fun x => decide (x.2.2.level ≤ level)).length ≤ 32) :
    p.tellAll level l = { p with
      reports := p.reports ++ queuedReports p.lost (l.filter fun x => decide (x.2.2.level ≤ level))
      lost := if (l.filter fun x => decide (x.2.2.level ≤ level)) = [] then p.lost else 0 } := by
  induction l generalizing p with
  | nil => simp [Port.tellAll, queuedReports]
  | cons x rest ih =>
    show (p.tell level x).tellAll level rest = _
    by_cases hx : x.2.2.level ≤ level
    · simp only [List.filter_cons, hx, decide_true, ↓reduceIte, List.length_cons] at h ⊢
      have hroom : p.reports.length < 32 := by omega
      have ht : p.tell level x = { p with
          reports := p.reports ++ [{ lost := p.lost, count := x.1, op := x.2.1, body := x.2.2 }], lost := 0 } := by
        simp [Port.tell, Nat.not_lt.mpr hx, hroom]
      rw [ht, ih _ (by simp only [List.length_append, List.length_cons, List.length_nil]; omega)]
      simp [queuedReports]
    · simp only [List.filter_cons, hx, decide_false] at h ⊢
      have ht : p.tell level x = p := by simp [Port.tell, Nat.lt_of_not_le hx]
      rw [ht]
      exact ih p h

/-- The account of a state whose port has taken exactly these reports. -/
theorem submits_of_tellAll {s t : State} {l : List Told}
    (hr : t.port.reports = (s.port.tellAll s.params.reportLevel l).reports)
    (hl : t.port.lost = (s.port.tellAll s.params.reportLevel l).lost) : submits s t l := by
  intro hroom
  have h := tellAll_room s.params.reportLevel l s.port hroom
  rw [hr, hl, h]
  exact ⟨rfl, rfl⟩

/-- The transmitter's choice by what it finds (R196, R201, R205). -/
theorem pumpTx_cases (u : State) :
    ((u.port.tx = .idle ∧ u.port.replies = [] ∧ u.pins.resetHeld = false ∧ ¬∃ f, u.port.fullReset = some f ∧ f.sent = true) ∧
      pumpTx u = (match u.port.reports with
        | [] => u
        | r :: rest => { u with port := { u.port with tx := .report r, reports := rest } })) ∨
    (¬(u.port.tx = .idle ∧ u.port.replies = [] ∧ u.pins.resetHeld = false ∧ ¬∃ f, u.port.fullReset = some f ∧ f.sent = true) ∧
      ∃ x, pumpTx u = { u with port := { u.port with tx := x } }) := by
  unfold pumpTx
  by_cases h1 : u.pins.resetHeld = true
  · exact .inr ⟨fun h => by simp [h1] at h, u.port.tx, by simp [h1]⟩
  · by_cases h2 : u.port.fullReset.any PendingFull.sent = true
    · refine .inr ⟨fun h => h.2.2.2 ?_, u.port.tx, by simp [h1, h2]⟩
      cases hf : u.port.fullReset with
      | none => simp [hf] at h2
      | some f => exact ⟨f, rfl, by simpa [hf] using h2⟩
    · have hn : ¬∃ f, u.port.fullReset = some f ∧ f.sent = true := fun ⟨f, hf, hs⟩ => h2 (by simp [hf, hs])
      simp only [h1, h2, if_false, Bool.false_eq_true]
      cases htx : u.port.tx with
      | reply => exact .inr ⟨fun h => by simp at h, .reply, by simp [← htx]⟩
      | report r => exact .inr ⟨fun h => by simp at h, .report r, by simp [← htx]⟩
      | idle =>
        cases hrep : u.port.replies with
        | cons a rest => exact .inr ⟨fun h => by simp at h, .reply, rfl⟩
        | nil =>
          refine .inl ⟨⟨rfl, rfl, by simp, hn⟩, ?_⟩
          cases u.port.reports <;> rfl

/-- The account of a command whose meaning leaves a port that has taken exactly these reports. -/
theorem emits_of_tellAll {s u : State} {l : List Told} (hp : u.port = s.port.tellAll s.params.reportLevel l)
    (hr : u.pins.resetHeld = s.pins.resetHeld) : emits s (pumpTx u) l := by
  intro hroom
  have h := hp.trans (tellAll_room s.params.reportLevel l s.port hroom)
  have htx : u.port.tx = s.port.tx := by rw [h]
  have hrep : u.port.replies = s.port.replies := by rw [h]
  have hfull : u.port.fullReset = s.port.fullReset := by rw [h]
  have hlost : u.port.lost = if heard s l = [] then s.port.lost else 0 := by rw [h]; rfl
  have hq : u.port.reports = s.port.reports ++ queuedReports s.port.lost (heard s l) := by rw [h]; rfl
  have hc := pumpTx_cases u
  rw [htx, hrep, hr, hfull, hq] at hc
  dsimp only
  generalize s.port.reports ++ queuedReports s.port.lost (heard s l) = queue at hq hc ⊢
  rcases hc with ⟨hch, ht⟩ | ⟨hch, x, ht⟩
  · refine ⟨?_, fun hn => absurd hch hn, fun _ => ?_⟩
    · rw [ht, ← hlost]
      cases queue <;> rfl
    · cases queue with
      | nil => exact ⟨by rw [ht]; exact hq, by rw [ht]; exact htx.trans hch.1⟩
      | cons r rest => exact ⟨by rw [ht]; rfl, by rw [ht]⟩
  · refine ⟨by rw [ht]; exact hlost, fun _ => by rw [ht]; exact hq, fun hy => absurd hy hch⟩

/-! ### Stations that move, with their reports (R62) -/

/-- The monitor whose summaries a STATION report of this reason carries (R90; log 45). -/
def State.reportMonitor (s : State) (reason : StationReason) : Monitor :=
  if reason.byRequest then s.monitorSeen else s.monitor

theorem updateSeen_axleSeen (n : Station) (f : StationRec → StationRec) (s : State) : (updateSeen n f s).axleSeen = s.axleSeen := by
  unfold State.axleSeen updateSeen
  cases s.comp <;> rfl

theorem updateSeen_monitorSeen (n : Station) (f : StationRec → StationRec) (s : State) :
    (updateSeen n f s).monitorSeen = s.monitorSeen := by
  unfold State.monitorSeen updateSeen
  cases s.comp <;> rfl

theorem Moved.params {s t : State} (h : Moved s t) : t.params = s.params := by rw [h.eq]; rfl
theorem Moved.run {s t : State} (h : Moved s t) : t.run = s.run := by rw [h.eq]; rfl
theorem Moved.store {s t : State} (h : Moved s t) : t.store = s.store := by rw [h.eq]; rfl
theorem Moved.axle {s t : State} (h : Moved s t) : t.axle = s.axle := by rw [h.eq]; rfl
theorem Moved.monitor {s t : State} (h : Moved s t) : t.monitor = s.monitor := by rw [h.eq]; rfl
theorem Moved.faults {s t : State} (h : Moved s t) : t.faults = s.faults := by rw [h.eq]; rfl
theorem Moved.pins {s t : State} (h : Moved s t) : t.pins = s.pins := by rw [h.eq]; rfl
theorem Moved.player {s t : State} (h : Moved s t) : t.player = s.player := by rw [h.eq]; rfl
theorem Moved.events {s t : State} (h : Moved s t) : t.events = s.events := by rw [h.eq]; rfl

theorem cell_of_store {s t : State} (h : t.store = s.store) : t.cell = s.cell := by unfold State.cell; rw [h]

/-- What a report of one station's move to a state other than FAULTED carries. -/
def movedTold (s : State) (m : Monitor) (reason : StationReason) (f : StationRec → StationRec) (n : Station) (r : StationRec) : Told :=
  (s.run.count, s.run.op, .station n r.state (f r).state reason none (f r).e (f r).measured
    (displaySpeed s.axleSeen.v s.cell.period) m.summaries[(f r).block.axle])

/-- One station's move: its record, its report, and what the replies and reports show besides. -/
theorem moveStation_told (n : Station) (r : StationRec) (f : StationRec → StationRec) (reason : StationReason) (s : State)
    (hf : (f r).state ≠ .faulted) :
    (moveStation n r f reason s).stations = s.stations.set n (some (f r)) ∧
      (moveStation n r f reason s).port =
        s.port.tellAll s.params.reportLevel [movedTold s (s.reportMonitor reason) reason f n r] ∧
      (moveStation n r f reason s).axleSeen = s.axleSeen ∧ (moveStation n r f reason s).monitorSeen = s.monitorSeen := by
  unfold moveStation submitStation
  simp only [hf, if_false]
  rw [updateSeen_axleSeen, updateSeen_monitorSeen]
  refine ⟨?_, ?_, ?_, ?_⟩
  · rw [submit_tell]
    rfl
  · exact submit_port_tellAll _ _
  · rw [submit_tell]
    exact updateSeen_axleSeen n _ (setStation n (f r) s)
  · rw [submit_tell]
    exact updateSeen_monitorSeen n _ (setStation n (f r) s)

/-- The report of one station, if p chooses it. -/
def stationTold (s : State) (op : OpState) (v : Int) (m : Monitor) (reason : StationReason) (p : Station → StationRec → Bool)
    (f : StationRec → StationRec) (count : Word32) (n : Station) : Option Told :=
  match s.stations[n] with
  | none => none
  | some r => if p n r then some (count, op, .station n r.state (f r).state reason none (f r).e (f r).measured
      (displaySpeed v s.cell.period) m.summaries[r.block.axle]) else none

theorem stationReports_eq (s : State) (op : OpState) (v : Int) (m : Monitor) (reason : StationReason)
    (p : Station → StationRec → Bool) (f : StationRec → StationRec) (count : Word32) :
    stationReports s op v m reason p f count = stationList.filterMap (stationTold s op v m reason p f count) := by
  unfold stationReports
  congr 1
  funext n
  unfold stationTold
  cases s.stations[n] <;> rfl

theorem Vector.set_get {α : Type} (v : Vector α 8) (n m : Station) (x : α) :
    (v.set n x)[m] = if n = m then x else v[m] := by
  by_cases h : n = m
  · subst h
    simp
  · have : (n : Nat) ≠ m := fun e => h (Fin.ext e)
    simp [Vector.getElem_set_ne _ _ this, h]

/-- Stations moved where p holds, to states other than FAULTED: their records, and their STATION reports in order. -/
theorem eachStation_move (p : Station → StationRec → Bool) (f : StationRec → StationRec) (reason : StationReason) (s : State)
    (hf : ∀ r, (f r).state ≠ .faulted) (hb : ∀ r, (f r).block = r.block) :
    let t := eachStation (fun n r s => if p n r = true then moveStation n r f reason s else s) s
    stationsBecome s t p f ∧
      t.port = s.port.tellAll s.params.reportLevel
        (stationReports s s.run.op s.axleSeen.v (s.reportMonitor reason) reason p f s.run.count) ∧
      (s.comp = none → t.comp = none) := by
  let g := stationTold s s.run.op s.axleSeen.v (s.reportMonitor reason) reason p f s.run.count
  let Q (l : List Station) (t : State) : Prop := Moved s t ∧
    (∀ m, t.stations[m] = if m ∈ l then s.stations[m].map (fun r => if p m r then f r else r) else s.stations[m]) ∧
    t.port = s.port.tellAll s.params.reportLevel (l.filterMap g) ∧ t.axleSeen = s.axleSeen ∧
    t.monitorSeen = s.monitorSeen ∧ (s.comp = none → t.comp = none)
  have h : Q stationList (eachStation (fun n r s => if p n r = true then moveStation n r f reason s else s) s) := by
    refine eachStation_progress ⟨Moved.refl s, fun m => by simp, rfl, rfl, rfl, id⟩ fun l n t hn ⟨hm, hst, hp, ha, hmon, hc⟩ => ?_
    have hsn : t.stations[n] = s.stations[n] := by rw [hst n, if_neg hn]
    have stay : ∀ m, m ≠ n → ((m ∈ l ++ [n]) ↔ m ∈ l) := fun m hne => by simp [hne]
    unfold stationTurn
    cases hr : s.stations[n] with
    | none =>
      rw [hsn, hr]
      refine ⟨hm, fun m => ?_, ?_, ha, hmon, hc⟩
      · by_cases hmn : m = n
        · subst hmn; rw [hst m, hr]; simp
        · simp only [stay m hmn]; exact hst m
      · have : g n = none := by simp only [g, stationTold, hr]
        simp [this, hp]
    | some r =>
      rw [hsn, hr]
      dsimp only
      by_cases hpn : p n r = true
      · rw [if_pos hpn]
        obtain ⟨h1, h2, h3, h4⟩ := moveStation_told n r f reason t (hf r)
        have hmt : t.reportMonitor reason = s.reportMonitor reason := by
          unfold State.reportMonitor; rw [hmon, hm.monitor]
        refine ⟨hm.trans (moveStation_moved n r f reason t), fun m => ?_, ?_, h3.trans ha, h4.trans hmon, fun hcs => ?_⟩
        · rw [h1, Vector.set_get]
          by_cases hmn : n = m
          · subst hmn; simp [hr, hpn]
          · simp only [hmn, if_false, stay m (Ne.symm hmn)]; exact hst m
        · have hg : g n = some (movedTold t (t.reportMonitor reason) reason f n r) := by
            simp only [g, stationTold, hr, hpn, if_true, movedTold, ha, hmt, hm.run, cell_of_store hm.store, hb]
          rw [h2, hp, hm.params, List.filterMap_append, tellAll_append]
          simp [hg]
        · have := hc hcs
          unfold moveStation submitStation
          rw [submit_tell]
          simp [updateSeen, setStation, this]
      · rw [if_neg hpn]
        refine ⟨hm, fun m => ?_, ?_, ha, hmon, hc⟩
        · by_cases hmn : m = n
          · subst hmn; rw [hst m, hr]; simp [hn, hpn]
          · simp only [stay m hmn]; exact hst m
        · have : g n = none := by simp only [g, stationTold, hr, if_neg hpn]
          simp [this, hp]
  obtain ⟨_, hst, hp, _, _, hc⟩ := h
  refine ⟨fun n => ?_, ?_, hc⟩
  · rw [hst n, if_pos (mem_stationList n)]
  · rw [hp, stationReports_eq]

/-! ### Entry to SAFE (R129) -/

theorem engaged_eq (r : StationRec) : r.state.engaged = engagedIn r := by
  unfold engagedIn
  cases r.state <;> rfl

/-- Every engaged station let go: records and reports (R77). -/
theorem idleEngaged_told (reason : StationReason) (s : State) :
    stationsBecome s (idleEngaged reason s) (fun _ r => engagedIn r) idled ∧
      (idleEngaged reason s).port = s.port.tellAll s.params.reportLevel
        (stationReports s s.run.op s.axleSeen.v (s.reportMonitor reason) reason (fun _ r => engagedIn r) idled s.run.count) ∧
      (s.comp = none → (idleEngaged reason s).comp = none) := by
  have he : idleEngaged reason s =
      eachStation (fun n r s => if engagedIn r = true then moveStation n r idled reason s else s) s := by
    unfold idleEngaged
    congr 1
    funext n r t
    rw [engaged_eq]
    rfl
  rw [he]
  exact eachStation_move (fun _ r => engagedIn r) idled reason s (fun _ => by simp [idled]) (fun _ => rfl)

theorem enteringSafe_speed (s : State) : (enteringSafe s).axleSeen.v = 0 := by
  unfold enteringSafe voidComputation State.axleSeen
  dsimp only
  cases hc : s.comp with
  | none => rfl
  | some c => cases hb : c.began.inRun <;> simp [hb]

theorem enteringSafe_of_none (s : State) (h : s.comp = none) : enteringSafe s = { s with
    run := { s.run with op := .safe }, pins := { s.pins with driveEnable := false }, axle := { s.axle with v := 0 } } := by
  unfold enteringSafe voidComputation
  simp only [h]

theorem enteringSafe_stays (s : State) : (enteringSafe s).run = { s.run with op := .safe } ∧
    (enteringSafe s).pins = { s.pins with driveEnable := false } ∧ (enteringSafe s).player = s.player ∧
    (enteringSafe s).port = s.port ∧ (enteringSafe s).faults = s.faults ∧ (enteringSafe s).stations = s.stations ∧
    (enteringSafe s).events = s.events := by
  unfold enteringSafe voidComputation
  dsimp only
  cases s.comp with
  | none => exact ⟨rfl, rfl, rfl, rfl, rfl, rfl, rfl⟩
  | some c =>
    dsimp only
    split <;> exact ⟨rfl, rfl, rfl, rfl, rfl, rfl, rfl⟩

theorem runAbandoned_events {prev : OpState} (h : prev.inRun = false) (s : State) : (runAbandoned prev s).events = s.events := by
  unfold runAbandoned
  rw [h]
  rfl

theorem runAbandoned_stays (prev : OpState) (s : State) : (runAbandoned prev s).run = s.run ∧
    (runAbandoned prev s).pins = s.pins ∧ (runAbandoned prev s).player = s.player.emptied ∧
    (runAbandoned prev s).port = s.port ∧ (runAbandoned prev s).faults = s.faults ∧
    (runAbandoned prev s).stations = s.stations ∧ (runAbandoned prev s).comp = s.comp ∧
    (runAbandoned prev s).axle = s.axle ∧ (runAbandoned prev s).params = s.params := by
  unfold runAbandoned
  dsimp only
  split <;> exact ⟨rfl, rfl, rfl, rfl, rfl, rfl, rfl, rfl, rfl⟩

/-- A raise recorded and reported, its reaction apart (R139). -/
def raised (f : Raise) (s : State) : State :=
  { updateFaults (Faults.take f s.run.count s.run.op) s with
    port := s.port.tell s.params.reportLevel (faultTold s.faults s.run.count s.run.op f) }

theorem raiseFault_eq (f : Raise) (s : State) :
    raiseFault f s = if s.faults.reaction.accepts f.kind.level then react f.kind (raised f s) else raised f s := by
  unfold raiseFault
  dsimp only
  rw [submit_tell]
  rfl

theorem react_one (k : FaultKind) (s : State) (h : k.level = 1) (hop : s.run.op.watchesEstop = true) :
    react k s = enterSafe k s := by
  unfold react
  rw [h]
  exact if_pos hop

theorem react_two (k : FaultKind) (s : State) (h : k.level = 2) : react k s = enterStopping .fault (some k) s := by
  unfold react
  rw [h]
  rfl

/-- What a raise of level 1 leaves that takes the part to SAFE (R129, R139). -/
structure SafeBy (f : Raise) (s t : State) : Prop where
  reacted : Reacted s t
  run : t.run = { s.run with op := .safe, countEnable := false, stopCause := none, orderly := false }
  pins : t.pins = { s.pins with driveEnable := false }
  player : t.player = s.player.emptied
  faults : t.faults = Faults.take f s.run.count s.run.op s.faults
  stations : stationsBecome s t (fun _ r => engagedIn r) idled
  port : t.port = s.port.tellAll s.params.reportLevel (safeReports s s.run.op f)
  resting : s.comp = none → t.comp = none ∧ t.axle = { s.axle with v := 0 }
  events : s.run.op.inRun = false → t.events = s.events

/-- The entry to SAFE from a state, field by field; its reports are the STATION reports of the engaged stations and STATE. -/
theorem enterSafe_told (k : FaultKind) (s : State) :
    (enterSafe k s).run = { s.run with op := .safe, countEnable := false, stopCause := none, orderly := false } ∧
      (enterSafe k s).pins = { s.pins with driveEnable := false } ∧ (enterSafe k s).player = s.player.emptied ∧
      (enterSafe k s).faults = s.faults ∧ stationsBecome s (enterSafe k s) (fun _ r => engagedIn r) idled ∧
      (enterSafe k s).port = s.port.tellAll s.params.reportLevel
        (stationReports s .safe 0 s.monitor .safe (fun _ r => engagedIn r) idled s.run.count ++
          [(s.run.count, .safe, .state s.run.op .safe .fault (some k) s.run.tag s.run.mode false s.run.orderly)]) ∧
      (s.comp = none → (enterSafe k s).comp = none ∧ (enterSafe k s).axle = { s.axle with v := 0 }) ∧
      (s.run.op.inRun = false → (enterSafe k s).events = s.events) := by
  obtain ⟨er, ep, ey, eport, ef, es, ee⟩ := enteringSafe_stays s
  have espeed := enteringSafe_speed s
  have ereact := enteringSafe_reacted s
  have enone := enteringSafe_of_none s
  obtain ⟨vst, vport, vcomp⟩ := idleEngaged_told .safe (enteringSafe s)
  have vm := idleEngaged_moved .safe (enteringSafe s)
  obtain ⟨wr, wp, wy, wport, wf, ws, wc, wa, wpar⟩ := runAbandoned_stays s.run.op (idleEngaged .safe (enteringSafe s))
  have wev := fun h => runAbandoned_events (prev := s.run.op) h (idleEngaged .safe (enteringSafe s))
  rw [enterSafe_eq]
  generalize runAbandoned s.run.op (idleEngaged .safe (enteringSafe s)) = w at *
  generalize idleEngaged .safe (enteringSafe s) = v at *
  generalize enteringSafe s = e at *
  rw [submitState_eq, submit_tell]
  have hwrun : w.run = { s.run with op := .safe } := by rw [wr, vm.run, er]
  have hparams : w.params = s.params := by rw [wpar, vm.params, ereact.params]
  refine ⟨?_, ?_, ?_, ?_, ?_, ?_, ?_, fun h => (wev h).trans (vm.events.trans ee)⟩
  · show ({ w.run with countEnable := false, stopCause := none, orderly := false } : Run) = _
    rw [hwrun]
  · show w.pins = _
    rw [wp, vm.pins, ep]
  · show w.player = _
    rw [wy, vm.player, ey]
  · show w.faults = _
    rw [wf, vm.faults, ef]
  · intro n
    show w.stations[n] = _
    rw [ws, vst n, es]
  · have hcell : e.cell = s.cell := cell_of_store ereact.store
    have hrep : ∀ op v m c, stationReports e op v m .safe (fun _ r => engagedIn r) idled c =
        stationReports s op v m .safe (fun _ r => engagedIn r) idled c := fun op v m c => by
      unfold stationReports
      rw [es, hcell]
    have hmon : e.reportMonitor .safe = s.monitor := ereact.monitor
    rw [tellAll_append]
    show w.port.tell w.params.reportLevel (w.run.count, w.run.op, .state s.run.op w.run.op .fault (some k) w.run.tag w.run.mode
      false w.run.orderly) = _
    rw [wport, vport, hrep, espeed, hmon, hparams, hwrun, er, eport, ereact.params]
    rfl
  · intro hc
    have hcomp : w.comp = none := by
      rw [wc]
      exact vcomp (by rw [enone hc]; exact hc)
    refine ⟨hcomp, ?_⟩
    show w.axle = _
    rw [wa, vm.axle, enone hc]

/-- A level-1 raise in SETTLE, READY, RUN or STOPPING takes the part to SAFE, its FAULT before the STATION and STATE reports of the
entry. -/
theorem raiseFault_safe (f : Raise) (s : State) (h1 : f.kind.level = 1) (hop : s.run.op.watchesEstop = true) :
    SafeBy f s (raiseFault f s) := by
  have hr := raiseFault_reacted f s
  have he : raiseFault f s = enterSafe f.kind (raised f s) := by
    rw [raiseFault_eq, h1, accepts_one, if_pos rfl, react_one f.kind (raised f s) h1 hop]
  obtain ⟨srun, spins, splayer, sfaults, sst, sport, snone, sev⟩ := enterSafe_told f.kind (raised f s)
  rw [← he] at srun spins splayer sfaults sst sport snone sev
  refine ⟨hr, srun, spins, splayer, sfaults, sst, ?_, fun hc => ?_, sev⟩
  · rw [sport]
    rfl
  · refine snone ?_
    show s.comp.map _ = none
    rw [hc]
    rfl

theorem checkEstop_safe (s : State) (he : s.pins.estop = true) (hop : s.run.op.watchesEstop = true) :
    SafeBy { kind := .estop } s (checkEstop s) := by
  unfold checkEstop
  rw [he, hop]
  exact raiseFault_safe _ s rfl hop

end Sys2Proof.Machine
end

section
/-! The entries to SETTLE from LOADING and CONFIG: LOAD_COMPLETION and LEAVE_CONFIG, with ESTOP released and asserted. -/

namespace Sys2Proof.Machine

/-! ### What the transmitter leaves -/

section
variable (s : State)
@[simp] theorem pumpTx_pending : (pumpTx s).pending = s.pending := by obtain ⟨x, q, h⟩ := pumpTx_port s; rw [h]
@[simp] theorem pumpTx_pins : (pumpTx s).pins = s.pins := by obtain ⟨x, q, h⟩ := pumpTx_port s; rw [h]
@[simp] theorem pumpTx_link : (pumpTx s).link = s.link := by obtain ⟨x, q, h⟩ := pumpTx_port s; rw [h]
@[simp] theorem pumpTx_axle : (pumpTx s).axle = s.axle := by obtain ⟨x, q, h⟩ := pumpTx_port s; rw [h]
@[simp] theorem pumpTx_stations : (pumpTx s).stations = s.stations := by obtain ⟨x, q, h⟩ := pumpTx_port s; rw [h]
@[simp] theorem pumpTx_monitor : (pumpTx s).monitor = s.monitor := by obtain ⟨x, q, h⟩ := pumpTx_port s; rw [h]
@[simp] theorem pumpTx_comp : (pumpTx s).comp = s.comp := by obtain ⟨x, q, h⟩ := pumpTx_port s; rw [h]
@[simp] theorem pumpTx_player : (pumpTx s).player = s.player := by obtain ⟨x, q, h⟩ := pumpTx_port s; rw [h]
@[simp] theorem pumpTx_run : (pumpTx s).run = s.run := by obtain ⟨x, q, h⟩ := pumpTx_port s; rw [h]
@[simp] theorem pumpTx_faults : (pumpTx s).faults = s.faults := by obtain ⟨x, q, h⟩ := pumpTx_port s; rw [h]
@[simp] theorem pumpTx_events : (pumpTx s).events = s.events := by obtain ⟨x, q, h⟩ := pumpTx_port s; rw [h]
@[simp] theorem pumpTx_stats : (pumpTx s).stats = s.stats := by obtain ⟨x, q, h⟩ := pumpTx_port s; rw [h]
@[simp] theorem pumpTx_trace : (pumpTx s).trace = s.trace := by obtain ⟨x, q, h⟩ := pumpTx_port s; rw [h]
@[simp] theorem pumpTx_store : (pumpTx s).store = s.store := by obtain ⟨x, q, h⟩ := pumpTx_port s; rw [h]
@[simp] theorem pumpTx_params : (pumpTx s).params = s.params := by obtain ⟨x, q, h⟩ := pumpTx_port s; rw [h]
@[simp] theorem pumpTx_free : (pumpTx s).free = s.free := by obtain ⟨x, q, h⟩ := pumpTx_port s; rw [h]
end

/-- The transmitter's choice after a command that only submitted reports. -/
theorem pumpTx_told {s u : State} {level : Nat} {l : List Told} (hp : u.port = s.port.tellAll level l) :
    pumpTx u = { u with port := { s.port with
      reports := (pumpTx u).port.reports, lost := (pumpTx u).port.lost, tx := (pumpTx u).port.tx } } := by
  have hf := hp.trans (tellAll_frame level l s.port)
  obtain ⟨x, q, h⟩ := pumpTx_port u
  rw [h, hf]

/-! ### Forming the station table (R189) -/

theorem syncStations_get (w : Option Station) (s : State) (n : Station) :
    (syncStations w s).stations[n] = (s.store.commissions n).bind fun b =>
      if s.renews w n then some (freshRecord b s.params.circTrim[n]) else s.stations[n] := by
  unfold syncStations
  simp only [ofEight_get]
  cases s.store.commissions n <;> rfl

theorem syncStations_link (w : Option Station) (s : State) (n : Station) :
    (syncStations w s).link.st[n] = if s.renews w n then resetLinkStation else s.link.st[n] := by
  unfold syncStations
  simp only [ofEight_get]

theorem commissions_eq (x : Store) (n : Station) :
    x.commissions n = x.cell.bind fun k => if inMask k.mask n then x.blocks[n] else none := by
  unfold Store.commissions
  cases x.cell <;> rfl

/-- A load's working set is formed from nothing: each commissioned station has a fresh record. -/
theorem syncStations_empty (s : State) (hs : ∀ n : Station, s.stations[n] = none) (n : Station) :
    (syncStations none s).stations[n] = (s.store.commissions n).map fun b => freshRecord b s.params.circTrim[n] := by
  have hr : s.renews none n = (s.store.commissions n).isSome := by
    unfold State.renews State.has
    rw [hs n]
    simp
  rw [syncStations_get, hr]
  cases s.store.commissions n <;> rfl

theorem syncStations_linkRenewed (s : State) (hs : ∀ n : Station, s.stations[n] = none) :
    linkRenewed s (syncStations none s) (fun n => (syncStations none s).stations[n] ≠ none) := by
  have hr : ∀ n, s.renews none n = (s.store.commissions n).isSome := fun n => by
    unfold State.renews State.has
    rw [hs n]
    simp
  refine ⟨fun n hn => ?_, fun n hn => ?_⟩
  · dsimp only at hn
    rw [syncStations_empty s hs] at hn
    have : (s.store.commissions n).isSome = true := by
      cases h : s.store.commissions n with
      | none => rw [h] at hn; exact absurd rfl hn
      | some b => rfl
    rw [syncStations_link, hr, this]
    rfl
  · dsimp only at hn
    rw [syncStations_empty s hs, not_not, Option.map_eq_none_iff] at hn
    rw [syncStations_link, hr, hn]
    rfl

theorem missCleared_map (v : Vector (Option StationRec) 8) :
    missCleared v = v.map (Option.map fun r => { r with miss := 0 }) := by
  ext i hi
  have h := missCleared_get v ⟨i, hi⟩
  simp only [Fin.getElem_fin] at h
  rw [h, Vector.getElem_map]

theorem missless_eq (s : State) :
    (s.comp.map fun k => { k with recordsBefore := missCleared k.recordsBefore }) = missless s := by
  unfold missless
  simp only [missCleared_map]

/-! ### LOAD_COMPLETION -/

/-- The working set of a VALID image with its MASS, the station table not yet formed (R186). -/
def loadedSet (k : CellBlock) (blocks : Vector (Option StationBlock) 8) (s : State) : State :=
  { s with
    store := { s.store with cell := some k, blocks := blocks, outcome := .valid }
    params := { s.params with mass := k.massMin } }

/-- The state a VALID image leaves before the part leaves LOADING (R186). -/
def loadedState (k : CellBlock) (blocks : Vector (Option StationBlock) 8) (s : State) : State :=
  formLimit k (syncStations none (loadedSet k blocks s))

theorem loadedState_stations (k : CellBlock) (blocks : Vector (Option StationBlock) 8) (s : State)
    (hs : ∀ n : Station, s.stations[n] = none) (n : Station) :
    (loadedState k blocks s).stations[n] =
      if inMask k.mask n then blocks[n].map (fun b => freshRecord b s.params.circTrim[n]) else none := by
  have hs' : ∀ n : Station, (loadedSet k blocks s).stations[n] = none := hs
  unfold loadedState
  rw [formLimit_stations, syncStations_empty _ hs', loadedSet]
  simp only [commissions_eq, Option.bind_some]
  split <;> rfl

theorem loadedState_linkRenewed (k : CellBlock) (blocks : Vector (Option StationBlock) 8) (s : State)
    (hs : ∀ n : Station, s.stations[n] = none) :
    linkRenewed s (loadedState k blocks s) (fun n => (loadedState k blocks s).stations[n] ≠ none) := by
  unfold loadedState
  exact syncStations_linkRenewed (loadedSet k blocks s) hs

theorem completeLoad_valid (answers : Bool) (s : State) (k : CellBlock) (blocks : Vector (Option StationBlock) 8)
    (hop : s.run.op = .loading) (hr : s.pins.resetHeld = false)
    (hl : loadImage answers s.mem s.memCut = (.valid, some (k, blocks))) :
    completeLoad answers s = leaveLoading (loadedState k blocks s) := by
  unfold completeLoad
  rw [if_pos ⟨hop, hr⟩, hl]
  rfl

/-- Stations that are fresh have no misses to clear, and are not engaged. -/
theorem loaded_fresh {k : CellBlock} {blocks : Vector (Option StationBlock) 8} {s : State}
    (hs : ∀ n : Station, s.stations[n] = none) {n : Station} {r : StationRec}
    (h : (loadedState k blocks s).stations[n] = some r) : r.miss = 0 ∧ engagedIn r = false := by
  rw [loadedState_stations k blocks s hs] at h
  split at h
  · obtain ⟨b, _, rfl⟩ := Option.map_eq_some_iff.mp h
    exact ⟨rfl, rfl⟩
  · cases h

/-- Where a VALID image leads without the stay-in-CONFIG flag: SETTLE, with the STARTED report. -/
theorem leaveLoading_settle (s : State) (ho : s.store.outcome = .valid) (hstay : s.run.stay = false) :
    leaveLoading s = checkEstop (submit (.started s.run.reason .valid .settle) (startLink (settleValues s))) := by
  unfold leaveLoading
  rw [ho, if_pos ⟨rfl, hstay⟩]

/-- Every other load ends in CONFIG. -/
theorem leaveLoading_config (s : State) (h : s.store.outcome ≠ .valid ∨ s.run.stay = true) :
    leaveLoading s = submit (.started s.run.reason s.store.outcome .config) { s with run := { s.run with op := .config } } := by
  unfold leaveLoading
  rw [if_neg]
  rintro ⟨h1, h2⟩
  rcases h with h | h
  · exact h h1
  · rw [h2] at h; cases h

/-- SETTLE entered from a load. -/
def loadSettled (k : CellBlock) (blocks : Vector (Option StationBlock) 8) (s : State) : State :=
  startLink (settleValues (loadedState k blocks s))

theorem loadSettled_stations (k : CellBlock) (blocks : Vector (Option StationBlock) 8) (s : State)
    (hs : ∀ n : Station, s.stations[n] = none) (n : Station) :
    (loadSettled k blocks s).stations[n] = (loadedState k blocks s).stations[n] := by
  show (missCleared (loadedState k blocks s).stations)[n] = _
  rw [missCleared_get]
  cases h : (loadedState k blocks s).stations[n] with
  | none => rfl
  | some r =>
    have := (loaded_fresh hs h).1
    simp [← this]

/-- SETTLE entered by LOAD_COMPLETION, its STARTED report submitted, before ESTOP is looked at. -/
def loadStarted (k : CellBlock) (blocks : Vector (Option StationBlock) 8) (s : State) : State :=
  { loadSettled k blocks s with
    port := s.port.tell s.params.reportLevel (s.run.count, .settle, .started s.run.reason .valid .settle) }

/-- A VALID image without the flag. -/
theorem load_settles (s : State) (answers : Bool) (k : CellBlock) (blocks : Vector (Option StationBlock) 8)
    (hop : s.run.op = .loading) (hr : s.pins.resetHeld = false) (hstay : s.run.stay = false)
    (hl : loadImage answers s.mem s.memCut = (.valid, some (k, blocks))) :
    completeLoad answers s = checkEstop (loadStarted k blocks s) := by
  rw [completeLoad_valid answers s k blocks hop hr hl, leaveLoading_settle (loadedState k blocks s) rfl hstay, submit_tell]
  rfl

/-- CONFIG entered by LOAD_COMPLETION with the flag, its STARTED report submitted. -/
def loadStayed (k : CellBlock) (blocks : Vector (Option StationBlock) 8) (s : State) : State :=
  { loadedState k blocks s with
    run := { s.run with op := .config }
    port := s.port.tell s.params.reportLevel (s.run.count, .config, .started s.run.reason .valid .config) }

/-- A VALID image with the flag. -/
theorem load_stays (s : State) (answers : Bool) (k : CellBlock) (blocks : Vector (Option StationBlock) 8)
    (hop : s.run.op = .loading) (hr : s.pins.resetHeld = false) (hstay : s.run.stay = true)
    (hl : loadImage answers s.mem s.memCut = (.valid, some (k, blocks))) :
    completeLoad answers s = loadStayed k blocks s := by
  rw [completeLoad_valid answers s k blocks hop hr hl, leaveLoading_config (loadedState k blocks s) (.inr hstay), submit_tell]
  rfl

theorem loadStarted_stations (k : CellBlock) (blocks : Vector (Option StationBlock) 8) (s : State)
    (hs : ∀ n : Station, s.stations[n] = none) (n : Station) :
    (loadStarted k blocks s).stations[n] =
      if inMask k.mask n then blocks[n].map (fun b => freshRecord b s.params.circTrim[n]) else none :=
  (loadSettled_stations k blocks s hs n).trans (loadedState_stations k blocks s hs n)

/-- A state with the records and drive link stations of a load has renewed exactly the commissioned stations. -/
theorem linkRenewed_of_loaded {s t : State} {k : CellBlock} {blocks : Vector (Option StationBlock) 8}
    (hs : ∀ n : Station, s.stations[n] = none) (hst : ∀ n : Station, t.stations[n] =
      if inMask k.mask n then blocks[n].map (fun b => freshRecord b s.params.circTrim[n]) else none)
    (hl : t.link.st = (loadedState k blocks s).link.st) : linkRenewed s t (fun n => t.stations[n] ≠ none) := by
  have h := loadedState_linkRenewed k blocks s hs
  unfold linkRenewed at h ⊢
  simp only [loadedState_stations k blocks s hs] at h
  simp only [hst, hl]
  exact h

/-! ### An entry to SETTLE that ESTOP takes on to SAFE (R131) -/

/-- What ESTOP leaves of the settled state u that s becomes. -/
theorem safeAtOnce_of_safeBy {s u t : State} {vLimit : Int} (h : SafeBy { kind := .estop } u t)
    (hrun : u.run = { s.run with op := .settle, settleCount := 0, settleTimer := 0 })
    (hpins : u.pins = { s.pins with driveEnable := false }) (hplayer : u.player = s.player) (hfaults : u.faults = s.faults)
    (haxle : u.axle = { s.axle with v := 0, vLimit := vLimit }) (hcomp : s.comp = none → u.comp = none) :
    safeAtOnce s t vLimit := by
  have hf : t.faults = Faults.take { kind := .estop } s.run.count .settle s.faults := by rw [h.faults, hrun, hfaults]
  refine ⟨?_, ?_, ?_, hf, ?_, fun hc => ⟨(h.resting (hcomp hc)).1, ?_⟩⟩
  · rw [h.run, hrun]
  · rw [h.pins, hpins]
  · rw [h.player, hplayer]; rfl
  · rw [hf]
    unfold Faults.take
    rw [show FaultKind.estop.level = 1 from rfl, accepts_one]
    rfl
  · rw [(h.resting (hcomp hc)).2, haxle]

/-- Where no station is engaged, an entry to SAFE has FAULT and STATE alone, whichever state it is told of. -/
theorem stationReports_none {s : State} {op : OpState} {v : Int} {m : Monitor} {reason : StationReason}
    {p : Station → StationRec → Bool} {f : StationRec → StationRec} {count : Word32}
    (h : ∀ (n : Station) r, s.stations[n] = some r → p n r = false) : stationReports s op v m reason p f count = [] := by
  rw [stationReports_eq, List.filterMap_eq_nil_iff]
  intro n _
  unfold stationTold
  cases hr : s.stations[n] with
  | none => rfl
  | some r => simp [h n r hr]

/-- The reports of the entry to SAFE that follows an entry to SETTLE from s. -/
theorem safeReports_settled {s u : State} {f : Raise} (hcount : u.run.count = s.run.count) (htag : u.run.tag = s.run.tag)
    (hmode : u.run.mode = s.run.mode) (horderly : u.run.orderly = s.run.orderly) (hfaults : u.faults = s.faults)
    (hrep : stationReports u .safe 0 u.monitor .safe (fun _ r => engagedIn r) idled u.run.count =
      stationReports s .safe 0 s.monitor .safe (fun _ r => engagedIn r) idled s.run.count) :
    safeReports u .settle f = safeReports s .settle f := by
  unfold safeReports
  rw [hrep, hcount, htag, hmode, horderly, hfaults]

/-- CONFIG entered by LOAD_COMPLETION with an empty working set, its STARTED report submitted. -/
def loadFailed (o : LoadOutcome) (s : State) : State :=
  { s with
    run := { s.run with op := .config }
    store := { s.store with cell := none, blocks := Vector.replicate 8 none, outcome := o }
    params := { s.params with mass := 400 }
    stations := Vector.replicate 8 none
    port := s.port.tell s.params.reportLevel (s.run.count, .config, .started s.run.reason o .config) }

/-- With no cell block no station has a record, and none is renewed. -/
theorem syncStations_none (s : State) (h : s.store.cell = none) :
    syncStations none s = { s with stations := Vector.replicate 8 none } := by
  have hst : (syncStations none s).stations = Vector.replicate 8 none := by
    ext1 i hi
    have := syncStations_get none s ⟨i, hi⟩
    rw [commissions_eq, h] at this
    simpa using this
  have hlink : (syncStations none s).link.st = s.link.st := by
    ext1 i hi
    have := syncStations_link none s ⟨i, hi⟩
    unfold State.renews at this
    rw [commissions_eq, h] at this
    simpa using this
  calc syncStations none s = { s with stations := (syncStations none s).stations
                                      link := { s.link with st := (syncStations none s).link.st } } := rfl
    _ = _ := by rw [hst, hlink]

/-- Any other image (R119, R186; log 12). -/
theorem load_fails (s : State) (answers : Bool) (o : LoadOutcome) (hop : s.run.op = .loading) (hr : s.pins.resetHeld = false)
    (hl : loadImage answers s.mem s.memCut = (o, none)) (ho : o ≠ .valid) : completeLoad answers s = loadFailed o s := by
  unfold completeLoad
  rw [if_pos ⟨hop, hr⟩, hl]
  dsimp only
  unfold applyLoad
  dsimp only
  rw [syncStations_none _ rfl, leaveLoading_config _ (.inl ho), submit_tell]
  rfl

/-- Settles O14. -/
theorem loadCompletionActs : Obligations.LoadCompletionActs := by
  refine ⟨?_, ?_, ?_⟩
  · intro s answers k blocks hop hr he hstay hs hl
    have hu : completeLoad answers s = loadStarted k blocks s :=
      (load_settles s answers k blocks hop hr hstay hl).trans (checkEstop_released (loadStarted k blocks s) he)
    have hport : (loadStarted k blocks s).port = s.port.tellAll s.params.reportLevel
        [(s.run.count, .settle, .started s.run.reason .valid .settle)] := rfl
    have hst := loadStarted_stations k blocks s hs
    have hc : missless s = (loadStarted k blocks s).comp := (missless_eq s).symm
    refine ⟨pumpTx (loadStarted k blocks s), by rw [← hu]; rfl, pumpTx_run _, by rw [pumpTx_link]; rfl, pumpTx_store _,
      pumpTx_params _, pumpTx_axle _, fun n => by rw [pumpTx_stations]; exact hst n, ?_, emits_of_tellAll hport rfl, ?_⟩
    · exact linkRenewed_of_loaded (blocks := blocks) hs (fun n => by rw [pumpTx_stations]; exact hst n) (by rw [pumpTx_link]; rfl)
    · rw [hc, pumpTx_told hport]
      rfl
  · intro s answers k blocks hop hr hs hl loaded
    refine ⟨fun hstay => ?_, fun hstay he => ?_⟩
    · have hu := load_stays s answers k blocks hop hr hstay hl
      have hport : (loadStayed k blocks s).port = s.port.tellAll s.params.reportLevel
          [(s.run.count, .config, .started s.run.reason .valid .config)] := rfl
      have hst : ∀ n : Station, (loadStayed k blocks s).stations[n] =
          if inMask k.mask n then blocks[n].map (fun b => freshRecord b s.params.circTrim[n]) else none :=
        loadedState_stations k blocks s hs
      refine ⟨pumpTx (loadStayed k blocks s), by rw [← hu]; rfl,
        ⟨pumpTx_params _, by rw [pumpTx_axle]; rfl, fun n => by rw [pumpTx_stations]; exact hst n, ?_⟩,
        pumpTx_run _, pumpTx_store _, emits_of_tellAll hport rfl, ?_⟩
      · exact linkRenewed_of_loaded (blocks := blocks) hs (fun n => by rw [pumpTx_stations]; exact hst n)
          (by rw [pumpTx_link]; rfl)
      · rw [pumpTx_told hport]
        rfl
    · have hu := load_settles s answers k blocks hop hr hstay hl
      have hsafe := checkEstop_safe (loadStarted k blocks s) he rfl
      have hfresh : ∀ (n : Station) r, (loadStarted k blocks s).stations[n] = some r → engagedIn r = false := fun n r h =>
        (loaded_fresh hs ((loadSettled_stations k blocks s hs n).symm.trans h)).2
      have hreports : safeReports (loadStarted k blocks s) .settle { kind := .estop } = safeReports s .settle { kind := .estop } :=
        safeReports_settled rfl rfl rfl rfl rfl ((stationReports_none hfresh).trans
          (stationReports_none fun n r h => by rw [hs n] at h; cases h).symm)
      have honce : safeAtOnce s (checkEstop (loadStarted k blocks s)) (roundDiv ((k.vmax : Int) * 25 * k.period * 65536) 9) :=
        safeAtOnce_of_safeBy hsafe rfl rfl rfl rfl rfl fun hc => by
          show s.comp.map _ = none
          rw [hc]; rfl
      have hst : ∀ n : Station, (checkEstop (loadStarted k blocks s)).stations[n] =
          if inMask k.mask n then blocks[n].map (fun b => freshRecord b s.params.circTrim[n]) else none := fun n => by
        rw [hsafe.stations n, ← loadStarted_stations k blocks s hs n]
        cases h : (loadStarted k blocks s).stations[n] with
        | none => rfl
        | some r => simp [hfresh n r h]
      have hlink := hsafe.reacted.link
      have hev := hsafe.events rfl
      have hport := hsafe.port
      rw [show (loadStarted k blocks s).run.op = .settle from rfl, hreports] at hport
      have hframe := hsafe.reacted.frame
      have hheld := hsafe.reacted.resetHeld
      have hvlimit := hsafe.reacted.vLimit
      generalize checkEstop (loadStarted k blocks s) = u at hu honce hst hlink hev hport hframe hheld hvlimit
      have hport' : u.port = s.port.tellAll s.params.reportLevel
          ((s.run.count, .settle, .started s.run.reason .valid .settle) :: safeReports s .settle { kind := .estop }) := hport
      rw [hev] at hframe
      refine ⟨pumpTx u, by rw [← hu]; rfl, ⟨?_, ?_, fun n => by rw [pumpTx_stations]; exact hst n, ?_⟩, ?_, ?_, ?_,
        emits_of_tellAll hport' hheld, ?_⟩
      · rw [pumpTx_params, hframe]; rfl
      · rw [pumpTx_axle, hvlimit]; rfl
      · exact linkRenewed_of_loaded (blocks := blocks) hs (fun n => by rw [pumpTx_stations]; exact hst n)
          (by rw [pumpTx_link, hlink]; rfl)
      · rw [pumpTx_link, hlink]; rfl
      · rw [pumpTx_store, hframe]; rfl
      · obtain ⟨x, q, hx⟩ := pumpTx_port u
        rw [hx]
        exact honce
      · rw [pumpTx_told hport']
        rw [hlink]
        generalize (pumpTx u).port = q
        have hstore : u.store = (loadStarted k blocks s).store := by rw [hframe]
        have hparams : u.params = (loadStarted k blocks s).params := by rw [hframe]
        rw [hstore, hparams]
        conv_lhs => rw [hframe]
        rfl
  · intro s answers o hop hr hl ho
    have hu := load_fails s answers o hop hr hl ho
    have hport : (loadFailed o s).port = s.port.tellAll s.params.reportLevel
        [(s.run.count, .config, .started s.run.reason o .config)] := rfl
    refine ⟨pumpTx (loadFailed o s), by rw [← hu]; rfl, pumpTx_run _, pumpTx_store _, pumpTx_params _, fun n => ?_,
      emits_of_tellAll hport rfl, ?_⟩
    · rw [pumpTx_stations]
      simp [loadFailed]
    · rw [pumpTx_told hport]
      rfl

end Sys2Proof.Machine
end

section
/-! A request that meets a free port and submits reports; LEAVE_CONFIG. -/

namespace Sys2Proof.Machine

/-! ### A request's reports and its reply (R200, R203) -/

/-- What joins the report queue depends on the queue and the lost count alone. -/
theorem tellAll_congr (level : Nat) (l : List Told) {p q : Port} (hr : p.reports = q.reports) (hl : p.lost = q.lost) :
    (p.tellAll level l).reports = (q.tellAll level l).reports ∧ (p.tellAll level l).lost = (q.tellAll level l).lost := by
  induction l generalizing p q with
  | nil => exact ⟨hr, hl⟩
  | cons x rest ih =>
    have h : (p.tell level x).reports = (q.tell level x).reports ∧ (p.tell level x).lost = (q.tell level x).lost := by
      unfold Port.tell
      rw [hr, hl]
      split
      · exact ⟨hr, hl⟩
      · split
        · exact ⟨rfl, rfl⟩
        · exact ⟨rfl, rfl⟩
    exact ih h.1 h.2

/-- The state in which a block leaves a request: its own blocks as in `s'`, its reports those of l. -/
structure Left (s s' : State) (q : Queued) (l : List Told) (u : State) : Prop where
  frame : u = { s' with port := u.port }
  port : u.port = (s.taking q).port.tellAll s.params.reportLevel l

/-- A request that meets a free port and submits reports, its own block's state changes being those of s' (R200, R203). -/
theorem request_told {s s' u : State} {kind tag : Byte} {r : Request} {st : Status} {fs : List Field} {l : List Told}
    (h : s.takes) (hk : kind.toNat < 128) (hb : r ≠ .badKind) (hl : r ≠ .badLength)
    (ht : takeBlock r (s.taking ⟨kind, tag, r⟩) = (u, some ⟨st, fs⟩)) (hu : Left s s' ⟨kind, tag, r⟩ l u)
    (hport : s'.port = s.port) (hheld : s'.pins.resetHeld = s.pins.resetHeld) :
    request kind tag r s = .next (u.withReply (kind + 128#8) tag st fs) ∧
      submits s (u.withReply (kind + 128#8) tag st fs) l ∧
      repliedBy s' (u.withReply (kind + 128#8) tag st fs) (kind + 128#8) tag st fs := by
  obtain ⟨⟨h1, h2, h3, h4, h5⟩, hop⟩ := h
  have hp := hu.port.trans (tellAll_frame _ _ _)
  have hc := tellAll_congr s.params.reportLevel l (p := (s.taking ⟨kind, tag, r⟩).port) (q := s.port) rfl rfl
  refine ⟨request_answered s u kind tag r st fs ⟨⟨h1, h2, h3, h4, h5⟩, hop⟩ hk hb hl ht ?_ ?_ ?_ ?_ ?_, ?_, ?_⟩
  · rw [hp]; rfl
  · rw [hp]; exact h3
  · rw [hp]; exact h4
  · rw [hu.frame]; exact hheld.trans h5
  · rw [hp]; rfl
  · refine submits_of_tellAll ?_ ?_
    · rw [← hc.1, ← hu.port]; rfl
    · rw [← hc.2, ← hu.port]; rfl
  · unfold repliedBy State.withReply
    rw [hu.frame, hp, hport]
    rfl

/-! ### The first missing item (R184) -/

theorem stationList_sorted : stationList.Pairwise (· < ·) := by decide

/-- The first station with a property is the lowest. -/
theorem stationList_find {p : Station → Bool} {n : Station} (hn : p n = true) (hlow : ∀ m < n, p m = false) :
    stationList.find? p = some n := by
  cases h : stationList.find? p with
  | none => exact absurd hn (List.find?_eq_none.mp h n (mem_stationList n))
  | some m =>
    obtain ⟨hm, as, bs, hlist, has⟩ := List.find?_eq_some_iff_append.mp h
    have hmem : n ∈ as ++ m :: bs := hlist ▸ mem_stationList n
    have hsorted : (as ++ m :: bs).Pairwise (· < ·) := hlist ▸ stationList_sorted
    rcases List.mem_append.mp hmem with h1 | h1
    · have := has n h1
      simp [hn] at this
    · rcases List.mem_cons.mp h1 with h2 | h2
      · rw [h2]
      · have hlt : m < n := (List.pairwise_cons.mp (List.pairwise_append.mp hsorted).2.1).1 n h2
        rw [hlow m hlt] at hm
        cases hm

theorem missing_none {s : State} {k : CellBlock} (hk : s.store.cell = some k)
    (h : ∀ m : Station, inMask k.mask m = true → s.store.blocks[m] ≠ none) : s.missing = none := by
  unfold State.missing
  rw [hk]
  simp only [Option.map_eq_none_iff, List.find?_eq_none]
  intro n _
  cases hm : inMask k.mask n with
  | false => simp
  | true => simpa using h n hm

theorem missing_station {s : State} {k : CellBlock} {n : Station} (hk : s.store.cell = some k) (hn : inMask k.mask n = true)
    (hb : s.store.blocks[n] = none) (hlow : ∀ m : Station, m < n → inMask k.mask m = true → s.store.blocks[m] ≠ none) :
    s.missing = some (.station n) := by
  unfold State.missing
  rw [hk]
  dsimp only
  rw [stationList_find (n := n) (by simp [hn, hb]) fun m hm => by
    cases hmm : inMask k.mask m with
    | false => rfl
    | true => simpa [Option.isSome_iff_ne_none] using hlow m hm hmm]
  rfl

/-! ### LEAVE_CONFIG (R120) -/

/-- SETTLE entered by LEAVE_CONFIG from the taken state, its STATE report submitted, before ESTOP is looked at. -/
def configLeft (v : State) : State := submitState .config .leaveConfig none false (startLink (settleValues v))

/-- The state blocks SETTLE is entered with from CONFIG. -/
def settledFrom (s : State) : State :=
  { s with
    run := { s.run with op := .settle, settleCount := 0, settleTimer := 0 }, stations := missCleared s.stations
    link := { s.link with running := true }, store := { s.store with locked := true }, axle := { s.axle with v := 0 }
    pins := { s.pins with driveEnable := false }, comp := missless s }

theorem configLeft_left (s : State) (q : Queued) :
    Left s (settledFrom s) q [stateReport s.run .config .settle .leaveConfig] (configLeft (s.taking q)) := by
  have h : configLeft (s.taking q) = { settledFrom s with port := (configLeft (s.taking q)).port } := by
    unfold configLeft settledFrom
    rw [submitState_eq, submit_tell, ← missless_eq]
    rfl
  refine ⟨h, ?_⟩
  unfold configLeft
  rw [submitState_eq, submit_port_tellAll]
  rfl

/-- What STATION reports show of a record does not hang on its miss streak. -/
theorem stationReports_missCleared {s u : State} (hst : u.stations = missCleared s.stations) (hcell : u.cell = s.cell)
    (op : OpState) (v : Int) (m : Monitor) (reason : StationReason) (count : Word32) :
    stationReports u op v m reason (fun _ r => engagedIn r) idled count =
      stationReports s op v m reason (fun _ r => engagedIn r) idled count := by
  rw [stationReports_eq, stationReports_eq]
  congr 1
  funext n
  unfold stationTold
  rw [hst, missCleared_get, hcell]
  cases s.stations[n] <;> rfl

theorem takeLeaveConfig_complete (v : State) (hop : v.run.op = .config) (hm : v.missing = none) :
    takeLeaveConfig v = (checkEstop (configLeft v), answer .ok) := by
  unfold takeLeaveConfig
  rw [if_neg (not_not.mpr hop), hm]
  rfl

theorem takeLeaveConfig_missing (v : State) (hop : v.run.op = .config) {m : MissingItem} (hm : v.missing = some m) :
    takeLeaveConfig v = (v, missingAnswer m) := by
  unfold takeLeaveConfig
  rw [if_neg (not_not.mpr hop), hm]

/-- A refused LEAVE_CONFIG changes nothing but the port. -/
theorem leaveConfig_refused (s : State) (tag : Byte) (h : s.takes) (hop : s.run.op = .config) {m : MissingItem}
    (hm : s.missing = some m) :
    exec (.leaveConfig tag) s = .next (s.withReply 0x86#8 tag (missingAnswer m).status (missingAnswer m).fields) := by
  obtain ⟨⟨h1, h2, h3, h4, h5⟩, hload⟩ := h
  exact request_answered s (s.taking ⟨0x06#8, tag, .leaveConfig⟩) 0x06#8 tag .leaveConfig _ _ ⟨⟨h1, h2, h3, h4, h5⟩, hload⟩
    (by decide) (by simp) (by simp)
    (congrArg now (takeLeaveConfig_missing (s.taking ⟨0x06#8, tag, .leaveConfig⟩) hop hm)) rfl h3 h4 h5 rfl

/-- What ESTOP leaves of the state s settled in. -/
theorem configLeft_safe {s w u : State} {q : Queued} {l : List Told} (hw : Left s (settledFrom s) q l w)
    (hu : SafeBy { kind := .estop } w u) :
    safeAtOnce s u s.axle.vLimit ∧
      (∀ n : Station, u.stations[n] = s.stations[n].map fun r =>
        let r := { r with miss := 0 }
        if engagedIn r then idled r else r) ∧
      Left s { s with
        run := u.run, pins := u.pins, player := u.player, faults := u.faults, comp := u.comp, axle := u.axle
        stations := u.stations, link := { s.link with running := true }, store := { s.store with locked := true } } q
        (l ++ safeReports s .settle { kind := .estop }) u := by
  have hrun : w.run = (settledFrom s).run := by rw [hw.frame]
  have hpins : w.pins = (settledFrom s).pins := by rw [hw.frame]
  have hplayer : w.player = s.player := by rw [hw.frame]; rfl
  have hfaults : w.faults = s.faults := by rw [hw.frame]; rfl
  have haxle : w.axle = (settledFrom s).axle := by rw [hw.frame]
  have hcomp : w.comp = missless s := by rw [hw.frame]; rfl
  have hst : w.stations = missCleared s.stations := by rw [hw.frame]; rfl
  have hmonitor : w.monitor = s.monitor := by rw [hw.frame]; rfl
  have hcell : w.cell = s.cell := by rw [hw.frame]; rfl
  have hparams : w.params = s.params := by rw [hw.frame]; rfl
  have hevents : u.events = s.events := (hu.events (by rw [hrun]; rfl)).trans (by rw [hw.frame]; rfl)
  have hop : w.run.op = .settle := by rw [hrun]; rfl
  refine ⟨safeAtOnce_of_safeBy hu hrun hpins hplayer hfaults haxle (fun hc => ?_), fun n => ?_, ?_, ?_⟩
  · rw [hcomp, missless, hc]
    rfl
  · rw [hu.stations n, hst, missCleared_get]
    cases s.stations[n] <;> rfl
  · have hf := hu.reacted.frame
    have hport : u.port = { w.port with reports := u.port.reports, lost := u.port.lost } := by
      rw [hu.port]
      exact tellAll_frame _ _ _
    rw [hevents, ← hport] at hf
    conv_lhs => rw [hf, hw.frame]
    rfl
  · have hrep : safeReports w .settle { kind := .estop } = safeReports s .settle { kind := .estop } :=
      safeReports_settled (by rw [hrun]; rfl) (by rw [hrun]; rfl) (by rw [hrun]; rfl) (by rw [hrun]; rfl) hfaults (by
        rw [stationReports_missCleared hst hcell, hmonitor, hrun]
        rfl)
    rw [hu.port, hw.port, hop, hrep, hparams, ← tellAll_append]

/-- Settles O34. -/
theorem leaveConfigLocksTheSet : Obligations.LeaveConfigLocksTheSet := by
  intro s tag h hop
  refine ⟨fun hcell => ?_, fun k n hk hn hb hlow => ?_, fun k hk hall => ?_⟩
  · exact leaveConfig_refused s tag h hop (m := .cell) (by unfold State.missing; rw [hcell])
  · exact leaveConfig_refused s tag h hop (m := .station n) (missing_station hk hn hb hlow)
  · have hm : s.missing = none := missing_none hk hall
    generalize hq : (⟨0x06#8, tag, .leaveConfig⟩ : Queued) = q
    have htake : takeBlock .leaveConfig (s.taking q) = (checkEstop (configLeft (s.taking q)), some ⟨.ok, []⟩) :=
      congrArg now (takeLeaveConfig_complete (s.taking q) hop hm)
    have hleft := configLeft_left s q
    have hpins : (configLeft (s.taking q)).pins = (settledFrom s).pins := by rw [hleft.frame]
    refine ⟨fun he => ?_, fun he => ?_⟩
    · rw [checkEstop_released _ ((congrArg Pins.estop hpins).trans he)] at htake
      generalize configLeft (s.taking q) = u at htake hleft
      have hrun : u.run = (settledFrom s).run := by rw [hleft.frame]
      have hst : u.stations = (settledFrom s).stations := by rw [hleft.frame]
      have hleft' : Left s { settledFrom s with run := u.run, stations := u.stations } q
          [stateReport s.run .config .settle .leaveConfig] u := ⟨by rw [hrun, hst]; exact hleft.frame, hleft.port⟩
      subst hq
      obtain ⟨h1, h2, h3⟩ := request_told h (by decide) (by simp) (by simp) htake hleft' rfl rfl
      exact ⟨_, h1, hrun, fun n => (congrArg (fun v : Vector (Option StationRec) 8 => v[n]) hst).trans
        (missCleared_get s.stations n), h2, h3⟩
    · have hsafe := checkEstop_safe (configLeft (s.taking q)) ((congrArg Pins.estop hpins).trans he)
        (by rw [hleft.frame]; rfl)
      obtain ⟨honce, hst, hleft'⟩ := configLeft_safe hleft hsafe
      have hheld : (checkEstop (configLeft (s.taking q))).pins.resetHeld = s.pins.resetHeld :=
        by
          rw [hsafe.reacted.resetHeld, hpins]
          rfl
      generalize checkEstop (configLeft (s.taking q)) = u at htake honce hst hleft' hheld
      subst hq
      obtain ⟨h1, h2, h3⟩ := request_told h (by decide) (by simp) (by simp) htake hleft' rfl hheld
      exact ⟨_, h1, honce, hst, h2, h3⟩

end Sys2Proof.Machine
end

section
/-! The station masks; the commissioning writes COMMISSION_CELL and COMMISSION_STATION. -/

namespace Sys2Proof.Machine

/-! ### Masks of stations -/

theorem inMask_or (m x : Mask) (n : Station) : inMask (m ||| x) n = (inMask m n || inMask x n) := by
  simp [inMask]

theorem inMask_bit (k n : Station) : inMask (1#8 <<< k.val) n = decide (n = k) := by
  revert k n
  decide

theorem inMask_fold (p : Station → Bool) (l : List Station) (m : Mask) (n : Station) :
    inMask (l.foldl (fun m n => if p n then m ||| (1#8 <<< n.val) else m) m) n = (inMask m n || (decide (n ∈ l) && p n)) := by
  induction l generalizing m with
  | nil => simp
  | cons k rest ih =>
    rw [List.foldl_cons, ih]
    by_cases hn : n = k
    · subst hn
      cases hp : p n <;> simp [inMask_or, inMask_bit]
    · cases hp : p k <;> simp [inMask_or, inMask_bit, hn]

/-- A mask made of a property holds the stations with that property. -/
@[simp] theorem inMask_maskOf (p : Station → Bool) (n : Station) : inMask (maskOf p) n = p n := by
  unfold maskOf
  rw [inMask_fold]
  simp [mem_stationList, inMask]

/-! ### The working set followed (R189) -/

theorem followSet_record (w : Option Station) (v : State) (n : Station) :
    (followSet w v).stations[n] = (v.store.commissions n).bind fun b =>
      if v.renews w n then some (freshRecord b v.params.circTrim[n]) else v.stations[n] := syncStations_get w v n

theorem followSet_linkStation (w : Option Station) (v : State) (n : Station) :
    (followSet w v).link.st[n] = if v.renews w n then resetLinkStation else v.link.st[n] := syncStations_link w v n

theorem Counter.loses_of {gone : Station → Bool} {c : Counter} {n : Station} (hc : c.station = some n) :
    c.loses gone = { c with lost := c.lost || gone n } := by
  unfold Counter.loses
  rw [hc]

theorem Counter.loses_none {gone : Station → Bool} {c : Counter} (h : ∀ n, c.station = some n → gone n = false) :
    c.loses gone = c := by
  unfold Counter.loses
  cases hc : c.station with
  | none => rfl
  | some n =>
    dsimp only
    rw [h n hc, Bool.or_false, ← hc]

theorem Watch.loses_of {gone : Station → Bool} {c : Watch} {n : Station} (hc : c.station = some n) :
    c.loses gone = { c with lost := c.lost || gone n } := by
  unfold Watch.loses
  rw [hc]

theorem Watch.loses_none {gone : Station → Bool} {c : Watch} (h : ∀ n, c.station = some n → gone n = false) :
    c.loses gone = c := by
  unfold Watch.loses
  cases hc : c.station with
  | none => rfl
  | some n =>
    dsimp only
    rw [h n hc, Bool.or_false, ← hc]

/-- What is told the stations that lost their records (R168, R174, R176). -/
theorem followSet_lossNoted (w : Option Station) (v : State) : lossNoted v (followSet w v) := by
  have gone_iff : ∀ n : Station, (v.stations[n].isSome && (syncStations w v).stations[n].isNone) = true ↔
      v.stations[n] ≠ none ∧ (followSet w v).stations[n] = none := fun n => by
    rw [Bool.and_eq_true, Option.isSome_iff_ne_none, Option.isNone_iff_eq_none]
    rfl
  have gone_false : ∀ n : Station, ¬(v.stations[n] ≠ none ∧ (followSet w v).stations[n] = none) →
      (v.stations[n].isSome && (syncStations w v).stations[n].isNone) = false := fun n h =>
    Bool.eq_false_iff.mpr fun hg => h ((gone_iff n).mp hg)
  have hc : ∀ k : Fin 4, (followSet w v).stats.counters[k] =
      v.stats.counters[k].loses fun n : Station => v.stations[n].isSome && (syncStations w v).stations[n].isNone := fun k => by
    simp only [Fin.getElem_fin]
    exact Vector.getElem_map _ _
  have hw : ∀ k : Fin 4, (followSet w v).stats.watches[k] =
      v.stats.watches[k].loses fun n : Station => v.stations[n].isSome && (syncStations w v).stations[n].isNone := fun k => by
    simp only [Fin.getElem_fin]
    exact Vector.getElem_map _ _
  refine ⟨fun k => ⟨fun n hn hg => ?_, fun hn => ?_, fun n hn hg => ?_, fun hn => ?_⟩, rfl, fun n => ?_, rfl⟩
  · rw [hc, Counter.loses_of hn, (gone_iff n).mpr hg, Bool.or_true]
  · rw [hc, Counter.loses_none fun n h => gone_false n (hn n h)]
  · rw [hw, Watch.loses_of hn, (gone_iff n).mpr hg, Bool.or_true]
  · rw [hw, Watch.loses_none fun n h => gone_false n (hn n h)]
  · show inMask (v.trace.lost ||| maskOf _) n = true ↔ _
    rw [inMask_or, inMask_maskOf, Bool.or_eq_true, gone_iff]

theorem followSet_frame (w : Option Station) (v : State) : followSet w v = { v with
    stations := (followSet w v).stations, link := { v.link with st := (followSet w v).link.st }
    stats := (followSet w v).stats, trace := (followSet w v).trace } := rfl

theorem renews_iff (v : State) (w : Option Station) (n : Station) :
    v.renews w n = true ↔ v.store.commissions n ≠ none ∧ (v.stations[n] = none ∨ w = some n) := by
  unfold State.renews State.has
  rw [Bool.and_eq_true, Bool.or_eq_true, Option.isSome_iff_ne_none, Bool.not_eq_true', Option.isSome_eq_false_iff,
    Option.isNone_iff_eq_none, beq_iff_eq]

/-- A station has a record once the set is followed exactly if it is commissioned and had one or needs a new one. -/
theorem followSet_renewed_iff (w : Option Station) (v : State) (n : Station) :
    v.renews w n = true ↔ (followSet w v).stations[n] ≠ none ∧ (v.stations[n] = none ∨ w = some n) := by
  rw [followSet_record]
  constructor
  · intro h
    obtain ⟨hb, hor⟩ := (renews_iff v w n).mp h
    obtain ⟨b, hb⟩ := Option.ne_none_iff_exists'.mp hb
    rw [hb, h]
    exact ⟨by simp, hor⟩
  · rintro ⟨hne, hor⟩
    refine (renews_iff v w n).mpr ⟨fun hb => hne (by rw [hb]; rfl), hor⟩

/-- A written station that the set commissions has a fresh record. -/
theorem followSet_written (n : Station) (v : State) :
    (followSet (some n) v).stations[n] = (v.store.commissions n).map fun b => freshRecord b v.params.circTrim[n] := by
  rw [followSet_record]
  cases hc : v.store.commissions n with
  | none => rfl
  | some b =>
    have hr : v.renews (some n) n = true := (renews_iff v (some n) n).mpr ⟨by rw [hc]; simp, .inr rfl⟩
    rw [hr]
    rfl

/-- Where no block was written, a commissioned station keeps its record or begins a fresh one. -/
theorem followSet_unwritten (n : Station) (v : State) :
    (followSet none v).stations[n] = (v.store.commissions n).bind fun b =>
      some (v.stations[n].getD (freshRecord b v.params.circTrim[n])) := by
  rw [followSet_record]
  cases hc : v.store.commissions n with
  | none => rfl
  | some b =>
    have hr := renews_iff v none n
    rw [hc] at hr
    cases hst : v.stations[n] with
    | none => simp [hr.mpr ⟨by simp, .inl hst⟩]
    | some r =>
      have : v.renews none n ≠ true := fun h => by simpa [hst] using (hr.mp h).2
      simp [this]

/-- Exactly the stations with a new record begin anew in the drive link controller. -/
theorem followSet_linkRenewed (w : Option Station) (v : State) :
    linkRenewed v (followSet w v) (fun n => (followSet w v).stations[n] ≠ none ∧ (v.stations[n] = none ∨ w = some n)) := by
  refine ⟨fun n hn => ?_, fun n hn => ?_⟩
  · rw [followSet_linkStation, (followSet_renewed_iff w v n).mpr hn]
    rfl
  · rw [followSet_linkStation, if_neg fun h => hn ((followSet_renewed_iff w v n).mp h)]

/-- A station whose block stands as before keeps its record, the table having followed the set. -/
theorem followSet_keeps (w : Option Station) (s v : State) (n : Station) (hs : s.tableFollows = true)
    (hst : v.stations = s.stations) (hb : v.store.commissions n = s.store.commissions n) (hw : w ≠ some n) :
    (followSet w v).stations[n] = s.stations[n] := by
  unfold State.tableFollows at hs
  rw [Bool.and_eq_true, everyStation_iff] at hs
  have hn := beq_iff_eq.mp (hs.1 n)
  rw [followSet_record, hb, hst]
  cases hc : s.store.commissions n with
  | none =>
    rw [hc, Option.map_eq_none_iff] at hn
    rw [hn]
    rfl
  | some b =>
    rw [hc] at hn
    obtain ⟨r, hr, _⟩ := Option.map_eq_some_iff.mp hn
    have hren : v.renews w n ≠ true := fun h => by
      have := ((renews_iff v w n).mp h).2
      rw [hst, hr] at this
      simp [hw] at this
    simp [hren]

/-! ### The requests (R187, R188) -/

/-- The state a commissioning request's block has made of the taken state before the table follows the set. -/
def State.writing (s : State) (q : Queued) (x : Store) (a : Axle) (p : Params) : State :=
  { s.taking q with store := x, axle := a, params := p }

/-- A commissioning request carried out: what every one of them writes, answers, notes and leaves alone. -/
theorem commission_done {s : State} {w : Option Station} {kind tag : Byte} {r : Request} {x : Store} {a : Axle} {p : Params}
    (h : s.takes) (hk : kind.toNat < 128) (hb : r ≠ .badKind) (hl : r ≠ .badLength)
    (ht : takeBlock r (s.taking ⟨kind, tag, r⟩) = (followSet w (s.writing ⟨kind, tag, r⟩ x a p), some ⟨.ok, []⟩)) :
    ∃ t, request kind tag r s = .next t ∧ t.store = x ∧ t.axle = a ∧ t.params = p ∧
      (∀ n : Station, t.stations[n] = (followSet w (s.writing ⟨kind, tag, r⟩ x a p)).stations[n]) ∧
      linkRenewed s t (fun n => t.stations[n] ≠ none ∧ (s.stations[n] = none ∨ w = some n)) ∧
      t.port = (s.withReply (kind + 128#8) tag .ok []).port ∧
      lossNoted s t ∧ t.link = { s.link with st := t.link.st } ∧
      t = { s with store := t.store, axle := t.axle, params := t.params, stations := t.stations, port := t.port,
                   link := t.link, stats := t.stats, trace := t.trace } := by
  have hren := followSet_linkRenewed w (s.writing ⟨kind, tag, r⟩ x a p)
  have hloss := followSet_lossNoted w (s.writing ⟨kind, tag, r⟩ x a p)
  have hframe := followSet_frame w (s.writing ⟨kind, tag, r⟩ x a p)
  obtain ⟨⟨h1, h2, h3, h4, h5⟩, hop⟩ := h
  have hport : (followSet w (s.writing ⟨kind, tag, r⟩ x a p)).port = (s.taking ⟨kind, tag, r⟩).port := rfl
  have hpins : (followSet w (s.writing ⟨kind, tag, r⟩ x a p)).pins = s.pins := rfl
  generalize followSet w (s.writing ⟨kind, tag, r⟩ x a p) = u at *
  refine ⟨u.withReply (kind + 128#8) tag .ok [],
    request_answered s u kind tag r .ok [] ⟨⟨h1, h2, h3, h4, h5⟩, hop⟩ hk hb hl ht (by rw [hport]; rfl) (by rw [hport]; exact h3)
      (by rw [hport]; exact h4) (by rw [hpins]; exact h5) (by rw [hport]; rfl), ?_⟩
  refine ⟨by rw [hframe]; rfl, by rw [hframe]; rfl, by rw [hframe]; rfl, fun n => rfl, hren, ?_, hloss, ?_, ?_⟩
  · unfold State.withReply
    rw [hport]
    rfl
  · show u.link = _
    rw [hframe]
    rfl
  · rw [hframe]
    rfl

/-- A block written or removed at one number leaves what the set says of the others. -/
theorem commissions_set (x : Store) (n m : Station) (b : Option StationBlock) :
    ({ x with blocks := x.blocks.set n b } : Store).commissions m =
      if n = m then x.cell.bind fun k => if inMask k.mask m then b else none else x.commissions m := by
  rw [commissions_eq, commissions_eq]
  dsimp only
  rw [Vector.set_get]
  split <;> rfl

theorem takeCommissionCell_ok (k : CellBlock) (v : State) (hl : v.store.locked = false) (hk : cellInRange k = true) :
    takeCommissionCell k v = (followSet none (formLimit k { v with
      store := { v.store with cell := some k }
      params := { v.params with mass := max k.massMin (min k.massMax v.params.mass) } }), answer .ok) := by
  unfold takeCommissionCell
  simp [hl, hk]

theorem stationOf_lt {n : Nat} (h : n < 8) : stationOf n = some ⟨n, h⟩ := dif_pos h

theorem takeCommissionWrite_ok {n : Nat} (h : n < 8) (raw : RawStation) (b : StationBlock) (v : State)
    (hl : v.store.locked = false) (hp : parseStation raw = some b) (hd : duplicatePosition v.store.blocks ⟨n, h⟩ b = false) :
    takeCommissionWrite n raw v = (followSet (some ⟨n, h⟩) (setBlock ⟨n, h⟩ (some b) v), answer .ok) := by
  unfold takeCommissionWrite
  simp [hl, stationOf_lt h, hp, hd]

theorem takeCommissionClear_ok {n : Nat} (h : n < 8) (v : State) (hl : v.store.locked = false) :
    takeCommissionClear n v = (followSet none (setBlock ⟨n, h⟩ none v), answer .ok) := by
  unfold takeCommissionClear
  simp [hl, stationOf_lt h]

/-- Settles O33. -/
theorem commissioningWritesTheSet : Obligations.CommissioningWritesTheSet := by
  intro s tag h hlock framed
  refine ⟨fun k hk => ?_, fun n hn raw b hp hd => ?_, fun n hn => ?_⟩
  · obtain ⟨t, h1, h2, h3, h4, h5, h6, h7, h8, h9, h10⟩ := commission_done (w := none) (x := { s.store with cell := some k })
      (a := { s.axle with vLimit := vLimitOf k })
      (p := { s.params with mass := max k.massMin (min k.massMax s.params.mass) })
      h (kind := 0x03#8) (tag := tag) (r := .commissionCell k) (by decide) (by simp) (by simp)
      (congrArg now (takeCommissionCell_ok k (s.taking _) hlock hk))
    refine ⟨t, h1, h2, h3, h4, fun n => ?_, ?_, h7, h8, h9, h10⟩
    · rw [h5, followSet_unwritten, commissions_eq]
      show (if inMask k.mask n = true then s.store.blocks[n] else none).bind
        (fun b => some (s.stations[n].getD (freshRecord b s.params.circTrim[n]))) = _
      split
      · cases s.stations[n] <;> cases s.store.blocks[n] <;> rfl
      · rfl
    · simpa [and_comm] using h6
  · obtain ⟨t, h1, h2, h3, h4, h5, h6, h7, h8, h9, h10⟩ := commission_done (w := some ⟨n, hn⟩)
      (x := { s.store with blocks := s.store.blocks.set n (some b) }) (a := s.axle) (p := s.params)
      h (kind := 0x04#8) (tag := tag) (r := .commissionWrite n raw) (by decide) (by simp) (by simp)
      (congrArg now (takeCommissionWrite_ok hn raw b (s.taking _) hlock hp hd))
    refine ⟨t, h1, h2, h3, h4, ?_, fun hs m hm => ?_, ?_, h7, h8, h9, h10⟩
    · refine (h5 ⟨n, hn⟩).trans ?_
      rw [followSet_written]
      refine (congrArg (Option.map _) ((commissions_set s.store ⟨n, hn⟩ ⟨n, hn⟩ (some b)).trans (if_pos rfl))).trans ?_
      cases s.store.cell with
      | none => rfl
      | some k =>
        show (if inMask k.mask ⟨n, hn⟩ = true then some b else none).map _ = if inMask k.mask ⟨n, hn⟩ = true then _ else _
        split <;> rfl
    · exact (h5 m).trans (followSet_keeps _ s _ m hs rfl
        ((commissions_set s.store ⟨n, hn⟩ m (some b)).trans (if_neg fun e => hm (by rw [← e])))
        fun e => hm (by rw [← Option.some.inj e]))
    · have hiff : ∀ m : Station, (some (⟨n, hn⟩ : Station) = some m) ↔ m.val = n := fun m => by
        rw [Option.some.injEq, Fin.ext_iff]
        exact eq_comm
      simpa only [hiff] using h6
  · obtain ⟨t, h1, h2, h3, h4, h5, h6, h7, h8, h9, h10⟩ := commission_done (w := none)
      (x := { s.store with blocks := s.store.blocks.set n none }) (a := s.axle) (p := s.params)
      h (kind := 0x04#8) (tag := tag) (r := .commissionClear n) (by decide) (by simp) (by simp)
      (congrArg now (takeCommissionClear_ok hn (s.taking _) hlock))
    refine ⟨t, h1, h2, h3, h4, ?_, fun hs m hm => ?_, ?_, h7, h8, h9, h10⟩
    · refine (h5 ⟨n, hn⟩).trans ?_
      rw [followSet_unwritten]
      refine (congrArg (Option.bind · _) ((commissions_set s.store ⟨n, hn⟩ ⟨n, hn⟩ none).trans (if_pos rfl))).trans ?_
      cases s.store.cell with
      | none => rfl
      | some k =>
        show Option.bind (if inMask k.mask ⟨n, hn⟩ = true then none else none) _ = none
        rw [ite_self]
        rfl
    · exact (h5 m).trans (followSet_keeps _ s _ m hs rfl
        ((commissions_set s.store ⟨n, hn⟩ m none).trans (if_neg fun e => hm (by rw [← e]))) (by simp))
    · simpa [and_comm] using h6

end Sys2Proof.Machine
end

section
/-! The reading requests: what each reply carries, and how long it is. -/

namespace Sys2Proof.Machine

/-! ### The fields of the replies -/

theorem optFields_wide (o : Option Int) (g : Int → Field) : optFields 8 (fun v => [g v]) o = optWide o g := by
  cases o <;> rfl

theorem summaryFields_eq (z : Summary) : z.fields = statusSummary z := by
  unfold Summary.fields statusSummary
  rw [optFields_wide]

theorem monitorFields_eq (m : Monitor) : m.fields = statusMonitor m := by
  unfold Monitor.fields statusMonitor
  rw [optFields_wide, optFields_wide, funext summaryFields_eq]
  simp only [List.flatten_cons, List.flatten_nil, List.append_nil, List.append_assoc]
  rfl

theorem activeFields_eq (y : Player) : optFields 9 (activeFields y) y.active = statusActive y := by
  unfold statusActive
  cases y.active <;> rfl

theorem playerFields_eq (y : Player) : y.fields = statusPlayer y := by
  unfold Player.fields statusPlayer
  rw [activeFields_eq]
  simp only [List.flatten_cons, List.flatten_nil, List.append_nil, List.append_assoc]
  rfl

theorem cellFields_eq (o : Option CellBlock) : optFields 24 cellFields o = statusCell o := by
  cases o <;> rfl

theorem missingFields_eq (o : Option MissingItem) :
    (.u8 (flag o.isNone) :: optFields 2 MissingItem.fields o : List Field) = statusMissing o := by
  cases o with
  | none => rfl
  | some m => cases m <;> rfl

/-- A mask's number is the sum of its places. -/
theorem maskOf_toNat (p : Station → Bool) :
    (maskOf p).toNat = (stationList.map fun n : Station => if p n then 2 ^ n.val else 0).sum := by
  have h : ∀ b0 b1 b2 b3 b4 b5 b6 b7 : Bool, ∀ q : Station → Bool,
      q = (fun n => (#v[b0, b1, b2, b3, b4, b5, b6, b7])[n]) →
      (maskOf q).toNat = (stationList.map fun n : Station => if q n then 2 ^ n.val else 0).sum := by
    intro b0 b1 b2 b3 b4 b5 b6 b7 q hq
    subst hq
    revert b0 b1 b2 b3 b4 b5 b6 b7
    decide
  refine h (p 0) (p 1) (p 2) (p 3) (p 4) (p 5) (p 6) (p 7) p (funext fun n => ?_)
  match n with | 0 => rfl | 1 => rfl | 2 => rfl | 3 => rfl | 4 => rfl | 5 => rfl | 6 => rfl | 7 => rfl

theorem foldl_sum {α : Type} (p : α → Bool) (f : α → Nat) (l : List α) (m : Nat) :
    l.foldl (fun m i => if p i then m + f i else m) m = m + (l.map fun i => if p i then f i else 0).sum := by
  induction l generalizing m with
  | nil => rfl
  | cons i rest ih =>
    rw [List.foldl_cons, ih, List.map_cons, List.sum_cons]
    split <;> omega

theorem entryMask_eq (v : Vector (Option EventEntry) 16) :
    entryMask v = (entryList.map fun i => if v[i].isSome then 2 ^ i.val else 0).sum := by
  unfold entryMask
  rw [foldl_sum (fun i : Fin 16 => v[i].isSome) (fun i => 2 ^ i.val), Nat.zero_add]

theorem storeFields_eq (s : State) : s.storeFields = List.flatten [[yesNo s.store.locked, .u8 s.store.outcome.code],
    statusCell s.store.cell,
    [.u8 (stationList.map fun n : Station => if s.store.blocks[n].isSome then 2 ^ n.val else 0).sum], statusMissing s.missing] := by
  unfold State.storeFields maskField
  rw [cellFields_eq, maskOf_toNat, ← missingFields_eq]
  simp only [List.flatten_cons, List.flatten_nil, List.append_nil, List.append_assoc]
  rfl

theorem listFields_eq (i : Nat) (l : List FaultEntry) :
    listFields i l = (l.zipIdx i).flatMap fun e => faultFields e.1 e.2 := by
  induction l generalizing i with
  | nil => rfl
  | cons e rest ih =>
    have he : entryFields i e = faultFields e i := by
      unfold entryFields faultFields
      cases e.detail with
      | none => rfl
      | some d => cases d <;> rfl
    rw [List.zipIdx_cons, List.flatMap_cons, ← ih, ← he]
    rfl

theorem counterFields_eq (x : Counter) : x.fields = counterFields x := by
  unfold Counter.fields counterFields
  cases x.station <;> cases x.slip <;> cases x.trimSat <;> rfl

theorem recordFields_eq (n : Station) (r : StationRec) (x : LinkStation) :
    r.fields n ++ x.fields n r.block.lanes = stationFields n.val r x := by
  unfold StationRec.fields LinkStation.fields stationFields
  cases (if r.baseline = true then r.force else none) <;> cases (if r.baseline = true then r.trip else none) <;>
    cases x.outstanding <;> rfl

/-! ### GET_STATUS -/

theorem runSeen_mode (s : State) : s.runSeen.mode = s.run.mode := by
  unfold State.runSeen
  cases s.stopInProgress <;> rfl

theorem axleFields_eq (s : State) : s.axleFields = statusAxle s s.axleSeen s.runSeen.mode := by
  rw [runSeen_mode]
  rfl

/-- GET_STATUS of a taken request: its own record stands alone in the request queue. -/
theorem takeGetStatus_eq (s : State) (q : Queued) :
    takeGetStatus (s.taking q) = (s.taking q, ⟨.ok, statusFields s s.axleSeen s.monitorSeen s.playerSeen s.runSeen s.faultsSeen⟩) := by
  unfold takeGetStatus statusFields
  rw [monitorFields_eq, playerFields_eq, axleFields_eq, storeFields_eq, entryMask_eq]
  simp only [List.flatten_cons, List.flatten_nil, List.append_nil, List.append_assoc]
  rfl

theorem takeRequest_getStatus (s : State) : takeRequest .getStatus s = now (takeGetStatus s) := by
  unfold takeRequest
  exact if_neg fun h => Bool.noConfusion h.2

/-- GET_STATUS that meets a free port, in LOADING too (R119). -/
theorem getStatus_answered (s : State) (tag : Byte) (h : s.portFree) :
    exec (.getStatus tag) s = .next (s.withReply 0x81#8 tag .ok
      (statusFields s s.axleSeen s.monitorSeen s.playerSeen s.runSeen s.faultsSeen)) := by
  obtain ⟨h1, h2, h3, h4, h5⟩ := h
  refine (request_served s (s.taking ⟨0x01#8, tag, .getStatus⟩) 0x01#8 tag .getStatus _ ⟨h1, h2, h3, h4, h5⟩
    ((takeRequest_getStatus _).trans (congrArg now (takeGetStatus_eq s _)))).trans ?_
  exact done_formReply (s.taking ⟨0x01#8, tag, .getStatus⟩) 0x01#8 tag .getStatus .ok _ (by decide) rfl h3 h4 h5 rfl

/-- What is shown with no computation in progress. -/
theorem seen_none {s : State} (h : s.comp = none) : s.axleSeen = s.axle ∧ s.monitorSeen = s.monitor ∧ s.playerSeen = s.player ∧
    s.runSeen = s.run ∧ s.faultsSeen = s.faults := by
  simp [State.axleSeen, State.monitorSeen, State.playerSeen, State.runSeen, State.faultsSeen, State.stopInProgress, h]

theorem inRun_iff (op : OpState) : op.inRun = true ↔ op = .run ∨ op = .stopping := by
  cases op <;> simp [OpState.inRun]

theorem axleSeen_some {s : State} {k : Computation} (h : s.comp = some k) :
    s.axleSeen = if k.began = .run ∨ k.began = .stopping then
        { k.axleBefore with grade := s.axle.grade, v := if k.void then s.axle.v else k.axleBefore.v }
      else { s.axle with adv := k.axleBefore.adv } := by
  unfold State.axleSeen
  rw [h]
  simp only [inRun_iff]

theorem seen_stop_none {s : State} (h : s.stopInProgress = none) : s.playerSeen = s.player ∧ s.runSeen = s.run := by
  simp [State.playerSeen, State.runSeen, h]

theorem seen_stop_some {s : State} {y : Player} (h : s.stopInProgress = some y) :
    s.playerSeen = { s.player with active := y.active, mode := y.mode, ended := y.ended } ∧
      s.runSeen = { s.run with op := .run, stopCause := none } := by
  simp [State.playerSeen, State.runSeen, h]

theorem getStatus_shows (s : State) (tag : Byte) (hfree : s.portFree) :
    let shows (x : Axle) (m : Monitor) (y : Player) (r : Run) (f : Faults) : Prop :=
      exec (.getStatus tag) s = .next (s.withReply 0x81#8 tag .ok (statusFields s x m y r f))
    (s.comp = none → shows s.axle s.monitor s.player s.run s.faults) ∧
    ∀ k, s.comp = some k →
      let axle : Axle := if k.began = .run ∨ k.began = .stopping then
          { k.axleBefore with grade := s.axle.grade, v := if k.void then s.axle.v else k.axleBefore.v }
        else { s.axle with adv := k.axleBefore.adv }
      let faults : Faults := { k.faultsBefore with silence := s.faults.silence }
      (k.stopped = none ∨ s.run.op ≠ .stopping → shows axle k.monitorBefore s.player s.run faults) ∧
      (∀ y, k.stopped = some y → s.run.op = .stopping →
        shows axle k.monitorBefore { s.player with active := y.active, mode := y.mode, ended := y.ended }
          { s.run with op := .run, stopCause := none } faults) := by
  have hg := getStatus_answered s tag hfree
  refine ⟨fun hc => ?_, fun k hk => ?_⟩
  · obtain ⟨ha, hm, hy, hr, hf⟩ := seen_none hc
    rwa [ha, hm, hy, hr, hf] at hg
  · have hm : s.monitorSeen = k.monitorBefore := by unfold State.monitorSeen; rw [hk]
    have hf : s.faultsSeen = { k.faultsBefore with silence := s.faults.silence } := by unfold State.faultsSeen; rw [hk]
    have hstop : s.stopInProgress = if s.run.op = .stopping then k.stopped else none := by
      unfold State.stopInProgress; rw [hk]; rfl
    rw [axleSeen_some hk, hm, hf] at hg
    refine ⟨fun h => ?_, fun y hy hop => ?_⟩
    · obtain ⟨h1, h2⟩ := seen_stop_none (hstop.trans (by rcases h with h | h <;> simp [h]))
      rwa [h1, h2] at hg
    · obtain ⟨h1, h2⟩ := seen_stop_some (hstop.trans (by rw [if_pos hop, hy]))
      rwa [h1, h2] at hg

/-- GET_STATUS in LOADING after a full reset (R119, R136). -/
theorem getStatus_loading (s : State) (tag : Byte) (reason : ResetReason) (stay : Bool) (rate : Nat) (mem : Memory) (cut : Bool) :
    let t := s.afterReset reason stay false rate mem cut
    exec (.getStatus tag) t = .next (t.withReply 0x81#8 tag .ok (loadingFields s.pins.estop rate)) := by
  intro t
  have haxle : statusAxle t t.axleSeen t.runSeen.mode = [.u8 0, .s64 0, .s16 0, .s64 0, .u16 0, .s16 0, .u32 400, .s64 0,
      .s32 0, .s64 0, .s64 0, .s64 0] := by
    have hv : ((t.axleSeen.v * 9).tdiv (65536 * 25 * t.cell.period)) = 0 := by
      rw [show t.axleSeen.v = 0 from rfl, zero_mul, Int.zero_tdiv]
    unfold statusAxle
    rw [hv]
    rfl
  have hmonitor : statusMonitor t.monitorSeen = [.u8 0, .u8 0, .gap 8, .u8 0, .gap 8, .opt8 none, .opt8 none, .u16 0, .u8 0,
      .u8 0, .s64 0, .u8 0, .u8 0, .gap 8, .u8 0, .s64 0, .u8 0, .u8 0, .gap 8,
      .u8 0, .s64 0, .u8 0, .u8 0, .gap 8, .u8 0, .s64 0, .u8 0, .u8 0, .gap 8] := rfl
  have hplayer : statusPlayer t.playerSeen = [.u8 0, .opt8 none, .u8 0, .gap 9, .u8 0, .u16 0, .u32 0, .opt8 none, .u8 0,
      .u16 0, .u8 0] := rfl
  have hentries : t.events.entries = Vector.replicate 16 none := rfl
  have hblocks : t.store.blocks = Vector.replicate 8 none := rfl
  rw [getStatus_answered t tag ⟨rfl, rfl, rfl, rfl, rfl⟩]
  unfold statusFields
  rw [haxle, hmonitor, hplayer, hentries, hblocks]
  simp only [Fin.getElem_fin, Vector.getElem_replicate]
  rfl

/-! ### The other readers -/

/-- A block that only reads is answered and nothing but the port changes. -/
theorem read_answered (s : State) (kind tag : Byte) (r : Request) (st : Status) (fs : List Field) (h : s.takes)
    (hk : kind.toNat < 128) (hb : r ≠ .badKind) (hl : r ≠ .badLength)
    (ht : takeBlock r (s.taking ⟨kind, tag, r⟩) = (s.taking ⟨kind, tag, r⟩, some ⟨st, fs⟩)) :
    request kind tag r s = .next (s.withReply (kind + 128#8) tag st fs) := by
  obtain ⟨⟨h1, h2, h3, h4, h5⟩, hop⟩ := h
  exact request_answered s (s.taking ⟨kind, tag, r⟩) kind tag r st fs ⟨⟨h1, h2, h3, h4, h5⟩, hop⟩ hk hb hl ht rfl h3 h4 h5 rfl

theorem takeGetStation_some {s : State} {n : Nat} {hn : n < 8} {r : StationRec} (h : s.stationSeen ⟨n, hn⟩ = some r) :
    takeGetStation n s = (s, ⟨.ok, stationFields n r s.link.st[n]⟩) := by
  unfold takeGetStation
  rw [stationOf_lt hn]
  simp only [h, recordFields_eq]
  rfl

theorem takeGetStation_none {s : State} {n : Nat} (h : ∀ hn : n < 8, s.stationSeen ⟨n, hn⟩ = none) :
    takeGetStation n s = (s, ⟨.badValue, []⟩) := by
  unfold takeGetStation stationOf
  by_cases hn : n < 8
  · rw [dif_pos hn]
    simp only [h hn]
    rfl
  · rw [dif_neg hn]
    rfl

theorem takeGetParam_some {s : State} {i : Nat} {v : Int} (h : s.paramValue i = some v) :
    takeGetParam i s = (s, ⟨.ok, [.u8 i, .s32 v]⟩) := by
  unfold takeGetParam
  rw [h]
  rfl

theorem takeGetParam_none {s : State} {i : Nat} (h : s.paramValue i = none) : takeGetParam i s = (s, ⟨.badValue, []⟩) := by
  unfold takeGetParam
  rw [h]
  rfl

/-- An identifier outside the table, or the trim of a station with no record, has no value (R192, R195). -/
theorem paramValue_none {s : State} {i : Nat}
    (h : i = 0 ∨ (21 < i ∧ ∀ n : Station, i = 32 + n.val → s.stations[n] = none)) : s.paramValue i = none := by
  have htrim : (match trimStation i with | some n => if s.has n then some s.params.circTrim[n] else none | none => none) =
      none := by
    unfold trimStation
    by_cases h32 : 32 ≤ i
    · rw [if_pos h32]
      by_cases h8 : i - 32 < 8
      · rw [stationOf_lt h8]
        have hi : i ≠ 0 := by omega
        have hn := (h.resolve_left hi).2 ⟨i - 32, h8⟩ (by simp; omega)
        unfold State.has
        simp only [hn]
        rfl
      · unfold stationOf
        rw [dif_neg h8]
    · rw [if_neg h32]
  unfold State.paramValue
  dsimp only
  rcases h with rfl | ⟨h, _⟩
  · exact htrim
  · split
    all_goals omega

theorem takeReadFaults_eq (s : State) : takeReadFaults s = (s, ⟨.ok, List.flatten [[.u8 s.faults.entries.length],
    s.faults.entries.zipIdx.flatMap (fun e => faultFields e.1 e.2), [yesNo s.faults.overflow, .u8 s.faults.reaction.code]]⟩) := by
  unfold takeReadFaults
  rw [listFields_eq]
  simp only [List.flatten_cons, List.flatten_nil, List.append_nil, List.append_assoc]
  rfl

theorem snapshotFields_eq (p : Snapshot) :
    p.fields = p.values.toList.map (fun v => .u16 v) ++ [.opt8 (p.entry.map Fin.val), .u32 p.taken.toNat] := by
  obtain ⟨⟨⟨values⟩, hv⟩, entry, taken⟩ := p
  match values, hv with
  | [a, b, c, d], _ => rfl

theorem takeReadCounters_eq (s : State) : takeReadCounters s = (s, ⟨.ok,
    List.flatten [s.stats.counters.toList.flatMap counterFields,
      s.stats.snap.values.toList.map (fun v => .u16 v),
      [.opt8 (s.stats.snap.entry.map Fin.val), .u32 s.stats.snap.taken.toNat],
      s.stats.watches.toList.flatMap watchFields]⟩) := by
  unfold takeReadCounters
  rw [funext counterFields_eq]
  rw [snapshotFields_eq, show Watch.fields = watchFields from rfl]
  simp only [List.flatten_cons, List.flatten_nil, List.append_nil, List.append_assoc]
  rfl

/-! ### How long the replies are -/

/-- The bytes a field takes. -/
def Field.size : Field → Nat
  | .u8 _ => 1
  | .u16 _ => 2
  | .u32 _ => 4
  | .u64 _ => 8
  | .s16 _ => 2
  | .s32 _ => 4
  | .s64 _ => 8
  | .opt8 _ => 1
  | .gap n => n

theorem Field.bytes_length (f : Field) : f.bytes.length = f.size := by
  cases f with
  | opt8 o => cases o <;> rfl
  | gap n => exact List.length_replicate
  | _ => rfl

theorem fieldBytes_length (fs : List Field) : (fieldBytes fs).length = (fs.map Field.size).sum := by
  unfold fieldBytes
  rw [List.length_flatMap]
  exact congrArg List.sum (List.map_congr_left fun f _ => f.bytes_length)

theorem body_length (a : Answer) : a.body.length = 1 + (a.fields.map Field.size).sum := by
  unfold Answer.body
  rw [List.length_append, fieldBytes_length]
  rfl

theorem optFields_size {α : Type} {w : Nat} {f : α → List Field} (h : ∀ x, ((f x).map Field.size).sum = w) (o : Option α) :
    ((optFields w f o).map Field.size).sum = 1 + w := by
  cases o with
  | none => rfl
  | some x => exact congrArg (1 + ·) (h x)

theorem recordFields_size (n : Station) (r : StationRec) (x : LinkStation) :
    ((r.fields n ++ x.fields n r.block.lanes).map Field.size).sum = 115 := by
  unfold StationRec.fields LinkStation.fields
  simp only [List.map_append, List.sum_append]
  rw [optFields_size (w := 4) (fun _ => rfl), optFields_size (w := 1) (fun _ => rfl), optFields_size (w := 9) (fun _ => rfl)]
  simp [Field.size, StationRec.whenFaulted, optOutcome]

theorem getStation_length {s : State} {n : Nat} (h : (takeGetStation n s).2.status = .ok) :
    (takeGetStation n s).2.body.length = 116 := by
  unfold takeGetStation at h ⊢
  split at h
  · cases h
  · split at h
    · cases h
    · rw [body_length]
      exact congrArg (1 + ·) (recordFields_size _ _ _)

theorem summaryFields_size (z : Summary) : (z.fields.map Field.size).sum = 19 := by
  unfold Summary.fields
  rw [List.map_append, List.sum_append, optFields_size (w := 8) (fun _ => rfl)]
  rfl

theorem flatMap_size {α : Type} {w : Nat} {f : α → List Field} (h : ∀ x, ((f x).map Field.size).sum = w) (l : List α) :
    ((l.flatMap f).map Field.size).sum = w * l.length := by
  induction l with
  | nil => rfl
  | cons x rest ih =>
    rw [List.flatMap_cons, List.map_append, List.sum_append, h, ih, List.length_cons]
    ring

/-- A GET_STATUS reply grows by two bytes for each waiting segment, and by nothing else. -/
theorem getStatus_length (s : State) : (takeGetStatus s).2.body.length = 253 + 2 * s.playerSeen.waiting.length := by
  unfold takeGetStatus
  rw [body_length]
  unfold State.axleFields Monitor.fields Player.fields Run.fields Faults.fields State.storeFields State.portFields okWith
  simp only [List.map_append, List.sum_append]
  rw [optFields_size (w := 8) (fun _ => rfl), optFields_size (w := 8) (fun _ => rfl), optFields_size (w := 9) (fun _ => rfl),
    optFields_size (w := 24) (fun _ => rfl), optFields_size (w := 2) (fun m => by cases m <;> rfl),
    flatMap_size summaryFields_size]
  simp [Field.size, optStation, maskField, Function.comp_def]
  omega

theorem playerSeen_waiting (s : State) : s.playerSeen.waiting = s.player.waiting := by
  unfold State.playerSeen
  cases s.stopInProgress <;> rfl

/-- Settles O32. -/
theorem readsChangeNothing : Obligations.ReadsChangeNothing := by
  refine ⟨getStatus_shows, getStatus_loading, fun s tag h => ⟨fun n hn r hr => ?_, fun i v hv => ?_, fun i hi => ?_, ?_, ?_⟩,
    fun s tag n h hf hn => ?_, fun s s' n n' h h' => ?_, fun s s' => ?_⟩
  · have hseen : s.stationSeen ⟨n, hn⟩ = some r := by
      unfold State.stationSeen
      rcases hr with ⟨hc, hr⟩ | ⟨k, hc, hr⟩
      · rw [hc]; exact hr
      · rw [hc]; exact hr
    exact read_answered s 0x02#8 tag (.getStation n) .ok _ h (by decide) (by simp) (by simp)
      (congrArg now (takeGetStation_some (s := s.taking _) hseen))
  · exact read_answered s 0x08#8 tag (.getParam i) .ok _ h (by decide) (by simp) (by simp)
      (congrArg now (takeGetParam_some (s := s.taking _) hv))
  · exact read_answered s 0x08#8 tag (.getParam i) .badValue _ h (by decide) (by simp) (by simp)
      (congrArg now (takeGetParam_none (s := s.taking _) (paramValue_none (s := s.taking _) hi)))
  · exact read_answered s 0x1B#8 tag .readFaults .ok _ h (by decide) (by simp) (by simp)
      (congrArg now (takeReadFaults_eq (s.taking _)))
  · exact read_answered s 0x18#8 tag .readCounters .ok _ h (by decide) (by simp) (by simp)
      (congrArg now (takeReadCounters_eq (s.taking _)))
  · have hseen : ∀ hn : n < 8, s.stationSeen ⟨n, hn⟩ = none := fun hlt => by
      unfold State.computationFollows at hf
      unfold State.stationSeen
      cases hc : s.comp with
      | none => exact hn hlt
      | some k =>
        rw [hc] at hf
        simp only [Bool.and_eq_true, everyStation_iff, beq_iff_eq] at hf
        have := (hf.2 ⟨n, hlt⟩).2
        have h0 : s.stations[(⟨n, hlt⟩ : Station)] = none := hn hlt
        rw [h0] at this
        exact Option.isNone_iff_eq_none.mp (by simpa using this)
    exact read_answered s 0x02#8 tag (.getStation n) .badValue _ h (by decide) (by simp) (by simp)
      (congrArg now (takeGetStation_none (s := s.taking _) hseen))
  · rw [getStation_length h, getStation_length h']
  · rw [getStatus_length, getStatus_length, playerSeen_waiting, playerSeen_waiting]
    omega

end Sys2Proof.Machine
end

section
/-! The counters of a slot end and of the demand assembly, counted in the order of their numbers; SLOT_END. -/

namespace Sys2Proof.Machine

/-! ### Folds that keep an account of how far they are -/

/-- Induction along a list without repetitions: what holds when the members of a part have had their turn holds one further
on. -/
theorem foldl_progress {α β : Type} {Q : List α → β → Prop} {f : β → α → β} {s : β} (L : List α) (hL : L.Nodup)
    (h0 : Q [] s) (hstep : ∀ l a t, a ∉ l → Q l t → Q (l ++ [a]) (f t a)) : Q L (L.foldl f s) := by
  have go : ∀ (rest l : List α) (t : β), (l ++ rest).Nodup → Q l t → Q (l ++ rest) (rest.foldl f t) := by
    intro rest
    induction rest with
    | nil => intro l t _ h; simpa using h
    | cons a rest ih =>
      intro l t hd h
      have ha : a ∉ l := fun hm => (List.nodup_append.mp hd).2.2 a hm a (by simp) rfl
      have := ih (l ++ [a]) _ (by simpa using hd) (hstep l a t ha h)
      simpa using this
  exact go L [] s hL h0

theorem mem_counterList (k : Fin 4) : k ∈ counterList := by
  match k with | 0 | 1 | 2 | 3 => simp [counterList]

theorem Vector.set_get_four {α : Type} (v : Vector α 4) (n m : Fin 4) (x : α) : (v.set n x)[m] = if n = m then x else v[m] := by
  by_cases h : n = m
  · subst h
    simp
  · have : (n : Nat) ≠ m := fun e => h (Fin.ext e)
    simp [Vector.getElem_set_ne _ _ this, h]

/-! ### Counting (R170, R171, R172) -/

/-- What g adds to each counter, none where it is left alone, in the order of their numbers. -/
def countEach (g : Counter → Option Nat) (s : State) : State :=
  counterList.foldl (fun t k => match g t.stats.counters[k] with | some a => addCount k a t | none => t) s

/-- A counter after it has counted. -/
def Counter.counted (g : Counter → Option Nat) (x : Counter) : Counter :=
  match g x with
  | some a => x.add a
  | none => x

/-- The report of a counter's first cut. -/
def firstCut (g : Counter → Option Nat) (s : State) (k : Fin 4) : Option ReportBody :=
  if s.stats.counters[k].saturated = false ∧ (s.stats.counters[k].counted g).saturated = true then
    some (.counterSaturated k s.stats.counters[k].station s.stats.counters[k].accumulate)
  else none

/-- A state whose counters and reports alone differ. -/
def Counted (s t : State) : Prop := t = { s with
  stats := { s.stats with counters := t.stats.counters }
  port := { s.port with reports := t.port.reports, lost := t.port.lost } }

/-- One counter's addition: its new value, its report, and nothing else. -/
theorem addCount_told (k : Fin 4) (a : Nat) (s : State) :
    addCount k a s = { s with
      stats := { s.stats with counters := s.stats.counters.set k (s.stats.counters[k].add a) }
      port := s.port.tellAll s.params.reportLevel ((if s.stats.counters[k].saturated = false ∧
          (s.stats.counters[k].add a).saturated = true then
        some (ReportBody.counterSaturated k s.stats.counters[k].station s.stats.counters[k].accumulate) else none).toList.map
          fun b => (s.run.count, s.run.op, b)) } := by
  unfold addCount
  simp only [Bool.and_eq_true, Bool.not_eq_true']
  split
  · rw [submit_tell]
    rfl
  · rfl

/-- The counters counted in order: each by itself, and the first cuts reported in the order of the numbers (R172; log 47). -/
theorem countEach_told (g : Counter → Option Nat) (s : State) :
    Counted s (countEach g s) ∧ (∀ k : Fin 4, (countEach g s).stats.counters[k] = s.stats.counters[k].counted g) ∧
      (countEach g s).port = s.port.tellAll s.params.reportLevel
        ((counterList.filterMap (firstCut g s)).map fun b => (s.run.count, s.run.op, b)) := by
  let Q (l : List (Fin 4)) (t : State) : Prop := t = { s with stats := { s.stats with counters := t.stats.counters }, port := t.port } ∧
    (∀ k : Fin 4, t.stats.counters[k] = if k ∈ l then s.stats.counters[k].counted g else s.stats.counters[k]) ∧
    t.port = s.port.tellAll s.params.reportLevel ((l.filterMap (firstCut g s)).map fun b => (s.run.count, s.run.op, b))
  have h : Q counterList (countEach g s) := by
    refine foldl_progress (Q := Q) counterList (by decide) ⟨rfl, fun k => by simp, rfl⟩ fun l n t hn ⟨hf, hc, hp⟩ => ?_
    have hcn : t.stats.counters[n] = s.stats.counters[n] := by rw [hc n, if_neg hn]
    have hmem : ∀ k, k ∈ l ++ [n] ↔ k ∈ l ∨ n = k := fun k => by
      rw [List.mem_append, List.mem_singleton, eq_comm (a := k)]
    rw [hcn]
    cases hg : g s.stats.counters[n] with
    | none =>
      have hcounted : s.stats.counters[n].counted g = s.stats.counters[n] := by unfold Counter.counted; rw [hg]
      refine ⟨hf, fun k => ?_, ?_⟩
      · rw [hc k]
        by_cases hk : n = k
        · subst hk
          rw [if_neg hn, if_pos ((hmem n).mpr (.inr rfl)), hcounted]
        · simp only [hmem, hk, or_false]
      · have : firstCut g s n = none := by
          unfold firstCut
          rw [hcounted]
          exact if_neg fun h => by simp at h
        simp [this, hp]
    | some a =>
      have hcounted : s.stats.counters[n].counted g = s.stats.counters[n].add a := by unfold Counter.counted; rw [hg]
      have hrun : t.run = s.run := by rw [hf]
      have hparams : t.params = s.params := by rw [hf]
      dsimp only
      rw [addCount_told, hcn, hrun, hparams]
      refine ⟨?_, fun k => ?_, ?_⟩
      · rw [hf]
      · show (t.stats.counters.set n _)[k] = _
        rw [Vector.set_get_four]
        by_cases hk : n = k
        · subst hk
          rw [if_pos rfl, if_pos ((hmem n).mpr (.inr rfl)), hcounted]
        · simp only [hmem, hk, or_false, if_false, hc k]
      · show t.port.tellAll _ _ = _
        have hone : List.filterMap (firstCut g s) [n] = (firstCut g s n).toList := by
          cases h : firstCut g s n <;> simp [h]
        rw [hp, ← tellAll_append, List.filterMap_append, List.map_append, hone, firstCut, hcounted]
  obtain ⟨hf, hc, hp⟩ := h
  refine ⟨?_, fun k => by rw [hc k, if_pos (mem_counterList k)], hp⟩
  have := tellAll_frame s.params.reportLevel ((counterList.filterMap (firstCut g s)).map fun b => (s.run.count, s.run.op, b)) s.port
  rw [← hp] at this
  unfold Counted
  rw [← this]
  exact hf

/-- The first cuts between a state and the one its counters leave are those of the counters one by one. -/
theorem firstCuts_counted {s t : State} {g : Counter → Option Nat}
    (h : ∀ k : Fin 4, t.stats.counters[k] = s.stats.counters[k].counted g) :
    firstCuts s t = counterList.filterMap (firstCut g s) := by
  unfold firstCuts firstCut
  simp only [h]
  rfl

/-- What a slot end adds to a counter (R169, R170). -/
def slotCounts (n : Station) (a b : Option LaneOutcome) (s : State) (x : Counter) : Option Nat :=
  if (counting s x && x.selects n) = true then some (x.slotAmount a b) else none

/-- What the demand assembly adds to a counter (R169, R171). -/
def lockCounts (s : State) (x : Counter) : Option Nat :=
  if counting s x = true then some (x.lockAmount s) else none

/-- Two folds whose steps agree on the states that are reached. -/
theorem foldl_agree {α β : Type} {P : β → Prop} {f g : β → α → β} (L : List α) {s : β} (h0 : P s)
    (hP : ∀ t a, P t → P (g t a)) (hfg : ∀ t a, P t → f t a = g t a) : L.foldl f s = L.foldl g s := by
  induction L generalizing s with
  | nil => rfl
  | cons a rest ih =>
    rw [List.foldl_cons, List.foldl_cons, hfg s a h0]
    exact ih (hP s a h0)

/-- The parts that say what counts stand as they do. -/
def SameCounting (s t : State) : Prop := t.inForce = s.inForce ∧ t.run = s.run ∧ t.stations = s.stations

theorem addCount_sameCounting {s t : State} (k : Fin 4) (a : Nat) (h : SameCounting s t) : SameCounting s (addCount k a t) := by
  rw [addCount_told]
  exact h

theorem countEach_of_step {s : State} {f : State → Fin 4 → State} (g : Counter → Option Nat)
    (hfg : ∀ t k, SameCounting s t → f t k = match g t.stats.counters[k] with | some a => addCount k a t | none => t) :
    counterList.foldl f s = countEach g s := by
  refine foldl_agree (P := SameCounting s) counterList ⟨rfl, rfl, rfl⟩ (fun t k ht => ?_) hfg
  split
  · exact addCount_sameCounting k _ ht
  · exact ht

theorem countSlot_eq (n : Station) (a b : Option LaneOutcome) (s : State) : countSlot n a b s = countEach (slotCounts n a b s) s := by
  unfold countSlot
  refine countEach_of_step _ fun t k ⟨h1, h2, _⟩ => ?_
  unfold slotCounts counting
  rw [h1, h2]
  dsimp only
  split <;> rfl

theorem countLocks_eq (s : State) : countLocks s = countEach (lockCounts s) s := by
  unfold countLocks
  refine countEach_of_step _ fun t k ⟨h1, h2, h3⟩ => ?_
  unfold lockCounts counting Counter.lockAmount
  rw [h1, h2, h3]
  dsimp only
  split <;> rfl

/-! ### SLOT_END (R3) -/

theorem endSlot_none {n : Station} {s : State} (h : s.stations[n] = none) (a b : Reception) : endSlot n a b s = s := by
  unfold endSlot
  rw [h]

theorem endSlot_some {n : Station} {s : State} {r : StationRec} (h : s.stations[n] = some r) (a b : Reception) :
    endSlot n a b s = watchSlot n (s.link.st[n].slot r.block.lanes n s.link.counter a b).outA
      (s.link.st[n].slot r.block.lanes n s.link.counter a b).outB
      (countSlot n (s.link.st[n].slot r.block.lanes n s.link.counter a b).outA
        (s.link.st[n].slot r.block.lanes n s.link.counter a b).outB
        (setLinkStation n (s.link.st[n].slot r.block.lanes n s.link.counter a b) s)) := by
  unfold endSlot
  rw [h]

/-- The slot of a station, lane by lane. -/
theorem slot_eq (x : LinkStation) (lanes : LaneUse) (n : Station) (counter : BitVec 6) (a b : Reception) :
    x.slot lanes n counter a b = { x with
      outA := if lanes = .b then none else some (laneOutcome n counter a).1
      outB := if lanes = .a then none else some (laneOutcome n counter b).1
      repA := if lanes = .b then none else (laneOutcome n counter a).2
      repB := if lanes = .a then none else (laneOutcome n counter b).2 } := by
  unfold LinkStation.slot
  cases lanes <;> rfl

/-- What becomes of one watch at a slot end. -/
theorem watchSlot_get (n : Station) (a b : Option LaneOutcome) (s : State) (k : Fin 4) :
    (watchSlot n a b s).stats.watches[k] = if s.stats.watches[k].station = some n ∧ s.stats.watches[k].lost = false then
      s.stats.watches[k].take (s.link.counter.getLsbD 0) a b else s.stats.watches[k] := by
  match k with | 0 => rfl | 1 => rfl | 2 => rfl | 3 => rfl

theorem watch_taken (n : Station) (a b : Option LaneOutcome) (counter : BitVec 6) (w : Watch) :
    (if w.station = some n ∧ w.lost = false then w.take (counter.getLsbD 0) a b else w) =
      if w.station ≠ some n ∨ w.lost = true then w
      else if counter.toNat % 2 = 0 then
        { w with aEven := if a = none then w.aEven else a, bEven := if b = none then w.bEven else b }
      else { w with aOdd := if a = none then w.aOdd else a, bOdd := if b = none then w.bOdd else b } := by
  have hor : ∀ x y : Option LaneOutcome, x.or y = if x = none then y else x := fun x y => by cases x <;> rfl
  have hodd : counter.getLsbD 0 = decide (counter.toNat % 2 = 1) := Nat.testBit_zero _
  unfold Watch.take
  rw [hodd]
  simp only [hor, decide_eq_true_eq]
  by_cases h : w.station = some n ∧ w.lost = false
  · rw [if_pos h, if_neg (c := w.station ≠ some n ∨ w.lost = true) (by simp [h.1, h.2])]
    by_cases hp : counter.toNat % 2 = 0
    · rw [if_pos hp, if_neg (by omega)]
    · rw [if_neg hp, if_pos (by omega)]
  · rw [if_neg h, if_pos (by
      rcases not_and_or.mp h with h | h
      · exact .inl h
      · exact .inr (by simpa using h))]

theorem watchSlot_frame (n : Station) (a b : Option LaneOutcome) (s : State) :
    watchSlot n a b s = { s with stats := { s.stats with watches := (watchSlot n a b s).stats.watches } } := rfl

theorem counting_slot_iff (n : Station) (s : State) (x : Counter) : (counting s x && x.selects n) = true ↔
    x.enable ∧ x.lost = false ∧ (s.inForce.countEnable ∨ s.run.countEnable) ∧ (x.station = none ∨ x.station = some n) := by
  have hsel : x.selects n = true ↔ x.station = none ∨ x.station = some n := by
    unfold Counter.selects
    cases x.station <;> simp
  unfold counting
  simp only [Bool.and_eq_true, Bool.or_eq_true, Bool.not_eq_true', hsel]
  tauto

theorem add_eq (x : Counter) (a : Nat) : x.add a =
    { x with working := if 65535 < x.working + a then 65535 else x.working + a
             saturated := x.saturated || decide (65535 < x.working + a) } := by
  unfold Counter.add
  split <;> simp_all

theorem counted_slot (n : Station) (a b : Option LaneOutcome) (s : State) (x : Counter) :
    x.counted (slotCounts n a b s) =
      if x.enable ∧ x.lost = false ∧ (s.inForce.countEnable ∨ s.run.countEnable) ∧ (x.station = none ∨ x.station = some n) then
        { x with working := if 65535 < x.working + x.slotAmount a b then 65535 else x.working + x.slotAmount a b,
                 saturated := x.saturated || decide (65535 < x.working + x.slotAmount a b) }
      else x := by
  unfold Counter.counted slotCounts
  simp only [counting_slot_iff]
  split <;> rename_i h
  · split at h
    · rw [if_pos ‹_›, ← add_eq, Option.some.inj h]
    · cases h
  · split at h
    · cases h
    · rw [if_neg ‹_›]

/-- What a slot end makes of the statistics, and what it reports. -/
theorem slotStats_told (n : Station) (a b : Option LaneOutcome) (s : State) :
    let t := watchSlot n a b (countSlot n a b s)
    (∀ k : Fin 4, t.stats.watches[k] = (watchSlot n a b s).stats.watches[k]) ∧
      (∀ k : Fin 4, t.stats.counters[k] = s.stats.counters[k].counted (slotCounts n a b s)) ∧
      t.port = s.port.tellAll s.params.reportLevel ((firstCuts s t).map fun b => (s.run.count, s.run.op, b)) ∧
      t = { s with stats := { s.stats with counters := t.stats.counters, watches := t.stats.watches }
                   port := { s.port with reports := t.port.reports, lost := t.port.lost } } := by
  obtain ⟨hf, hc, hp⟩ := countEach_told (slotCounts n a b s) s
  rw [countSlot_eq]
  generalize countEach (slotCounts n a b s) s = u at hf hc hp
  refine ⟨fun k => ?_, hc, ?_, ?_⟩
  · rw [watchSlot_get, watchSlot_get, hf]
  · rw [firstCuts_counted (t := watchSlot n a b u) (g := slotCounts n a b s) hc]
    exact hp
  · rw [watchSlot_frame, hf]

/-- Settles O19. -/
theorem slotEndStoresOutcomes : Obligations.SlotEndStoresOutcomes := by
  intro s n a b hrun
  have hexec : exec (.slotEnd n a b) s = .next (pumpTx (endSlot n a b s)) := by
    show Host.Outcome.next (pumpTx (if s.link.running then endSlot n a b s else s)) = _
    rw [hrun]
    rfl
  refine ⟨fun hn => by rw [hexec, endSlot_none hn], ?_⟩
  intro r hr la lb outA outB holds amount
  have hholds : ∀ x o, holds x o = x.holds o := fun x o => by
    cases o with
    | none => rfl
    | some y => exact (List.contains_eq_mem ..).symm
  have hamount : ∀ x, amount x = x.slotAmount outA outB := fun x => by
    unfold Counter.slotAmount
    dsimp only [amount]
    cases x.lane <;> simp only [hholds] <;> rfl
  have hslot := slot_eq s.link.st[n] r.block.lanes n s.link.counter a b
  have hu := endSlot_some hr a b
  rw [hslot] at hu
  dsimp only at hu
  generalize hx : ({ s.link.st[n] with
    outA := outA, outB := outB, repA := if r.block.lanes = .b then none else la.2
    repB := if r.block.lanes = .a then none else lb.2 } : LinkStation) = x
  have hu' : endSlot n a b s = watchSlot n outA outB (countSlot n outA outB (setLinkStation n x s)) := by
    rw [← hx]
    exact hu
  obtain ⟨hw, hc, hp, hf⟩ := slotStats_told n outA outB (setLinkStation n x s)
  rw [← hu'] at hw hc hp hf
  generalize endSlot n a b s = u at hexec hw hc hp hf
  have hcounted : ∀ k : Fin 4, u.stats.counters[k] = s.stats.counters[k].counted (slotCounts n outA outB s) := hc
  have hport : u.port = s.port.tellAll s.params.reportLevel ((firstCuts s u).map fun b => (s.run.count, s.run.op, b)) := hp
  refine ⟨pumpTx u, hexec, ?_, fun k => ?_, fun k => ?_, ?_, ?_⟩
  · rw [pumpTx_link, hf]
    rfl
  · rw [pumpTx_stats, hw, watchSlot_get]
    exact watch_taken n outA outB s.link.counter s.stats.watches[k]
  · rw [pumpTx_stats, hcounted, counted_slot, ← hamount]
  · have hcuts : firstCuts s (pumpTx u) = firstCuts s u := by
      unfold firstCuts
      rw [pumpTx_stats]
    rw [hcuts]
    exact emits_of_tellAll hport (by rw [hf]; rfl)
  · rw [pumpTx_told hport, hf]
    rfl

end Sys2Proof.Machine
end

section
/-! Bytes and CRC-16: what is written is read back, and a unit with its CRC has the remainder 0; the station reports. -/

namespace Sys2Proof.Machine

/-! ### CRC-16 (R210) -/

theorem crcShift_toNat {x : Word16} (h : x.toNat < 32768) : (crcShift x).toNat = 2 * x.toNat := by
  have hm : x.msb = false := by
    rw [BitVec.msb_eq_decide]
    exact decide_eq_false (by omega)
  unfold crcShift
  rw [hm, if_neg (by simp), BitVec.toNat_shiftLeft, Nat.shiftLeft_eq]
  omega

/-- A register below 256 moves up one byte, no bit of it fed back. -/
theorem crcShift_eight {x : Word16} (h : x.toNat < 256) :
    (crcShift (crcShift (crcShift (crcShift (crcShift (crcShift (crcShift (crcShift x)))))))).toNat = 256 * x.toNat := by
  have h1 := crcShift_toNat (x := x) (by omega)
  have h2 := crcShift_toNat (x := crcShift x) (by omega)
  have h3 := crcShift_toNat (x := crcShift (crcShift x)) (by omega)
  have h4 := crcShift_toNat (x := crcShift (crcShift (crcShift x))) (by omega)
  have h5 := crcShift_toNat (x := crcShift (crcShift (crcShift (crcShift x)))) (by omega)
  have h6 := crcShift_toNat (x := crcShift (crcShift (crcShift (crcShift (crcShift x))))) (by omega)
  have h7 := crcShift_toNat (x := crcShift (crcShift (crcShift (crcShift (crcShift (crcShift x)))))) (by omega)
  have h8 := crcShift_toNat (x := crcShift (crcShift (crcShift (crcShift (crcShift (crcShift (crcShift x))))))) (by omega)
  omega

/-- The register with its own high byte fed in keeps its low byte. -/
theorem crc_high_cancels (r : Word16) :
    r ^^^ ((BitVec.ofNat 8 (r.toNat / 256)).setWidth 16 <<< 8) = BitVec.ofNat 16 (r.toNat % 256) := by
  apply BitVec.eq_of_getLsbD_eq
  intro i hi
  have hhigh : (r.toNat / 256).testBit (i - 8) = r.toNat.testBit (i - 8 + 8) := by
    rw [show (256 : Nat) = 2 ^ 8 from rfl, Nat.testBit_div_two_pow]
  have hlow : (r.toNat % 256).testBit i = (decide (i < 8) && r.toNat.testBit i) := Nat.testBit_mod_two_pow r.toNat 8 i
  simp only [BitVec.getLsbD_xor, BitVec.getLsbD_shiftLeft, BitVec.getLsbD_setWidth, BitVec.getLsbD_ofNat, hhigh, hlow, hi,
    decide_true, Bool.true_and]
  by_cases h8 : i < 8
  · simp [h8, BitVec.getLsbD]
  · have h1 : i - 8 + 8 = i := by omega
    have h2 : i - 8 < 8 := by omega
    have h3 : i - 8 < 16 := by omega
    simp [h8, h1, h2, h3, BitVec.getLsbD]


/-- The remainder of a register followed by its own two bytes is 0. -/
theorem crcByte_own (r : Word16) : crcByte (crcByte r (BitVec.ofNat 8 (r.toNat / 256))) (BitVec.ofNat 8 r.toNat) = 0#16 := by
  have hx : (crcByte r (BitVec.ofNat 8 (r.toNat / 256))).toNat = 256 * (r.toNat % 256) := by
    unfold crcByte
    dsimp only
    rw [crc_high_cancels, crcShift_eight] <;> simp <;> omega
  have hz : crcByte r (BitVec.ofNat 8 (r.toNat / 256)) ^^^ ((BitVec.ofNat 8 r.toNat).setWidth 16 <<< 8) = 0#16 := by
    rw [BitVec.xor_eq_zero_iff]
    apply BitVec.eq_of_toNat_eq
    rw [hx, BitVec.toNat_shiftLeft, Nat.shiftLeft_eq]
    simp
    omega
  unfold crcByte at hz ⊢
  dsimp only at hz ⊢
  rw [hz]
  rfl

/-- A unit that its CRC closes has the remainder 0. -/
theorem crc16_closed (b : List Byte) : crc16 (b ++ crcBytes b) = 0#16 := by
  unfold crc16 crcBytes be2
  rw [List.foldl_append]
  exact crcByte_own _

/-! ### Fields of bytes -/

theorem beNat_be1 (n : Nat) : beNat (be1 n) = n % 256 := by
  simp [beNat, be1]

theorem beNat_be2 (n : Nat) : beNat (be2 n) = n % 65536 := by
  simp [beNat, be2]
  omega

theorem beNat_be4 (n : Nat) : beNat (be4 n) = n % 4294967296 := by
  simp [beNat, be4, be2]
  omega

theorem signed_twos {i : Int} (h : fitsS32 i = true) : (BitVec.ofNat 32 (beNat (be4 (twos 32 i)))).toInt = i := by
  unfold fitsS32 at h
  simp only [Bool.and_eq_true, decide_eq_true_eq] at h
  have hn : BitVec.ofNat 32 (beNat (be4 (twos 32 i))) = BitVec.ofInt 32 i := by
    apply BitVec.eq_of_toNat_eq
    rw [beNat_be4, BitVec.toNat_ofNat]
    have := (BitVec.ofInt 32 i).isLt
    unfold twos
    omega
  rw [hn, BitVec.toInt_ofInt]
  exact Int.bmod_eq_of_le (by omega) (by omega)

theorem fieldAt_one {b : List Byte} {i : Nat} (h : i < b.length) : fieldAt b i 1 = b[i].toNat := by
  unfold fieldAt slice
  rw [List.drop_eq_getElem_cons h, List.take_succ_cons, List.take_zero]
  simp only [beNat, List.foldl_cons, List.foldl_nil]
  omega

/-! ### Station reports (R6, 12.3) -/

/-- A correct report ends with the CRC of the rest. -/
theorem decodeReport_crc {b : List Byte} {r : StationReport} (h : decodeReport b = some r) : b.length = 23 ∧ crc16 b = 0#16 := by
  unfold decodeReport at h
  split at h
  · obtain ⟨hlen, hcrc, _⟩ := ‹_ ∧ _›
    have hb : b = b.take 21 ++ crcBytes (b.take 21) := by
      rw [← hcrc]
      unfold slice
      rw [List.take_of_length_le (l := b.drop 21) (by simp [hlen]), List.take_append_drop]
    exact ⟨hlen, by rw [hb]; exact crc16_closed _⟩
  · cases h

theorem laneOutcome_malformed {n : Station} {counter : BitVec 6} {b : List Byte} (hb : b ≠ []) (h : decodeReport b = none) :
    laneOutcome n counter (.bytes b) = (.malformed, none) := by
  unfold laneOutcome
  simp only [hb, if_false, h]

theorem laneOutcome_report {n : Station} {counter : BitVec 6} {b : List Byte} {r : StationReport} (hb : b ≠ [])
    (h : decodeReport b = some r) : laneOutcome n counter (.bytes b) =
      if r.station = n.val ∧ r.echo = counter.toNat then (.valid, some r) else (.content, none) := by
  unfold laneOutcome
  simp only [hb, if_false, h]

theorem driveOf_none {k : Nat} (h1 : k ≠ 1) (h2 : k ≠ 2) (h3 : k ≠ 3) : driveOf k = none := by
  unfold driveOf
  split
  · exact absurd rfl h1
  · exact absurd rfl h2
  · exact absurd rfl h3
  · rfl

theorem driveOf_code (d : DriveState) : driveOf d.code = some d := by
  cases d <;> rfl

theorem responseAt_none {b : List Byte} (h : (fieldAt b 13 1 ≠ 0 ∧ fieldAt b 13 1 ≠ 1) ∨
    (fieldAt b 13 1 = 1 ∧ fieldAt b 14 1 ≠ 1 ∧ fieldAt b 14 1 ≠ 2)) : responseAt b = none := by
  unfold responseAt
  generalize fieldAt b 13 1 = x at h
  generalize fieldAt b 14 1 = y at h
  split
  · omega
  · omega
  · omega
  · rfl

/-- A code outside its set, or another type byte, is no report (R211). -/
theorem decodeReport_codes {b : List Byte} (hlen : b.length = 23)
    (h : b[0]? ≠ some 0x3A#8 ∨ (b[11]? ≠ some 1#8 ∧ b[11]? ≠ some 2#8 ∧ b[11]? ≠ some 3#8) ∨
      (b[13]? ≠ some 0#8 ∧ b[13]? ≠ some 1#8) ∨ (b[13]? = some 1#8 ∧ b[14]? ≠ some 1#8 ∧ b[14]? ≠ some 2#8)) :
    decodeReport b = none := by
  have hfield : ∀ (i : Nat) (k : Nat), i < 23 → k < 256 → (fieldAt b i 1 = k ↔ b[i]? = some (BitVec.ofNat 8 k)) := by
    intro i k hi hk
    rw [fieldAt_one (by omega), List.getElem?_eq_getElem (by omega), Option.some.injEq]
    constructor
    · intro h
      exact BitVec.eq_of_toNat_eq (by rw [h, BitVec.toNat_ofNat]; omega)
    · intro h
      rw [h, BitVec.toNat_ofNat]
      omega
  simp only [ne_eq, ← hfield 0 0x3A (by omega) (by omega), ← hfield 11 1 (by omega) (by omega),
    ← hfield 11 2 (by omega) (by omega), ← hfield 11 3 (by omega) (by omega), ← hfield 13 0 (by omega) (by omega),
    ← hfield 13 1 (by omega) (by omega), ← hfield 14 1 (by omega) (by omega), ← hfield 14 2 (by omega) (by omega)] at h
  unfold decodeReport
  split
  · rename_i hc
    rcases h with h | ⟨h1, h2, h3⟩ | h
    · exact absurd hc.2.2 h
    · rw [driveOf_none h1 h2 h3]
    · rw [responseAt_none h]
      cases driveOf (fieldAt b 11 1) <;> rfl
  · rfl

theorem covered_length (r : StationReport) : r.covered.length = 21 := by
  unfold StationReport.covered responseBytes
  cases r.response <;> rfl

/-- The response of a report as a drive sends it is read back. -/
theorem responseAt_bytes {r : StationReport} (hr : ∀ x, r.response = some x → x.index < 65536 ∧ fitsS32 x.value = true) :
    responseAt r.bytes = some r.response := by
  obtain ⟨station, echo, count, force, drive, trip, response⟩ := r
  cases response with
  | none => rfl
  | some x =>
    obtain ⟨hindex, hvalue⟩ := hr x rfl
    obtain ⟨ok, index, value⟩ := x
    have hi : fieldAt (StationReport.bytes ⟨station, echo, count, force, drive, trip, some ⟨ok, index, value⟩⟩) 15 2 =
        index := (beNat_be2 index).trans (Nat.mod_eq_of_lt hindex)
    have hv : signed4At (StationReport.bytes ⟨station, echo, count, force, drive, trip, some ⟨ok, index, value⟩⟩) 17 =
        value := signed_twos hvalue
    unfold responseAt
    rw [hi, hv]
    cases ok <;> rfl

/-- A report as a drive sends it is read back. -/
theorem decodeReport_bytes {r : StationReport} (hs : r.station < 256) (he : r.echo < 256) (hf : fitsS32 r.force = true)
    (ht : r.trip < 256) (hr : ∀ x, r.response = some x → x.index < 65536 ∧ fitsS32 x.value = true) :
    decodeReport r.bytes = some r := by
  have hlen : r.bytes.length = 23 := by
    unfold StationReport.bytes
    rw [List.length_append, covered_length, crcBytes_length]
  have hcrc : slice r.bytes 21 2 = crcBytes (r.bytes.take 21) := by
    unfold StationReport.bytes slice
    rw [List.take_left' (covered_length r), List.drop_left' (covered_length r)]
    rfl
  have htype : fieldAt r.bytes 0 1 = 0x3A := rfl
  have hstation : fieldAt r.bytes 1 1 = r.station := (beNat_be1 r.station).trans (by omega)
  have hecho : fieldAt r.bytes 2 1 = r.echo := (beNat_be1 r.echo).trans (by omega)
  have hcount : BitVec.ofNat 32 (fieldAt r.bytes 3 4) = r.count := by
    rw [show fieldAt r.bytes 3 4 = _ from beNat_be4 r.count.toNat]
    apply BitVec.eq_of_toNat_eq
    have := r.count.isLt
    rw [BitVec.toNat_ofNat]
    omega
  have hforce : signed4At r.bytes 7 = r.force := signed_twos hf
  have hdrive : driveOf (fieldAt r.bytes 11 1) = some r.drive := by
    rw [show fieldAt r.bytes 11 1 = r.drive.code % 256 from beNat_be1 r.drive.code, ← driveOf_code r.drive]
    cases r.drive <;> rfl
  have htrip : fieldAt r.bytes 12 1 = r.trip := (beNat_be1 r.trip).trans (by omega)
  unfold decodeReport
  rw [if_pos ⟨hlen, hcrc, htype⟩, hdrive, responseAt_bytes hr, hstation, hecho, hcount, hforce, htrip]

/-- Settles O20. -/
theorem reportsAreReadBack : Obligations.ReportsAreReadBack := by
  intro n counter
  refine ⟨rfl, rfl, fun b hb hlen => ?_, fun b hcrc hb => ?_, fun b hlen h => ?_, fun r hs he hf ht hr => ?_⟩
  · refine laneOutcome_malformed hb (Option.eq_none_iff_forall_ne_some.mpr fun r h => hlen (decodeReport_crc h).1)
  · refine laneOutcome_malformed hb (Option.eq_none_iff_forall_ne_some.mpr fun r h => hcrc (decodeReport_crc h).2)
  · exact laneOutcome_malformed (fun h => by rw [h] at hlen; cases hlen) (decodeReport_codes hlen h)
  · refine laneOutcome_report (fun h => ?_) (decodeReport_bytes hs he hf ht hr)
    have := congrArg List.length h
    simp [StationReport.bytes, crcBytes_length] at this

end Sys2Proof.Machine
end

section
/-! CYCLE_START: the arbiter's search, the SYNC frame, the mark's pulse, the publishing and the SETTLE report. -/

namespace Sys2Proof.Machine

/-! ### The arbiter (R15, R16) -/

theorem stationList_found {p : Station → Bool} {n : Station} (h : stationList.find? p = some n) :
    p n = true ∧ ∀ m < n, p m = false := by
  obtain ⟨hn, as, bs, hlist, has⟩ := List.find?_eq_some_iff_append.mp h
  refine ⟨hn, fun m hm => ?_⟩
  have hmem : m ∈ as ++ n :: bs := hlist ▸ mem_stationList m
  have hsorted : (as ++ n :: bs).Pairwise (· < ·) := hlist ▸ stationList_sorted
  rcases List.mem_append.mp hmem with h1 | h1
  · simpa using has m h1
  · rcases List.mem_cons.mp h1 with h2 | h2
    · exact absurd hm (by rw [h2]; exact lt_irrefl n)
    · exact absurd hm (not_lt_of_gt ((List.pairwise_cons.mp (List.pairwise_append.mp hsorted).2.1).1 m h2))

/-- The place of a station in the arbiter's search. -/
theorem search_place (pointer m : Station) : pointer + 1 + (m - pointer - 1) = m := by
  revert pointer m
  decide

theorem search_place_self (pointer i : Station) : pointer + 1 + i - pointer - 1 = i := by
  revert pointer i
  decide

theorem qualifies_iff (x : LinkStation) : x.qualifies = true ↔ ¬(x.waiting = [] ∨ x.outstanding ≠ none) := by
  unfold LinkStation.qualifies
  cases x.waiting <;> cases x.outstanding <;> simp

theorem qualifies_false {x : LinkStation} (h : x.qualifies = false) : x.waiting = [] ∨ x.outstanding ≠ none := by
  by_contra hn
  rw [(qualifies_iff x).mpr hn] at h
  cases h

/-- Where the search finds nothing, no station qualifies and nothing changes. -/
theorem grant_none {l : Link} (h : l.grant.2 = none) : l.grant.1 = l ∧ ∀ n : Station, l.st[n].qualifies = false := by
  unfold Link.grant at h ⊢
  split at h <;> rename_i hf
  · refine ⟨rfl, fun n => ?_⟩
    rw [searchOrder, List.find?_map, Option.map_eq_none_iff, List.find?_eq_none] at hf
    have := hf (n - l.pointer - 1) (mem_stationList _)
    rw [Function.comp, search_place] at this
    simpa using this
  · split at h <;> rename_i hw
    · rw [searchOrder, List.find?_map, Option.map_eq_some_iff] at hf
      obtain ⟨i, hf, hi⟩ := hf
      have hq := (stationList_found hf).1
      rw [Function.comp, hi, qualifies_iff] at hq
      exact absurd (.inl hw) hq
    · cases h

/-- The granted station is the first that qualifies after the pointer; its item moves from waiting to outstanding. -/
theorem grant_some {l : Link} {n : Station} {i : ServiceItem} (h : l.grant.2 = some (n, i)) :
    (∃ rest, l.st[n].waiting = i :: rest ∧ l.st[n].outstanding = none ∧
      l.grant.1 = { l with
        pointer := n
        st := l.st.set n { l.st[n] with waiting := rest, outstanding := some { item := i, age := 0 } } }) ∧
      ∀ m : Station, m - l.pointer - 1 < n - l.pointer - 1 → l.st[m].qualifies = false := by
  unfold Link.grant at h ⊢
  split at h <;> rename_i hf
  · cases h
  · rename_i k
    split at h <;> rename_i hw
    · cases h
    · cases h
      have hfind := hf
      rw [searchOrder, List.find?_map, Option.map_eq_some_iff] at hfind
      obtain ⟨j, hj, hjk⟩ := hfind
      obtain ⟨hq, hlow⟩ := stationList_found hj
      refine ⟨⟨_, hw, ?_, ?_⟩, fun m hm => ?_⟩
      · rw [Function.comp, hjk, qualifies_iff] at hq
        by_contra ho
        exact hq (.inr ho)
      · rfl
      · rw [← hjk, search_place_self] at hm
        have := hlow _ hm
        rwa [Function.comp, search_place] at this

/-! ### The frame of a cycle start's work after the SYNC frame -/

/-- `s` with the event entries, the statistics' counters and snapshot, a waiting CAPTURE, the order count and the reports of
`t`. -/
def State.startedTo (s t : State) : State :=
  { s with
    events := t.events, free := t.free
    stats := { s.stats with counters := t.stats.counters, snap := t.stats.snap }
    trace := { s.trace with waiting := t.trace.waiting }
    port := { s.port with reports := t.port.reports, lost := t.port.lost } }

/-- Only what a cycle start does after its SYNC frame differs. -/
def Started (s t : State) : Prop := t = s.startedTo t

theorem Started.refl (s : State) : Started s s := rfl

theorem Started.trans {s t u : State} (h : Started s t) (k : Started t u) : Started s u :=
  Eq.trans k (congrArg (fun x => State.startedTo x u) h : _ = (s.startedTo t).startedTo u)

/-- As `Started`, the counters too as they were. -/
def Tested (s t : State) : Prop := Started s t ∧ t.stats.counters = s.stats.counters

theorem Tested.refl (s : State) : Tested s s := ⟨rfl, rfl⟩

theorem Tested.trans {s t u : State} (h : Tested s t) (k : Tested t u) : Tested s u :=
  ⟨Started.trans h.1 k.1, k.2.trans h.2⟩

theorem Tested.ite {s t : State} {b : Bool} (h : Tested s t) : Tested s (if b = true then t else s) := by
  cases b
  · exact Tested.refl s
  · exact h

theorem submit_tested (b : ReportBody) (s : State) : Tested s (submit b s) := by
  unfold submit
  split
  · exact Tested.refl s
  · split <;> exact ⟨rfl, rfl⟩

/-- A firing changes no counter, and nothing besides the entries, the actions' addressees and the reports. -/
theorem fire_tested (i : Fin 16) (e : EventEntry) (s : State) : Tested s (fire i e s) := by
  have hset : ∀ x, Tested s (setEntry i x s) := fun x => ⟨rfl, rfl⟩
  have hmark : ∀ t, Tested t (handMark t) := fun t => ⟨rfl, rfl⟩
  have hsnap : ∀ t, Tested t (takeSnapshot i t) := fun t => ⟨rfl, rfl⟩
  have hcapture : ∀ t, Tested t { t with trace := { t.trace with waiting := true } } := fun t => ⟨rfl, rfl⟩
  exact ((((hset _).trans (hmark _).ite).trans (submit_tested _ _).ite).trans (hsnap _).ite).trans (hcapture _).ite

theorem fireAll_tested (test : EventEntry → Option EventEntry) (s : State) : Tested s (fireAll test s) := by
  unfold fireAll
  refine foldl_progress (Q := fun _ t => Tested s t) entryList (by decide) (Tested.refl s) fun l i t _ h => ?_
  split
  · exact h.trans (fire_tested i _ t)
  · exact h

theorem cycleTests_tested (s : State) : Tested s (cycleTests s) := by
  unfold cycleTests
  split
  · exact fireAll_tested _ s
  · exact Tested.refl s

theorem cycleTests_outside {s : State} (h : s.run.op.enables = false) : cycleTests s = s := by
  unfold cycleTests
  rw [h]
  rfl

theorem publish_get (s : State) (k : Fin 4) : (publish s).stats.counters[k] = s.stats.counters[k].publish := by
  match k with | 0 => rfl | 1 => rfl | 2 => rfl | 3 => rfl

theorem settleReport_tested (s : State) : Tested s (settleReport s) := by
  unfold settleReport
  split
  · exact submit_tested _ s
  · exact Tested.refl s

/-- A round start: what it may change, and the counters published. -/
theorem roundStart_started (first : Bool) (s : State) :
    Started s (roundStart first s) ∧ ∀ k : Fin 4, (roundStart first s).stats.counters[k] = s.stats.counters[k].publish := by
  unfold roundStart
  cases first with
  | true =>
    have h := (cycleTests_tested (publish s)).trans (settleReport_tested _)
    exact ⟨Started.trans (t := publish s) rfl h.1, fun k => by
      show (settleReport (cycleTests (publish s))).stats.counters[k] = _
      rw [h.2, publish_get]⟩
  | false =>
    have h1 := cycleTests_tested s
    have h2 := settleReport_tested (publish (cycleTests s))
    exact ⟨h1.1.trans (Started.trans (t := publish (cycleTests s)) rfl h2.1), fun k => by
      show (settleReport (publish (cycleTests s))).stats.counters[k] = _
      rw [h2.2, publish_get, h1.2]⟩

/-- In SETTLE no entry is tested, and a round start submits the SETTLE report (R122). -/
theorem roundStart_settle (first : Bool) {s : State} (h : s.run.op = .settle) :
    roundStart first s = submit (.settle s.run.settleCount s.run.settleTimer s.unsettled) (publish s) := by
  have hp : cycleTests (publish s) = publish s := cycleTests_outside (by show s.run.op.enables = false; rw [h]; rfl)
  have hs : cycleTests s = s := cycleTests_outside (by rw [h]; rfl)
  unfold roundStart
  rw [hp, hs, ite_self]
  exact if_pos h

/-! ### CYCLE_START (R2) -/

/-- The controller at a cycle start before the arbiter grants: the counter advanced, every lane's report let go. -/
def Link.opened (l : Link) : Link :=
  { l with counter := l.counter + 1, st := mapEight (fun x : LinkStation => { x with repA := none, repB := none }) l.st }

theorem opened_get (l : Link) (n : Station) : l.opened.st[n] = { l.st[n] with repA := none, repB := none } := mapEight_get _ l.st n

/-- The SYNC frame of a cycle start (R5). -/
def State.syncFrame (s : State) : SyncFrame :=
  { counter := s.link.counter + 1, entries := ofEight s.syncEntry, item := s.link.opened.grant.2 }

theorem grant_frame (l : Link) : l.grant.1 = { l with st := l.grant.1.st, pointer := l.grant.1.pointer } := by
  cases h : l.grant.2 with
  | none => rw [(grant_none h).1]
  | some x =>
    obtain ⟨⟨_, _, _, heq⟩, _⟩ := grant_some (n := x.1) (i := x.2) h
    rw [heq]

theorem openCycle_eq (s : State) : openCycle s = { s with link := { s.link with
    counter := s.link.counter + 1, st := s.link.opened.grant.1.st, pointer := s.link.opened.grant.1.pointer
    sync := some s.syncFrame } } := by
  show ({ s with link := { s.link.opened.grant.1 with sync := some s.syncFrame } } : State) = _
  rw [grant_frame]
  rfl

theorem beginPulse_eq (s : State) : beginPulse s = { s with
    pins := { s.pins with marker := s.pins.marker || s.events.markPending }
    events := { s.events with markPending := false } } := by
  unfold beginPulse
  by_cases hm : s.events.markPending = true
  · rw [if_pos hm, hm, Bool.or_true]
  · have hf : s.events.markPending = false := Bool.eq_false_iff.mpr hm
    rw [if_neg hm, hf, Bool.or_false, ← hf]

/-- The state of a cycle start before the CYCLE tests: the SYNC frame sent and the mark's pulse begun. -/
def cyclePulsed (s : State) : State := beginPulse (openCycle s)

theorem cyclePulsed_eq (s : State) : cyclePulsed s = { s with
    link := { s.link with
      counter := s.link.counter + 1, st := s.link.opened.grant.1.st, pointer := s.link.opened.grant.1.pointer
      sync := some s.syncFrame }
    pins := { s.pins with marker := s.pins.marker || s.events.markPending }
    events := { s.events with markPending := false } } := by
  unfold cyclePulsed
  rw [beginPulse_eq, openCycle_eq]

theorem counter_wraps (x : BitVec 6) : x + 1 = 0 ↔ x = 63 := by
  revert x
  decide

/-- A cycle start's work after the SYNC frame: a round start's, or the CYCLE tests alone. -/
theorem cycleStart_eq (s : State) : cycleStartWith Config.publishFirst s =
    if s.link.counter = 63 then
      roundStart (Config.publishFirst (cyclePulsed s).free) { cyclePulsed s with free := (cyclePulsed s).free + 1 }
    else cycleTests (cyclePulsed s) := by
  have hcounter : (cyclePulsed s).link.counter = s.link.counter + 1 := by rw [cyclePulsed_eq]
  unfold cycleStartWith
  show (if (cyclePulsed s).link.counter = 0 then _ else _) = _
  rw [hcounter]
  simp only [counter_wraps]
  rfl

theorem cycleStart_started (s : State) : Started (cyclePulsed s) (cycleStartWith Config.publishFirst s) ∧
    ∀ k : Fin 4, (cycleStartWith Config.publishFirst s).stats.counters[k] =
      if s.link.counter = 63 then s.stats.counters[k].publish else s.stats.counters[k] := by
  have hstats : (cyclePulsed s).stats = s.stats := by rw [cyclePulsed_eq]
  by_cases h0 : s.link.counter = 63
  · have heq := (cycleStart_eq s).trans (if_pos h0)
    obtain ⟨h1, h2⟩ := roundStart_started (Config.publishFirst (cyclePulsed s).free)
      { cyclePulsed s with free := (cyclePulsed s).free + 1 }
    rw [heq]
    refine ⟨Started.trans (t := { cyclePulsed s with free := (cyclePulsed s).free + 1 }) rfl h1, fun k => ?_⟩
    rw [h2, if_pos h0]
    show (cyclePulsed s).stats.counters[k].publish = _
    rw [hstats]
  · have heq := (cycleStart_eq s).trans (if_neg h0)
    obtain ⟨h1, h2⟩ := cycleTests_tested (cyclePulsed s)
    rw [heq]
    exact ⟨h1, fun k => by rw [h2, hstats, if_neg h0]⟩

theorem syncEntry_eq (s : State) (n : Station) : s.syncEntry n = match s.stations[n] with
    | none => ⟨.torqueOff, 0⟩
    | some r =>
      if (s.run.op = .run ∨ s.run.op = .stopping) ∧ r.command = .follow then
        ⟨.follow, if r.block.direction = .normal then r.demand
          else if r.demand = -2147483648 then 2147483647 else -r.demand⟩
      else ⟨.torqueOff, 0⟩ := by
  unfold State.syncEntry
  cases s.stations[n] with
  | none => rfl
  | some r =>
    simp only [inRun_iff]
    by_cases hop : s.run.op = .run ∨ s.run.op = .stopping
    · rw [if_pos hop]
      cases hc : r.command with
      | torqueOff => rw [if_neg (by simp)]; rfl
      | follow =>
        rw [if_pos ⟨hop, rfl⟩]
        unfold mountedDemand
        cases r.block.direction <;> rfl
    · rw [if_neg hop, if_neg fun h => hop h.1]
      rfl

/-- The stations the SETTLE report of a cycle start lists (R122). -/
theorem unsettled_iff (s u : State) (n : Station) (hst : u.stations = s.stations) (hrun : u.run = s.run)
    (hobs : u.link.st[n].obs = s.link.st[n].obs) : inMask u.unsettled n = true ↔ s.stations[n] ≠ none ∧
      (s.run.settleTimer = 0 ∨ ¬∃ c x d p r, s.link.st[n].obs = some (.valid c x d p r)) := by
  unfold State.unsettled State.has State.lastValid
  rw [inMask_maskOf, hst, hrun, hobs, Bool.and_eq_true, Bool.or_eq_true, Option.isSome_iff_ne_none, beq_iff_eq,
    Bool.not_eq_true']
  refine and_congr_right fun _ => or_congr_right ?_
  cases s.link.st[n].obs with
  | none => simp
  | some o => cases o <;> simp [Observation.isValid]

theorem opened_obs (l : Link) (n : Station) : l.opened.grant.1.st[n].obs = l.st[n].obs := by
  cases h : l.opened.grant.2 with
  | none => rw [(grant_none h).1, opened_get]
  | some x =>
    obtain ⟨⟨_, _, _, heq⟩, _⟩ := grant_some (n := x.1) (i := x.2) h
    rw [heq, Vector.set_get]
    split
    · rename_i hn
      rw [hn, opened_get]
    · rw [opened_get]

/-- In SETTLE a round start submits the SETTLE report and no other (R122). -/
theorem cycleStart_settle (s : State) (hop : s.run.op = .settle) (h0 : s.link.counter = 63) :
    ∃ mask : Mask, (∀ n : Station, inMask mask n = true ↔ s.stations[n] ≠ none ∧
        (s.run.settleTimer = 0 ∨ ¬∃ c x d p r, s.link.st[n].obs = some (.valid c x d p r))) ∧
      (cycleStartWith Config.publishFirst s).port = s.port.tellAll s.params.reportLevel
        [(s.run.count, .settle, .settle s.run.settleCount s.run.settleTimer mask)] := by
  have hpulsed := cyclePulsed_eq s
  have hrun : (cyclePulsed s).run = s.run := by rw [hpulsed]
  have hstations : (cyclePulsed s).stations = s.stations := by rw [hpulsed]
  have hst : (cyclePulsed s).link.st = s.link.opened.grant.1.st := by rw [hpulsed]
  have hport : (cyclePulsed s).port = s.port := by rw [hpulsed]
  have hparams : (cyclePulsed s).params = s.params := by rw [hpulsed]
  rw [(cycleStart_eq s).trans (if_pos h0)]
  generalize cyclePulsed s = v at hrun hstations hst hport hparams
  rw [roundStart_settle (s := { v with free := v.free + 1 }) _ (by show v.run.op = .settle; rw [hrun]; exact hop)]
  refine ⟨(publish { v with free := v.free + 1 }).unsettled, fun n => unsettled_iff s _ n hstations hrun ?_, ?_⟩
  · show v.link.st[n].obs = _
    rw [hst, opened_obs]
  · rw [submit_port_tellAll]
    show v.port.tellAll v.params.reportLevel [(v.run.count, v.run.op, .settle v.run.settleCount v.run.settleTimer _)] = _
    rw [hport, hparams, hrun, hop]
    rfl

/-- Settles O17. -/
theorem cycleStartSendsTheFrame : Obligations.CycleStartSendsTheFrame := by
  intro s hrun
  have hexec : exec .cycleStart s = .next (pumpTx (cycleStartWith Config.publishFirst s)) := by
    show Host.Outcome.next (pumpTx (if s.link.running then cycleStartWith Config.publishFirst s else s)) = _
    rw [hrun]
    rfl
  obtain ⟨hstart, hcounters⟩ := cycleStart_started s
  have hpulsed := cyclePulsed_eq s
  have hlink : (cycleStartWith Config.publishFirst s).link = { s.link with
      counter := s.link.counter + 1, st := s.link.opened.grant.1.st, pointer := s.link.opened.grant.1.pointer
      sync := some s.syncFrame } := by
    rw [hstart, hpulsed]
    rfl
  have hst : (cycleStartWith Config.publishFirst s).link.st = s.link.opened.grant.1.st := by rw [hlink]
  have hpointer : (cycleStartWith Config.publishFirst s).link.pointer = s.link.opened.grant.1.pointer := by rw [hlink]
  have hpins : (cycleStartWith Config.publishFirst s).pins = { s.pins with marker := s.pins.marker || s.events.markPending } := by
    rw [hstart, hpulsed]
    rfl
  have hsettle := cycleStart_settle s
  generalize cycleStartWith Config.publishFirst s = u at *
  refine ⟨pumpTx u, s.syncFrame, hexec, ?_, ?_, rfl, fun n => ?_, fun hitem => ?_, fun m hm => ?_, fun n i hitem => ?_, ?_, fun k => ?_, ?_, ?_⟩
  · rw [pumpTx_link, hlink]
  · rw [pumpTx_link, hlink]
  · exact (ofEight_get _ n).trans (syncEntry_eq s n)
  · obtain ⟨h1, h2⟩ := grant_none (l := s.link.opened) hitem
    refine ⟨?_, fun n => ?_⟩
    · rw [pumpTx_link, hpointer, h1]
      rfl
    · have := qualifies_false (h2 n)
      rw [opened_get] at this
      exact this
  · rw [pumpTx_link, hst]
    cases hitem : s.link.opened.grant.2 with
    | none => rw [(grant_none hitem).1, opened_get]
    | some x =>
      obtain ⟨⟨_, _, _, heq⟩, _⟩ := grant_some (n := x.1) (i := x.2) hitem
      have hne : x.1 ≠ m := fun h => hm x.2 (by rw [← h]; exact hitem)
      rw [heq, Vector.set_get, if_neg hne, opened_get]
  · obtain ⟨⟨rest, hw, ho, heq⟩, hlow⟩ := grant_some (l := s.link.opened) hitem
    rw [opened_get] at hw ho
    refine ⟨⟨rest, hw, ho, ?_⟩, ?_, fun m hm => ?_⟩
    · rw [pumpTx_link, hst, heq, Vector.set_get, if_pos rfl, opened_get]
    · rw [pumpTx_link, hpointer, heq]
    · have := qualifies_false (hlow m hm)
      rw [opened_get] at this
      exact this
  · rw [pumpTx_pins, hpins]
  · rw [pumpTx_stats, hcounters k]
    rfl
  · intro hop h0 hlevel hroom htx
    obtain ⟨mask, hmask, hport⟩ := hsettle hop h0
    refine ⟨mask, hmask, ?_⟩
    have hheard : heard s [(s.run.count, .settle, .settle s.run.settleCount s.run.settleTimer mask)] =
        [(s.run.count, .settle, .settle s.run.settleCount s.run.settleTimer mask)] :=
      List.filter_eq_self.mpr fun x hx => by
        rw [List.mem_singleton.mp hx]
        exact decide_eq_true hlevel
    have hemits := emits_of_tellAll hport (by rw [hpins])
    obtain ⟨_, hq, _⟩ := hemits (by rw [hheard]; exact hroom)
    rw [hq fun h => htx h.1, hheard]
    rfl
  · obtain ⟨x, q, hx⟩ := pumpTx_port u
    rw [hx]
    dsimp only
    rw [hpins, hlink]
    conv_lhs => rw [hstart, hpulsed]
    rfl

end Sys2Proof.Machine
end

section
/-! SUPPORT. What a sequence of raises and reports leaves, as `course` gives it: each raise and report followed, and sequences
put together. -/

namespace Sys2Proof.Machine

/-! ### A course and its parts -/

/-- The raise takes the part from RUN to STOPPING (R126, R139). -/
def stopsRun (m : Faults) (op : OpState) (f : Raise) : Bool := f.kind.level == 2 && m.reaction.accepts 2 && op == .run

theorem course_raise (s : State) (count : Word32) (m : Faults) (op : OpState) (f : Raise) (rest : List (Raise ⊕ ReportBody)) :
    course s count m op (.inl f :: rest) =
      let x := course s count (Faults.take f count op m) (if stopsRun m op f = true then .stopping else op) rest
      (x.1, x.2.1, faultTold m count op f :: ((if stopsRun m op f = true then stopReports s count f.kind else []) ++ x.2.2)) := rfl

theorem course_report (s : State) (count : Word32) (m : Faults) (op : OpState) (b : ReportBody)
    (rest : List (Raise ⊕ ReportBody)) : course s count m op (.inr b :: rest) =
      let x := course s count m op rest
      (x.1, x.2.1, (count, op, b) :: x.2.2) := rfl

theorem course_append (s : State) (count : Word32) (m : Faults) (op : OpState) (a b : List (Raise ⊕ ReportBody)) :
    course s count m op (a ++ b) =
      let x := course s count m op a
      let y := course s count x.1 x.2.1 b
      (y.1, y.2.1, x.2.2 ++ y.2.2) := by
  induction a generalizing m op with
  | nil => rfl
  | cons x rest ih =>
    cases x with
    | inl f =>
      rw [List.cons_append, course_raise, course_raise, ih]
      simp only [List.cons_append, List.append_assoc]
    | inr c =>
      rw [List.cons_append, course_report, course_report, ih]
      rfl

/-- The one change of operating state a course makes. -/
theorem course_op (s : State) (count : Word32) (m : Faults) (op : OpState) (l : List (Raise ⊕ ReportBody)) :
    (course s count m op l).2.1 = op ∨ (op = .run ∧ (course s count m op l).2.1 = .stopping) := by
  induction l generalizing m op with
  | nil => exact .inl rfl
  | cons x rest ih =>
    cases x with
    | inl f =>
      rw [course_raise]
      by_cases h : stopsRun m op f = true
      · have hop : op = .run := by
          unfold stopsRun at h
          simpa using (Bool.and_eq_true_iff.mp h).2
        rw [h]
        refine .inr ⟨hop, ?_⟩
        rcases ih (Faults.take f count op m) .stopping with h1 | ⟨h1, _⟩
        · exact h1
        · cases h1
      · simp only [h]
        exact ih _ op
    | inr b => exact ih m op

/-- What of a state the reports of a course from an operating state hang on: in RUN, those of the entry to STOPPING. -/
def SameReports (s t : State) (op : OpState) : Prop :=
  op = .run → t.run.tag = s.run.tag ∧ t.run.mode = s.run.mode ∧ t.run.orderly = s.run.orderly ∧ t.player = s.player

theorem stopReports_congr {s t : State} (h : SameReports s t .run) (count : Word32) (k : FaultKind) :
    stopReports t count k = stopReports s count k := by
  obtain ⟨h1, h2, h3, h4⟩ := h rfl
  unfold stopReports
  rw [h1, h2, h3, h4]

theorem course_congr {s t : State} {op : OpState} (h : SameReports s t op) (count : Word32) (m : Faults)
    (l : List (Raise ⊕ ReportBody)) : course t count m op l = course s count m op l := by
  induction l generalizing m op with
  | nil => rfl
  | cons x rest ih =>
    cases x with
    | inl f =>
      rw [course_raise, course_raise]
      by_cases hs : stopsRun m op f = true
      · have hop : op = .run := by
          unfold stopsRun at hs
          simpa using (Bool.and_eq_true_iff.mp hs).2
        subst hop
        have hstop : SameReports s t .stopping := fun e => by cases e
        simp only [hs, if_true]
        rw [ih hstop, stopReports_congr h]
      · simp only [hs]
        rw [if_neg (by simp), ih h]
        rfl
    | inr b =>
      rw [course_report, course_report, ih h]

/-! ### The silence count takes no part -/

theorem recordRaise_silenced (f : Raise) (now : Word32) (op : OpState) (m : Faults) (k : Nat) :
    recordRaise f now op { m with silence := k } =
      ({ (recordRaise f now op m).1 with silence := k }, (recordRaise f now op m).2) := by
  unfold recordRaise
  dsimp only
  cases repeatIn f now 0 m.entries with
  | some x => rfl
  | none =>
    dsimp only
    split <;> rfl

theorem take_silenced (f : Raise) (now : Word32) (op : OpState) (m : Faults) (k : Nat) :
    Faults.take f now op { m with silence := k } = { Faults.take f now op m with silence := k } := by
  unfold Faults.take
  rw [recordRaise_silenced]

theorem faultTold_silenced (m : Faults) (count : Word32) (op : OpState) (f : Raise) (k : Nat) :
    faultTold { m with silence := k } count op f = faultTold m count op f := by
  unfold faultTold
  rw [take_silenced, recordRaise_silenced]

theorem course_silenced (s : State) (count : Word32) (m : Faults) (op : OpState) (k : Nat) (l : List (Raise ⊕ ReportBody)) :
    course s count { m with silence := k } op l =
      let x := course s count m op l
      ({ x.1 with silence := k }, x.2) := by
  induction l generalizing m op with
  | nil => rfl
  | cons y rest ih =>
    cases y with
    | inl f =>
      rw [course_raise, course_raise, take_silenced, ih, faultTold_silenced]
      rfl
    | inr b =>
      rw [course_report, course_report, ih]

/-! ### States that have followed a course -/

/-- From u to v exactly these raises and reports were made, at one run cycle count; the run's tag, mode and pending reset, the
report level and the RESET line stand as they did. -/
structure Follows (acts : List (Raise ⊕ ReportBody)) (u v : State) : Prop where
  faults : v.faults = (course u u.run.count u.faults u.run.op acts).1
  op : v.run.op = (course u u.run.count u.faults u.run.op acts).2.1
  port : v.port = u.port.tellAll u.params.reportLevel (course u u.run.count u.faults u.run.op acts).2.2
  count : v.run.count = u.run.count
  tag : v.run.tag = u.run.tag
  mode : v.run.mode = u.run.mode
  orderly : v.run.orderly = u.run.orderly
  level : v.params.reportLevel = u.params.reportLevel
  held : v.pins.resetHeld = u.pins.resetHeld
  stays : v.run.op = u.run.op → v.player = u.player ∧ v.run.stopCause = u.run.stopCause
  stops : u.run.op = .run → v.run.op = .stopping → v.player = playerStopped u.player ∧ v.run.stopCause = some .fault

/-- Nothing raised and nothing reported. -/
theorem Follows.quiet {u v : State} (hf : v.faults = u.faults) (hr : v.run = u.run) (hp : v.port = u.port)
    (hl : v.params.reportLevel = u.params.reportLevel) (hh : v.pins.resetHeld = u.pins.resetHeld)
    (hy : v.player = u.player) : Follows [] u v := by
  refine ⟨hf, ?_, hp, ?_, ?_, ?_, ?_, hl, hh, fun _ => ⟨hy, ?_⟩, fun h1 h2 => ?_⟩ <;> try rw [hr]
  · rfl
  · rw [hr, h1] at h2
    cases h2

theorem Follows.op_cases {acts : List (Raise ⊕ ReportBody)} {u v : State} (h : Follows acts u v) :
    v.run.op = u.run.op ∨ (u.run.op = .run ∧ v.run.op = .stopping) := by
  rw [h.op]
  exact course_op u u.run.count u.faults u.run.op acts

theorem Follows.sameReports {acts : List (Raise ⊕ ReportBody)} {u v : State} (h : Follows acts u v) :
    SameReports u v v.run.op := by
  intro hv
  rcases h.op_cases with h1 | ⟨_, h1⟩
  · exact ⟨h.tag, h.mode, h.orderly, (h.stays h1).1⟩
  · rw [hv] at h1
    cases h1

/-- One sequence after another. -/
theorem Follows.trans {a b : List (Raise ⊕ ReportBody)} {u v w : State} (h : Follows a u v) (k : Follows b v w) :
    Follows (a ++ b) u w := by
  have hc : course v v.run.count v.faults v.run.op b = course u u.run.count (course u u.run.count u.faults u.run.op a).1
      (course u u.run.count u.faults u.run.op a).2.1 b := by
    rw [course_congr h.sameReports, h.count, h.faults, h.op]
  have happ := course_append u u.run.count u.faults u.run.op a b
  refine ⟨?_, ?_, ?_, k.count.trans h.count, k.tag.trans h.tag, k.mode.trans h.mode, k.orderly.trans h.orderly,
    k.level.trans h.level, k.held.trans h.held, fun hop => ?_, fun hrun hstop => ?_⟩
  · rw [k.faults, hc, happ]
  · rw [k.op, hc, happ]
  · rw [k.port, hc, happ, h.level, h.port, ← tellAll_append]
  · rcases h.op_cases with h1 | ⟨h1, h2⟩
    · obtain ⟨h3, h4⟩ := h.stays h1
      obtain ⟨h5, h6⟩ := k.stays (hop.trans h1.symm)
      exact ⟨h5.trans h3, h6.trans h4⟩
    · rcases k.op_cases with h3 | ⟨h3, _⟩
      · rw [h3, h2, h1] at hop
        cases hop
      · rw [h2] at h3
        cases h3
  · rcases h.op_cases with h1 | ⟨_, h2⟩
    · obtain ⟨h3, _⟩ := h.stays h1
      obtain ⟨h5, h6⟩ := k.stops (h1.trans hrun) hstop
      exact ⟨by rw [h5, h3], h6⟩
    · obtain ⟨h3, h4⟩ := h.stops hrun h2
      obtain ⟨h5, h6⟩ := k.stays (hstop.trans h2.symm)
      exact ⟨h5.trans h3, h6.trans h4⟩

theorem Follows.after {acts : List (Raise ⊕ ReportBody)} {u v w : State} (h : Follows acts u v) (k : Follows [] v w) :
    Follows acts u w := by
  have := h.trans k
  rwa [List.append_nil] at this

theorem Follows.before {acts : List (Raise ⊕ ReportBody)} {u v w : State} (h : Follows [] u v) (k : Follows acts v w) :
    Follows acts u w := h.trans k

/-- A report submitted. -/
theorem submit_follows (b : ReportBody) (u : State) : Follows [.inr b] u (submit b u) := by
  rw [submit_tell]
  exact ⟨rfl, rfl, rfl, rfl, rfl, rfl, rfl, rfl, rfl, fun _ => ⟨rfl, rfl⟩, fun h1 h2 => by
    have h2' : u.run.op = .stopping := h2
    rw [h1] at h2'; cases h2'⟩

theorem playerStop_eq (s : State) : playerStop s = { s with
    player := playerStopped s.player
    port := s.port.tellAll s.params.reportLevel
      (if endsInStop s.player then [(s.run.count, s.run.op, .profileEnd .stopped s.player.lastTag s.player.clock)] else []) } := by
  unfold playerStop playerStopped endsInStop
  cases h : s.player.mode <;> simp only [playerEnd, submit_tell] <;> rfl

/-- The entry to STOPPING from RUN by an accepted raise. -/
theorem enterStopping_run (k : FaultKind) (s : State) (h : s.run.op = .run) :
    enterStopping .fault (some k) s = { s with
      run := { s.run with op := .stopping, stopCause := some .fault }, player := playerStopped s.player
      port := s.port.tellAll s.params.reportLevel (stopReports s s.run.count k) } := by
  unfold enterStopping
  rw [if_pos h]
  dsimp only
  rw [playerStop_eq, submitState_eq, submit_tell]
  unfold stopReports
  rw [tellAll_append]
  rfl

theorem enterStopping_other (k : FaultKind) (s : State) (h : s.run.op ≠ .run) : enterStopping .fault (some k) s = s := by
  unfold enterStopping
  exact if_neg h

theorem raised_follows {f : Raise} {u : State} (h : stopsRun u.faults u.run.op f = false) : Follows [.inl f] u (raised f u) := by
  have hc : course u u.run.count u.faults u.run.op [.inl f] =
      (Faults.take f u.run.count u.run.op u.faults, u.run.op, [faultTold u.faults u.run.count u.run.op f]) := by
    rw [course_raise, h]
    rfl
  refine ⟨?_, ?_, ?_, rfl, rfl, rfl, rfl, rfl, rfl, fun _ => ⟨rfl, rfl⟩, fun h1 h2 => ?_⟩
  · rw [hc]; rfl
  · rw [hc]; rfl
  · rw [hc]; rfl
  · have h2' : u.run.op = .stopping := h2
    rw [h1] at h2'
    cases h2'

theorem react_low (k : FaultKind) (s : State) (h : 3 ≤ k.level) : react k s = s := by
  unfold react
  split
  · omega
  · omega
  · rfl

/-- A raise of level 3 or 4 is recorded and reported, and does nothing besides (R141, R142). -/
theorem raiseFault_raised {f : Raise} (h : 3 ≤ f.kind.level) (s : State) : raiseFault f s = raised f s := by
  rw [raiseFault_eq, react_low _ _ h, ite_self]

/-- A raise of level 2 to 4 (R139 to R142). -/
theorem raiseFault_follows {f : Raise} (h : 2 ≤ f.kind.level) (u : State) : Follows [.inl f] u (raiseFault f u) := by
  by_cases h3 : 3 ≤ f.kind.level
  · rw [raiseFault_raised h3]
    refine raised_follows ?_
    unfold stopsRun
    rw [show (f.kind.level == 2) = false from by rw [beq_eq_false_iff_ne]; omega]
    rfl
  · have h2 : f.kind.level = 2 := by omega
    rw [raiseFault_eq, h2, react_two _ _ h2]
    by_cases hacc : u.faults.reaction.accepts 2 = true
    · rw [if_pos hacc]
      by_cases hop : u.run.op = .run
      · rw [enterStopping_run f.kind (raised f u) hop]
        have hs : stopsRun u.faults u.run.op f = true := by
          unfold stopsRun
          rw [h2, hacc, hop]
          rfl
        have hc : course u u.run.count u.faults u.run.op [.inl f] = (Faults.take f u.run.count u.run.op u.faults, .stopping,
            faultTold u.faults u.run.count u.run.op f :: (stopReports u u.run.count f.kind ++ [])) := by
          rw [course_raise, hs]
          rfl
        rw [List.append_nil] at hc
        refine ⟨?_, ?_, ?_, rfl, rfl, rfl, rfl, rfl, rfl, fun hx => ?_, fun _ _ => ⟨rfl, rfl⟩⟩
        · rw [hc]; rfl
        · rw [hc]
        · rw [hc]; rfl
        · rw [hop] at hx
          cases hx
      · rw [enterStopping_other f.kind (raised f u) hop]
        refine raised_follows ?_
        unfold stopsRun
        rw [show (u.run.op == .run) = false from by rw [beq_eq_false_iff_ne]; exact hop, Bool.and_false]
    · rw [if_neg hacc]
      refine raised_follows ?_
      unfold stopsRun
      rw [Bool.eq_false_iff.mpr hacc, Bool.and_false, Bool.false_and]

/-- A raise made or not. -/
theorem raiseIf_follows {f : Raise} (h : 2 ≤ f.kind.level) (c : Prop) [Decidable c] (u : State) :
    Follows (if c then [.inl f] else []) u (if c then raiseFault f u else u) := by
  split
  · exact raiseFault_follows h u
  · exact Follows.quiet rfl rfl rfl rfl rfl rfl

end Sys2Proof.Machine
end

section
/-! The drive link controller's work of a cycle close: what becomes of each station, and what is raised and reported. -/

namespace Sys2Proof.Machine

/-! ### One station (R7, R11, R12, R17, R18) -/

/-- The observation a close forms of a station. -/
def closeObs (r : StationRec) (x : LinkStation) : Observation := mergeLanes r.block.lanes r.block.direction x.repA x.repB

/-- The controller's state of a station after the merge. -/
def LinkStation.merged (r : StationRec) (x : LinkStation) : LinkStation :=
  { x with
    obs := some (closeObs r x)
    streakA := if r.block.lanes = .ab then nextStreak (closeObs r x) x.repA.isSome x.streakA else x.streakA
    streakB := if r.block.lanes = .ab then nextStreak (closeObs r x) x.repB.isSome x.streakB else x.streakB }

/-- The controller's state of a station after its service item. -/
def LinkStation.served (x : LinkStation) : LinkStation :=
  { x with outstanding := match x.outstanding with
    | none => none
    | some o => if (serviceEnds o x.obs).isSome then none else some { o with age := o.age + 1 } }

/-- The raises of a station's merge. -/
def mergeActs (n : Station) (r : StationRec) (x : LinkStation) : List (Raise ⊕ ReportBody) :=
  (if x.streakA = 63 ∧ (x.merged r).streakA = 64 then
    [.inl { kind := .laneDegraded, station := some n, lane := some .a }] else []) ++
  (if x.streakB = 63 ∧ (x.merged r).streakB = 64 then
    [.inl { kind := .laneDegraded, station := some n, lane := some .b }] else [])

/-- The report of a station's service item that completes. -/
def serveActs (n : Station) (x : LinkStation) : List (Raise ⊕ ReportBody) :=
  match x.outstanding with
  | some o => ((serviceEnds o x.obs).map fun y => .inr (.serviceDone n o.item y.1 y.2)).toList
  | none => []

/-- What the drive link controller's work may change: its stations, the fault list with what is shown of it, and the reports. -/
def Linked (s t : State) : Prop := t = { s with
  link := { s.link with st := t.link.st }, faults := t.faults, comp := t.comp
  port := { s.port with reports := t.port.reports, lost := t.port.lost } }

theorem Linked.refl (s : State) : Linked s s := rfl

theorem Linked.trans {s t u : State} (h : Linked s t) (k : Linked t u) : Linked s u := by
  unfold Linked at h k ⊢
  rw [h] at k
  exact k

theorem raised_linked (f : Raise) (s : State) : Linked s (raised f s) := by
  unfold Linked raised
  rw [show s.port.tell s.params.reportLevel (faultTold s.faults s.run.count s.run.op f) = _ from
    tellAll_frame s.params.reportLevel [faultTold s.faults s.run.count s.run.op f] s.port]
  rfl

theorem submit_linked (b : ReportBody) (s : State) : Linked s (submit b s) := by
  unfold submit
  split
  · exact Linked.refl s
  · split <;> rfl

theorem setLinkStation_follows (n : Station) (x : LinkStation) (s : State) : Follows [] s (setLinkStation n x s) :=
  Follows.quiet rfl rfl rfl rfl rfl rfl

/-- LANE_DEGRADED raised or not: what follows, and what stays. -/
theorem degradedIf_told {f : Raise} (h : f.kind = .laneDegraded) (c : Prop) [Decidable c] (u : State) :
    Follows (if c then [.inl f] else []) u (if c then raiseFault f u else u) ∧
      Linked u (if c then raiseFault f u else u) ∧ (if c then raiseFault f u else u).link = u.link := by
  refine ⟨raiseIf_follows (by rw [h]; decide) c u, ?_, ?_⟩
  · split
    · rw [raiseFault_raised (by rw [h]; decide)]
      exact raised_linked f u
    · exact Linked.refl u
  · split
    · rw [raiseFault_raised (by rw [h]; decide)]
      rfl
    · rfl

theorem degrades_iff (obs : Observation) (lane : Bool) (k : Nat) :
    degrades obs lane k = true ↔ k = 63 ∧ nextStreak obs lane k = 64 := by
  unfold degrades
  rw [Bool.and_eq_true, beq_iff_eq, beq_iff_eq]

/-- The merge of one station: its raises, its new state in the controller, and nothing else. -/
theorem mergeStation_told (n : Station) (r : StationRec) (s : State) :
    Follows (mergeActs n r s.link.st[n]) s (mergeStation n r s) ∧ Linked s (mergeStation n r s) ∧
      (mergeStation n r s).link.st = s.link.st.set n (s.link.st[n].merged r) := by
  have hset : Linked s (setLinkStation n (s.link.st[n].merged r) s) := rfl
  have hquiet := setLinkStation_follows n (s.link.st[n].merged r) s
  by_cases hl : r.block.lanes = .ab
  · have hmerge : mergeStation n r s =
        (let u := setLinkStation n (s.link.st[n].merged r) s
         let v := if s.link.st[n].streakA = 63 ∧ (s.link.st[n].merged r).streakA = 64
           then raiseFault { kind := .laneDegraded, station := some n, lane := some .a } u else u
         if s.link.st[n].streakB = 63 ∧ (s.link.st[n].merged r).streakB = 64
           then raiseFault { kind := .laneDegraded, station := some n, lane := some .b } v else v) := by
      unfold mergeStation LinkStation.merged closeObs
      simp only [hl, degrades_iff, if_true]
    rw [hmerge]
    obtain ⟨a1, a2, a3⟩ := degradedIf_told (f := { kind := .laneDegraded, station := some n, lane := some .a }) rfl
      (s.link.st[n].streakA = 63 ∧ (s.link.st[n].merged r).streakA = 64) (setLinkStation n (s.link.st[n].merged r) s)
    dsimp only
    generalize (if s.link.st[n].streakA = 63 ∧ (s.link.st[n].merged r).streakA = 64
      then raiseFault { kind := .laneDegraded, station := some n, lane := some .a } (setLinkStation n (s.link.st[n].merged r) s)
      else setLinkStation n (s.link.st[n].merged r) s) = v at a1 a2 a3 ⊢
    obtain ⟨b1, b2, b3⟩ := degradedIf_told (f := { kind := .laneDegraded, station := some n, lane := some .b }) rfl
      (s.link.st[n].streakB = 63 ∧ (s.link.st[n].merged r).streakB = 64) v
    refine ⟨(hquiet.before a1).trans b1, (hset.trans a2).trans b2, ?_⟩
    rw [b3, a3]
    rfl
  · have hmerge : mergeStation n r s = setLinkStation n (s.link.st[n].merged r) s := by
      unfold mergeStation LinkStation.merged closeObs
      simp only [hl, if_false]
      cases hb : r.block.lanes
      · rfl
      · rfl
      · exact absurd hb hl
    have hacts : mergeActs n r s.link.st[n] = [] := by
      unfold mergeActs LinkStation.merged
      simp only [hl, if_false]
      rw [if_neg (by omega), if_neg (by omega)]
      rfl
    rw [hmerge, hacts]
    exact ⟨hquiet, hset, rfl⟩

/-- How an outstanding item stands after a close, by the observation's response. -/
theorem advance_eq (o : Outstanding) (obs : Option Observation) :
    o.advance (obs.bind Observation.response) = match serviceEnds o obs with
      | some y => .inr y
      | none => .inl { o with age := o.age + 1 } := by
  have hlate : (if o.age + 1 = 4 then (.inr (.timeout, o.item.value) : Outstanding ⊕ (ServiceResult × Int))
      else .inl { o with age := o.age + 1 }) =
      match (if o.age = 3 then some (.timeout, o.item.value) else none : Option (ServiceResult × Int)) with
      | some y => .inr y
      | none => .inl { o with age := o.age + 1 } := by
    by_cases h : o.age = 3
    · simp [h]
    · simp [h]
  unfold Outstanding.advance serviceEnds
  cases obs with
  | none => exact hlate
  | some b =>
    cases b with
    | silent => exact hlate
    | disagree => exact hlate
    | valid count force drive trip resp =>
      cases resp with
      | none => exact hlate
      | some x =>
        dsimp only [Option.bind, Observation.response]
        by_cases h : x.index = o.item.index
        · rw [if_pos h, if_pos h]
        · rw [if_neg h, if_neg h]
          exact hlate

theorem served_none {x : LinkStation} (h : x.outstanding = none) : x.served = x := by
  obtain ⟨outA, outB, repA, repB, obs, streakA, streakB, waiting, outstanding⟩ := x
  subst h
  rfl

theorem served_some {x : LinkStation} {o : Outstanding} (h : x.outstanding = some o) : x.served = { x with
    outstanding := if (serviceEnds o x.obs).isSome then none else some { o with age := o.age + 1 } } := by
  unfold LinkStation.served
  rw [h]

theorem serviceStation_none {n : Station} {s : State} (h : s.link.st[n].outstanding = none) : serviceStation n s = s := by
  unfold serviceStation
  simp only [h]

theorem serviceStation_some {n : Station} {s : State} {o : Outstanding} (h : s.link.st[n].outstanding = some o) :
    serviceStation n s = match serviceEnds o s.link.st[n].obs with
      | some y => submit (.serviceDone n o.item y.1 y.2) (setLinkStation n { s.link.st[n] with outstanding := none } s)
      | none => setLinkStation n { s.link.st[n] with outstanding := some { o with age := o.age + 1 } } s := by
  unfold serviceStation
  simp only [h, advance_eq]
  cases serviceEnds o s.link.st[n].obs <;> rfl

/-- The service item of one station: its report, its new state in the controller, and nothing else. -/
theorem serviceStation_told (n : Station) (s : State) :
    Follows (serveActs n s.link.st[n]) s (serviceStation n s) ∧ Linked s (serviceStation n s) ∧
      (serviceStation n s).link.st = s.link.st.set n s.link.st[n].served := by
  cases ho : s.link.st[n].outstanding with
  | none =>
    have hserved := served_none ho
    have hacts : serveActs n s.link.st[n] = [] := by
      unfold serveActs
      rw [ho]
    rw [serviceStation_none ho, hserved, hacts]
    exact ⟨Follows.quiet rfl rfl rfl rfl rfl rfl, Linked.refl s, (Vector.set_getElem_self ..).symm⟩
  | some o =>
    rw [serviceStation_some ho, served_some ho]
    unfold serveActs
    rw [ho]
    dsimp only
    cases he : serviceEnds o s.link.st[n].obs with
    | none => exact ⟨setLinkStation_follows n _ s, rfl, rfl⟩
    | some y =>
      have h := submit_follows (.serviceDone n o.item y.1 y.2) (setLinkStation n { s.link.st[n] with outstanding := none } s)
      refine ⟨(setLinkStation_follows n _ s).before h,
        Linked.trans (t := setLinkStation n { s.link.st[n] with outstanding := none } s) rfl (submit_linked _ _), ?_⟩
      dsimp only
      rw [submit_tell]
      rfl

/-! ### All stations (R4) -/

/-- The controller's state of a station after a close. -/
def LinkStation.closed (r : StationRec) (x : LinkStation) : LinkStation := (x.merged r).served

/-- What a close raises and reports of one station. -/
def stationActs (s : State) (n : Station) : List (Raise ⊕ ReportBody) :=
  match s.stations[n] with
  | some r => mergeActs n r s.link.st[n] ++ serveActs n (s.link.st[n].merged r)
  | none => []

/-- The controller's state of every number after a close. -/
def closedStation (s : State) (n : Station) : LinkStation :=
  match s.stations[n] with
  | some r => s.link.st[n].closed r
  | none => s.link.st[n]

theorem closeLink_told (s : State) :
    Follows (stationList.flatMap (stationActs s)) s (closeLink s) ∧ Linked s (closeLink s) ∧
      ∀ n : Station, (closeLink s).link.st[n] = closedStation s n := by
  let Q (l : List Station) (t : State) : Prop := Follows (l.flatMap (stationActs s)) s t ∧ Linked s t ∧
    ∀ n : Station, t.link.st[n] = if n ∈ l then closedStation s n else s.link.st[n]
  have h : Q stationList (closeLink s) := by
    unfold closeLink
    refine eachStation_progress (Q := Q) ⟨Follows.quiet rfl rfl rfl rfl rfl rfl, Linked.refl s, fun n => by simp⟩
      fun l n t hn ⟨hf, hl, hst⟩ => ?_
    have hstations : t.stations = s.stations := by rw [hl]
    have hx : t.link.st[n] = s.link.st[n] := by rw [hst n, if_neg hn]
    have hmem : ∀ k, k ∈ l ++ [n] ↔ k ∈ l ∨ n = k := fun k => by
      rw [List.mem_append, List.mem_singleton, eq_comm (a := k)]
    have hflat : (l ++ [n]).flatMap (stationActs s) = l.flatMap (stationActs s) ++ stationActs s n := by
      rw [List.flatMap_append, List.flatMap_singleton]
    unfold stationTurn
    rw [hstations]
    cases hr : s.stations[n] with
    | none =>
      have hacts : stationActs s n = [] := by unfold stationActs; rw [hr]
      have hclosed : closedStation s n = s.link.st[n] := by unfold closedStation; rw [hr]
      refine ⟨by rw [hflat, hacts, List.append_nil]; exact hf, hl, fun k => ?_⟩
      dsimp only
      rw [hst k]
      by_cases hk : n = k
      · subst hk
        rw [if_neg hn, if_pos ((hmem n).mpr (.inr rfl)), hclosed]
      · simp only [hmem, hk, or_false]
    | some r =>
      have hacts : stationActs s n = mergeActs n r s.link.st[n] ++ serveActs n (s.link.st[n].merged r) := by
        unfold stationActs; rw [hr]
      have hclosed : closedStation s n = s.link.st[n].closed r := by unfold closedStation; rw [hr]
      obtain ⟨m1, m2, m3⟩ := mergeStation_told n r t
      rw [hx] at m1 m3
      have mx : (mergeStation n r t).link.st[n] = s.link.st[n].merged r := by rw [m3, Vector.set_get, if_pos rfl]
      obtain ⟨v1, v2, v3⟩ := serviceStation_told n (mergeStation n r t)
      rw [mx] at v1 v3
      refine ⟨?_, (hl.trans m2).trans v2, fun k => ?_⟩
      · rw [hflat, hacts, ← List.append_assoc]
        exact (hf.trans m1).trans v1
      · dsimp only
        rw [v3, Vector.set_get]
        by_cases hk : n = k
        · subst hk
          rw [if_pos rfl, if_pos ((hmem n).mpr (.inr rfl)), hclosed]
          rfl
        · rw [if_neg hk, m3, Vector.set_get, if_neg hk, hst k]
          simp only [hmem, hk, or_false]
  obtain ⟨hf, hl, hst⟩ := h
  exact ⟨hf, hl, fun n => by rw [hst n, if_pos (mem_stationList n)]⟩

theorem closed_streakA (r : StationRec) (x : LinkStation) : (x.closed r).streakA = (x.merged r).streakA := rfl
theorem closed_streakB (r : StationRec) (x : LinkStation) : (x.closed r).streakB = (x.merged r).streakB := rfl
theorem closed_obs (r : StationRec) (x : LinkStation) : (x.closed r).obs = some (closeObs r x) := rfl
theorem closed_waiting (r : StationRec) (x : LinkStation) : (x.closed r).waiting = x.waiting := rfl

theorem closed_outstanding (r : StationRec) (x : LinkStation) : (x.closed r).outstanding = match x.outstanding with
    | none => none
    | some o => if (serviceEnds o (some (closeObs r x))).isSome then none else some { o with age := o.age + 1 } := rfl

/-- The raises and reports of the drive link controller's work, as the statements give them. -/
theorem linkActs_eq {s t : State} (h : ∀ n : Station, t.link.st[n] = closedStation s n) :
    linkActs s t = stationList.flatMap (stationActs s) := by
  unfold linkActs
  refine List.flatMap_congr fun n _ => ?_
  have hn := h n
  unfold closedStation at hn
  unfold stationActs
  rw [hn]
  cases hr : s.stations[n] with
  | none => rfl
  | some r =>
    unfold mergeActs serveActs
    simp only [reduceCtorEq, if_false, closed_streakA, closed_streakB, closed_obs]
    rfl

end Sys2Proof.Machine
end

section
/-! The judging stage of a cycle computation: the events of a judging, and what carrying them out leaves. -/

namespace Sys2Proof.Machine

/-! ### The events of a judging (R62, R71) -/

/-- An event a judging makes: a raise of level 3, or a change of lock state made by no request. -/
def StationEvent.ofJudging : StationEvent → Prop
  | .fault f => f.kind.level = 3
  | .changed _ _ reason => reason.byRequest = false

/-- Every event is one that a judging makes. -/
def Judging.sound (j : Judging) : Prop := ∀ e ∈ j.events, e.ofJudging

theorem Judging.sound_put {j : Judging} (h : j.sound) (r : StationRec) : (j.put r).sound := h

theorem Judging.sound_move {j : Judging} (h : j.sound) (r : StationRec) {reason : StationReason}
    (hr : reason.byRequest = false) : (j.move r reason).sound := by
  intro e he
  rcases List.mem_append.mp he with h1 | h1
  · exact h e h1
  · rw [List.mem_singleton.mp h1]
    exact hr

theorem cause_level (c : StationCause) : c.kind.level = 3 := by
  cases c <;> rfl

theorem Judging.sound_fault {j : Judging} (h : j.sound) (n : Station) (op : OpState) (c : StationCause) : (j.fault n op c).sound := by
  refine Judging.sound_move (fun e he => ?_) _ rfl
  rcases List.mem_append.mp he with h1 | h1
  · exact h e h1
  · rw [List.mem_singleton.mp h1]
    exact cause_level c

theorem Judging.sound_ite {c : Prop} [Decidable c] {j k : Judging} (hj : j.sound) (hk : k.sound) : (if c then j else k).sound := by
  split
  · exact hj
  · exact hk

theorem trimChange_sound (ppm : Int) (r : StationRec) : (trimChange ppm r).sound := by
  have h0 : ∀ r : StationRec, (⟨r, []⟩ : Judging).sound := fun r e he => by cases he
  unfold trimChange
  dsimp only
  refine Judging.sound_ite (h0 r) ?_
  cases r.state with
  | locked => exact Judging.sound_move (h0 _) _ rfl
  | slip => exact Judging.sound_move (h0 _) _ rfl
  | capture => exact Judging.sound_put (h0 _) _
  | idle => exact Judging.sound_put (h0 _) _
  | faulted => exact Judging.sound_put (h0 _) _

section
variable {j : Judging} (h : j.sound) (n : Station) (p : Params) (op : OpState)
include h

theorem formError_sound : (j.formError n op).sound :=
  Judging.sound_ite (Judging.sound_ite (Judging.sound_fault (Judging.sound_put h _) n op _) (Judging.sound_put h _)) h

theorem tripped_sound (drive : DriveState) : (j.tripped n op drive).sound := Judging.sound_ite (Judging.sound_fault h n op _) h

theorem missed_sound (limit : Nat) (cause : MissCause) : (j.missed n op limit cause).sound :=
  Judging.sound_ite (Judging.sound_ite (Judging.sound_fault (Judging.sound_put h _) n op _) (Judging.sound_put h _))
    (Judging.sound_put h _)

theorem captureStep_sound (speed : Option Int) : (j.captureStep n p op speed).sound :=
  Judging.sound_ite (Judging.sound_ite (Judging.sound_move (Judging.sound_put h _) _ rfl)
    (Judging.sound_ite (Judging.sound_fault (Judging.sound_put h _) n op _) (Judging.sound_put h _))) h

theorem windows_sound : (j.windows p).sound := by
  unfold Judging.windows
  split
  · exact Judging.sound_ite (Judging.sound_move h _ rfl) h
  · exact Judging.sound_ite (Judging.sound_move h _ rfl) h
  · exact h

theorem slipStep_sound (began : LockState) : (j.slipStep n p op began).sound :=
  Judging.sound_ite (Judging.sound_ite (Judging.sound_fault (Judging.sound_put h _) n op _) (Judging.sound_put h _)) h

theorem accept_sound (now count : Word32) (force : Int) (drive : DriveState) (trip : Nat) :
    (j.accept n op now count force drive trip).sound :=
  tripped_sound (formError_sound (Judging.sound_put h _) n op) n op drive

theorem observe_sound (now : Word32) (obs : Observation) : (j.observe n p op now obs).sound := by
  have hrest : ∀ (k : Judging) speed began, k.sound → (((k.captureStep n p op speed).windows p).slipStep n p op began).sound :=
    fun k speed began hk => slipStep_sound (windows_sound (captureStep_sound hk n p op speed) p) n p op began
  unfold Judging.observe
  cases obs with
  | silent => exact hrest _ _ _ (missed_sound h n op _ _)
  | disagree => exact hrest _ _ _ (missed_sound h n op _ _)
  | valid count force drive trip resp =>
    dsimp only
    exact Judging.sound_ite (hrest _ _ _ (accept_sound h n op now count force drive trip))
      (hrest _ _ _ (missed_sound h n op _ _))

end

theorem judge_sound (n : Station) (p : Params) (op : OpState) (now : Word32) (obs : Observation) (r : StationRec) :
    (judge n p op now obs r).sound := observe_sound (Judging.sound_put (trimChange_sound _ r) _) n p op now obs

/-! ### A judging carried out -/

/-- What the judging stage may change where no computation is in progress: records, the fault list, reports. -/
def Judged (s t : State) : Prop := t = { s with
  stations := t.stations, faults := t.faults, port := { s.port with reports := t.port.reports, lost := t.port.lost } }

theorem Judged.refl (s : State) : Judged s s := rfl

theorem Judged.trans {s t u : State} (h : Judged s t) (k : Judged t u) : Judged s u := by
  unfold Judged at h k ⊢
  rw [h] at k
  exact k

theorem submit_judged (b : ReportBody) (s : State) : Judged s (submit b s) := by
  unfold submit
  split
  · exact Judged.refl s
  · split <;> rfl

theorem raised_judged (f : Raise) (s : State) (hc : s.comp = none) : Judged s (raised f s) := by
  have hl := raised_linked f s
  have hcomp : (raised f s).comp = s.comp := by
    show s.comp.map _ = s.comp
    rw [hc]
    rfl
  unfold Linked at hl
  rw [hcomp] at hl
  exact hl

/-- What a judging's event raises or reports hangs on the period and the monitor alone. -/
theorem judgedAct_congr {s t : State} (hcell : t.cell = s.cell) (hm : t.monitor = s.monitor) (n : Station) (v : Int) :
    judgedAct t n v = judgedAct s n v := by
  funext e
  unfold judgedAct
  rw [hcell, hm]

theorem Judged.act {s t : State} (h : Judged s t) (n : Station) : judgedAct t n t.axle.v = judgedAct s n s.axle.v := by
  have haxle : t.axle = s.axle := by rw [h]
  have hstore : t.store = s.store := by rw [h]
  have hmonitor : t.monitor = s.monitor := by rw [h]
  rw [haxle]
  exact judgedAct_congr (cell_of_store hstore) hmonitor n s.axle.v

theorem stationEvent_told (n : Station) (e : StationEvent) (s : State) (he : e.ofJudging) (hc : s.comp = none) :
    Follows [judgedAct s n s.axle.v e] s (stationEvent n e s) ∧ Judged s (stationEvent n e s) ∧
      (stationEvent n e s).stations = s.stations := by
  cases e with
  | fault f =>
    have hl : 3 ≤ f.kind.level := Nat.le_of_eq (Eq.symm he)
    have hf := raiseFault_follows (f := f) (by omega) s
    show Follows [.inl f] s (raiseFault f s) ∧ Judged s (raiseFault f s) ∧ (raiseFault f s).stations = s.stations
    refine ⟨hf, ?_, ?_⟩
    · rw [raiseFault_raised hl]
      exact raised_judged f s hc
    · rw [raiseFault_raised hl]
      rfl
  | changed old r reason =>
    have hs : stationEvent n (.changed old r reason) s = submit (.station n old r.state reason
        (if r.state = .faulted then r.cause else none) r.e r.measured ((s.axle.v * 9).tdiv (65536 * 25 * s.cell.period))
          s.monitor.summaries[r.block.axle]) s := by
      have ha : s.axleSeen = s.axle := (seen_none hc).1
      show submit _ s = _
      rw [ha, show reason.byRequest = false from he]
      rfl
    rw [hs]
    refine ⟨submit_follows _ s, submit_judged _ s, ?_⟩
    rw [submit_tell]

theorem applyJudging_told (n : Station) (j : Judging) (s : State) (hj : j.sound) (hc : s.comp = none) :
    Follows (j.events.map (judgedAct s n s.axle.v)) s (applyJudging n j s) ∧ Judged s (applyJudging n j s) ∧
      (applyJudging n j s).stations = s.stations.set n (some j.r) := by
  have go : ∀ (l : List StationEvent) (t : State), (∀ e ∈ l, e.ofJudging) → Judged s t →
      Follows (l.map (judgedAct s n s.axle.v)) t (l.foldl (fun s e => stationEvent n e s) t) ∧
        Judged s (l.foldl (fun s e => stationEvent n e s) t) ∧
        (l.foldl (fun s e => stationEvent n e s) t).stations = t.stations := by
    intro l
    induction l with
    | nil => exact fun t _ ht => ⟨Follows.quiet rfl rfl rfl rfl rfl rfl, ht, rfl⟩
    | cons e rest ih =>
      intro t hl ht
      have hact : judgedAct t n t.axle.v = judgedAct s n s.axle.v := ht.act n
      obtain ⟨h1, h2, h3⟩ := stationEvent_told n e t (hl e (by simp)) (by rw [ht]; exact hc)
      obtain ⟨h4, h5, h6⟩ := ih (stationEvent n e t) (fun x hx => hl x (by simp [hx])) (ht.trans h2)
      rw [hact] at h1
      exact ⟨h1.trans h4, h5, h6.trans h3⟩
  have hset : Follows [] s (setStation n j.r s) := Follows.quiet rfl rfl rfl rfl rfl rfl
  obtain ⟨h1, h2, h3⟩ := go j.events (setStation n j.r s) hj rfl
  exact ⟨hset.before h1, h2, h3⟩

/-! ### The judging stage (R48) -/

/-- What the judging of one station raises and reports. -/
def judgeActs (s : State) (n : Station) : List (Raise ⊕ ReportBody) :=
  match s.stations[n] with
  | some r => (s.judging n r).events.map (judgedAct s n s.axle.v)
  | none => []

theorem judgeStage_told (s : State) (hc : s.comp = none) :
    Follows (stationList.flatMap (judgeActs s)) s (judgeStage s) ∧ Judged s (judgeStage s) := by
  let Q (l : List Station) (t : State) : Prop := Follows (l.flatMap (judgeActs s)) s t ∧ Judged s t ∧
    t.run = s.run ∧ ∀ n : Station, n ∉ l → t.stations[n] = s.stations[n]
  have h : Q stationList (judgeStage s) := by
    unfold judgeStage
    refine eachStation_progress (Q := Q) ⟨Follows.quiet rfl rfl rfl rfl rfl rfl, Judged.refl s, rfl, fun _ _ => rfl⟩
      fun l n t hn ⟨hf, hj, hr, hst⟩ => ?_
    have hflat : (l ++ [n]).flatMap (judgeActs s) = l.flatMap (judgeActs s) ++ judgeActs s n := by
      rw [List.flatMap_append, List.flatMap_singleton]
    have hlater : ∀ m : Station, m ∉ l ++ [n] → m ∉ l ∧ n ≠ m := fun m hm =>
      ⟨fun h => hm (List.mem_append_left _ h), fun h => hm (by simp [h])⟩
    unfold stationTurn
    rw [hst n hn]
    cases hs : s.stations[n] with
    | none =>
      have hacts : judgeActs s n = [] := by unfold judgeActs; rw [hs]
      exact ⟨by rw [hflat, hacts, List.append_nil]; exact hf, hj, hr, fun m hm => hst m (hlater m hm).1⟩
    | some r =>
      have hjudging : t.judging n r = s.judging n r := by
        unfold State.judging
        rw [hr, show t.params = s.params from by rw [hj], show t.link = s.link from by rw [hj]]
      have hact : judgedAct t n t.axle.v = judgedAct s n s.axle.v := hj.act n
      have hacts : judgeActs s n = (s.judging n r).events.map (judgedAct s n s.axle.v) := by unfold judgeActs; rw [hs]
      obtain ⟨h1, h2, h3⟩ := applyJudging_told n (t.judging n r) t (judge_sound n t.params t.run.op t.run.count _ r)
        (by rw [hj]; exact hc)
      dsimp only
      rw [hact, hjudging, ← hacts] at h1
      rw [hjudging] at h2 h3 ⊢
      have hjd := hj.trans h2
      refine ⟨by rw [hflat]; exact hf.trans h1, hjd, by rw [hjd], fun m hm => ?_⟩
      rw [h3, Vector.set_get, if_neg (hlater m hm).2]
      exact hst m (hlater m hm).1
  exact ⟨h.1, h.2.1⟩

end Sys2Proof.Machine
end

section
/-! The cycle computation of a close, stage by stage: what it raises and reports, and what it leaves alone. -/

namespace Sys2Proof.Machine

/-! ### What the stages leave alone -/

/-- The drive link controller, the parameters, the working set and the statistics stand as they did. -/
structure Staged (s t : State) : Prop where
  link : t.link = s.link
  params : t.params = s.params
  store : t.store = s.store
  stats : t.stats = s.stats

theorem Staged.refl (s : State) : Staged s s := ⟨rfl, rfl, rfl, rfl⟩

theorem Staged.trans {s t u : State} (h : Staged s t) (k : Staged t u) : Staged s u :=
  ⟨k.link.trans h.link, k.params.trans h.params, k.store.trans h.store, k.stats.trans h.stats⟩

theorem Reacted.staged {s t : State} (h : Reacted s t) : Staged s t := ⟨h.link, h.params, h.store, h.stats⟩

theorem Reacted.fSum {s t : State} (h : Reacted s t) : t.axle.fSum = s.axle.fSum := by
  rw [h.eq]
  rfl

theorem Judged.staged {s t : State} (h : Judged s t) : Staged s t := by
  rw [h]
  exact ⟨rfl, rfl, rfl, rfl⟩

theorem raiseIf_reacted (f : Raise) (c : Prop) [Decidable c] (s : State) : Reacted s (if c then raiseFault f s else s) := by
  split
  · exact raiseFault_reacted f s
  · exact Reacted.refl s

/-! ### The axle stage (R28, R37) -/

theorem roundDiv_nonneg {n d : Int} (hn : 0 ≤ n) (hd : 0 < d) : 0 ≤ roundDiv n d := by
  unfold roundDiv
  rw [if_pos hn]
  exact Int.ediv_nonneg (by omega) (by omega)

/-- The SPEED step moves V as the statements say it. -/
theorem moveToward_eq (v target step : Int) (h : 0 ≤ step) : moveToward v target step =
    if ((v - target).natAbs : Int) ≤ step then target else if v < target then v + step else v - step := by
  unfold moveToward
  split_ifs <;> omega

theorem axleResult_overspeed (s : State) (h : s.run.op = .run) : s.axleResult.overspeed = overspeeds s s.forceSum := by
  unfold State.axleResult overspeeds
  rw [if_neg (by rw [h]; simp)]
  cases s.run.mode with
  | road => rfl
  | speed =>
    dsimp only
    have hstep : 0 ≤ accelStep s.params.accelLimit s.period := by
      have hp : 0 ≤ s.period := Int.natCast_nonneg _
      exact roundDiv_nonneg (by positivity) (by norm_num)
    unfold speedStep limited
    dsimp only
    rw [moveToward_eq _ _ _ hstep]
    rfl

theorem axleStage_told (s : State) :
    Follows (if s.run.op = .run ∧ overspeeds s (axleStage s).axle.fSum = true then [.inl { kind := .overspeed }] else []) s
      (axleStage s) ∧ Staged s (axleStage s) ∧ (axleStage s).monitor = s.monitor := by
  by_cases hin : s.run.op.inRun = true
  · have heq : axleStage s = if s.axleResult.overspeed = true
        then raiseFault { kind := .overspeed } { s with axle := s.axle.advance s.forceSum s.axleResult }
        else { s with axle := s.axle.advance s.forceSum s.axleResult } := by
      unfold axleStage
      rw [if_pos hin]
    have hstep : Follows [] s { s with axle := s.axle.advance s.forceSum s.axleResult } :=
      Follows.quiet rfl rfl rfl rfl rfl rfl
    have hr := raiseIf_reacted { kind := .overspeed } (s.axleResult.overspeed = true)
      { s with axle := s.axle.advance s.forceSum s.axleResult }
    have hf := raiseIf_follows (f := { kind := .overspeed }) (by decide) (s.axleResult.overspeed = true)
      { s with axle := s.axle.advance s.forceSum s.axleResult }
    rw [← heq] at hr hf
    refine ⟨?_, ⟨hr.link, hr.params, hr.store, hr.stats⟩, hr.monitor⟩
    have hsum : (axleStage s).axle.fSum = s.forceSum := hr.fSum
    have hcond : (s.run.op = .run ∧ overspeeds s s.forceSum = true) ↔ s.axleResult.overspeed = true := by
      rcases (inRun_iff _).mp hin with h | h
      · rw [axleResult_overspeed s h]
        exact and_iff_right h
      · have hstop : s.axleResult.overspeed = false := by
          unfold State.axleResult
          rw [if_pos h]
          rfl
        rw [hstop, h]
        simp
    rw [hsum]
    simp only [hcond]
    exact hstep.before hf
  · have heq : axleStage s = { s with axle := { s.axle with v := 0, adv := 0 } } := by
      unfold axleStage
      rw [if_neg hin]
    have hcond : ¬(s.run.op = .run ∧ overspeeds s (axleStage s).axle.fSum = true) := fun h => hin (by rw [h.1]; rfl)
    rw [if_neg hcond, heq]
    exact ⟨Follows.quiet rfl rfl rfl rfl rfl rfl, ⟨rfl, rfl, rfl, rfl⟩, rfl⟩

/-! ### The wind-up monitor's stage (R81, R86, R87) -/

/-- The monitor renewed, nothing yet raised. -/
def monitored (s : State) : State := { s with monitor := s.monitorNext }

/-- WINDUP raised where it is due, WINDUP_WARN not yet. -/
def winding (s : State) : State :=
  if s.windsUp s.monitorNext = true then raiseFault { kind := .windup, detail := spreadDetail s.monitorNext } (monitored s)
  else monitored s

theorem windupStage_eq (s : State) : windupStage s = if s.warns s.monitorNext = true
    then raiseFault { kind := .windupWarn, detail := spreadDetail s.monitorNext } (winding s) else winding s := rfl

theorem windsUp_iff (s : State) : s.windsUp s.monitorNext = true ↔
    s.monitor.timer = s.cell.windupTime ∧ s.monitorNext.timer = s.cell.windupTime + 1 := by
  unfold State.windsUp
  rw [Bool.and_eq_true, beq_iff_eq, beq_iff_eq]

theorem warns_iff (s : State) : s.warns s.monitorNext = true ↔ s.monitor.warn = false ∧ s.monitorNext.warn = true := by
  unfold State.warns
  rw [Bool.and_eq_true, Bool.not_eq_true', and_comm]

/-- The raises of the monitor's stage, and what it leaves alone. -/
theorem windupStage_told (s : State) :
    Follows ((if s.monitor.timer = s.cell.windupTime ∧ s.monitorNext.timer = s.cell.windupTime + 1 then
        [.inl { kind := .windup, detail := spreadDetail s.monitorNext }] else []) ++
      (if s.monitor.warn = false ∧ s.monitorNext.warn = true then
        [.inl { kind := .windupWarn, detail := spreadDetail s.monitorNext }] else [])) s (windupStage s) ∧
      Reacted (monitored s) (windupStage s) := by
  have hquiet : Follows [] s (monitored s) := Follows.quiet rfl rfl rfl rfl rfl rfl
  have h1 : Follows _ (monitored s) (winding s) := raiseIf_follows (f := { kind := .windup, detail := spreadDetail s.monitorNext })
    (by show 2 ≤ 2; omega) (s.windsUp s.monitorNext = true) (monitored s)
  have r1 : Reacted (monitored s) (winding s) := raiseIf_reacted _ (s.windsUp s.monitorNext = true) (monitored s)
  have h2 := raiseIf_follows (f := { kind := .windupWarn, detail := spreadDetail s.monitorNext }) (by show 2 ≤ 4; omega)
    (s.warns s.monitorNext = true) (winding s)
  have r2 := raiseIf_reacted { kind := .windupWarn, detail := spreadDetail s.monitorNext } (s.warns s.monitorNext = true) (winding s)
  rw [← windupStage_eq] at h2 r2
  simp only [windsUp_iff] at h1
  simp only [warns_iff] at h2
  exact ⟨(hquiet.before h1).trans h2, r1.trans r2⟩

/-! ### The lock counts (R171, R172) -/

theorem reports_follow (l : List ReportBody) (u : State) : Follows (l.map .inr) u { u with
    port := u.port.tellAll u.params.reportLevel (l.map fun b => (u.run.count, u.run.op, b)) } := by
  have hc : course u u.run.count u.faults u.run.op (l.map .inr) =
      (u.faults, u.run.op, l.map fun b => (u.run.count, u.run.op, b)) := by
    induction l with
    | nil => rfl
    | cons b rest ih => rw [List.map_cons, course_report, ih]; rfl
  refine ⟨by rw [hc], by rw [hc], by rw [hc], rfl, rfl, rfl, rfl, rfl, rfl, fun _ => ⟨rfl, rfl⟩, fun h1 h2 => ?_⟩
  have h2' : u.run.op = .stopping := h2
  rw [h1] at h2'
  cases h2'

theorem countLocks_told (s : State) : Follows ((firstCuts s (countLocks s)).map .inr) s (countLocks s) ∧
    Counted s (countLocks s) := by
  obtain ⟨hf, hc, hp⟩ := countEach_told (lockCounts s) s
  rw [countLocks_eq]
  generalize countEach (lockCounts s) s = u at hf hc hp
  have hcuts : firstCuts s u = counterList.filterMap (firstCut (lockCounts s) s) := firstCuts_counted hc
  have h := reports_follow (firstCuts s u) s
  have hfaults : u.faults = s.faults := by rw [hf]
  have hrun : u.run = s.run := by rw [hf]
  have hparams : u.params = s.params := by rw [hf]
  have hpins : u.pins = s.pins := by rw [hf]
  have hplayer : u.player = s.player := by rw [hf]
  refine ⟨h.after (Follows.quiet hfaults hrun ?_ (by rw [hparams]) (by rw [hpins]) hplayer), hf⟩
  rw [hp, ← hcuts]

/-! ### The computation (R48) -/

/-- What a cycle computation raises and reports, from w to t. -/
def computeActs (w t : State) : List (Raise ⊕ ReportBody) :=
  List.flatten [
    stationList.flatMap (judgeActs w),
    if w.run.op = .run ∧ overspeeds w t.axle.fSum = true then [.inl { kind := .overspeed }] else [],
    if w.monitor.timer = w.cell.windupTime ∧ t.monitor.timer = w.cell.windupTime + 1 then
      [.inl { kind := .windup, detail := spreadDetail t.monitor }] else [],
    if w.monitor.warn = false ∧ t.monitor.warn = true then [.inl { kind := .windupWarn, detail := spreadDetail t.monitor }] else [],
    (firstCuts w t).map .inr]

/-- A stage that changes records alone. -/
def Recorded (s t : State) : Prop := t = { s with stations := t.stations }

theorem gearStage_recorded (s : State) : Recorded s (gearStage s) := rfl
theorem assembleStage_recorded (s : State) : Recorded s (assembleStage s) := rfl

theorem Recorded.follows {s t : State} (h : Recorded s t) : Follows [] s t := by
  rw [h]
  exact Follows.quiet rfl rfl rfl rfl rfl rfl

/-- The step of a SPEED run and the clamp of V' hang on no record, fault or report. -/
theorem overspeeds_judged {s t : State} (h : Judged s t) (f : Int) : overspeeds t f = overspeeds s f := by
  rw [h]
  rfl

theorem firstCuts_congr {s s' t t' : State} (hs : s'.stats = s.stats) (ht : t'.stats = t.stats) : firstCuts s' t' = firstCuts s t := by
  unfold firstCuts
  rw [hs, ht]

theorem stages_told (w : State) (hc : w.comp = none) : Follows (computeActs w (stages w)) w (stages w) ∧
    (stages w).link = w.link := by
  unfold stages
  obtain ⟨f1, j1⟩ := judgeStage_told w hc
  generalize judgeStage w = a at f1 j1 ⊢
  obtain ⟨f2, s2, m2⟩ := axleStage_told a
  generalize axleStage a = b at f2 s2 m2 ⊢
  have g3 := gearStage_recorded b
  generalize gearStage b = c at g3 ⊢
  obtain ⟨f4, r4⟩ := windupStage_told c
  generalize windupStage c = d at f4 r4 ⊢
  have g5 := assembleStage_recorded d
  generalize assembleStage d = e at g5 ⊢
  obtain ⟨f6, c6⟩ := countLocks_told e
  generalize countLocks e = t at f6 c6 ⊢
  have hop : a.run.op = w.run.op := by rw [j1]
  have hcell : c.cell = w.cell := cell_of_store (by rw [g3]; exact s2.store.trans j1.staged.store)
  have hmonitor : c.monitor = w.monitor := by rw [g3]; exact m2.trans (by rw [j1])
  have htmonitor : t.monitor = c.monitorNext := by rw [c6, g5]; exact r4.monitor
  have hsum : t.axle.fSum = b.axle.fSum := by
    rw [c6, g5]
    exact r4.fSum.trans (by rw [g3]; rfl)
  have hstats : e.stats = w.stats := by
    rw [g5]
    exact r4.stats.trans (by rw [monitored, g3]; exact s2.stats.trans j1.staged.stats)
  have hlink : t.link = w.link := by
    rw [c6, g5]
    exact r4.link.trans (by rw [monitored, g3]; exact s2.link.trans j1.staged.link)
  have hcuts : firstCuts w t = firstCuts e t := firstCuts_congr hstats.symm rfl
  refine ⟨?_, hlink⟩
  have hall := ((((f1.trans f2).after g3.follows).trans f4).after g5.follows).trans f6
  rw [hop, overspeeds_judged j1, hcell, hmonitor, ← htmonitor, ← hsum, ← hcuts] at hall
  unfold computeActs
  simp only [List.flatten_cons, List.flatten_nil, List.append_nil]
  simpa only [List.append_assoc] using hall

/-- The state whose stages a computation runs: the parameters in force, the CAPTURE request taken. -/
def computeBegun (s : State) : State :=
  { s with inForce := s.params.inForce, trace := { s.trace with waiting := false } }

/-- What a computation keeps of the state before it beside what its stages leave (R28). -/
def computed (s t : State) : State :=
  { t with
    run := { t.run with fresh := false }
    comp := some
      { began := s.run.op, void := false, standstill := s.run.op == .stopping && t.axle.v == 0, capture := s.trace.waiting,
        records := t.stations, axleBefore := s.axle, monitorBefore := s.monitor, faultsBefore := s.faults,
        recordsBefore := s.stations, stopped := if s.run.op = .run ∧ t.run.op = .stopping then some s.player else none } }

theorem compute_eq (s : State) : compute s = computed s (stages (computeBegun s)) := by
  unfold compute computed computeBegun
  rfl

theorem compute_told (w : State) (hc : w.comp = none) : Follows (computeActs w (compute w)) w (compute w) ∧
    (compute w).link = w.link := by
  obtain ⟨f, hl⟩ := stages_told (computeBegun w) hc
  rw [compute_eq]
  generalize stages (computeBegun w) = t at f hl
  have hbegun : Follows [] w (computeBegun w) := Follows.quiet rfl rfl rfl rfl rfl rfl
  have hkept : Follows [] t (computed w t) := ⟨rfl, rfl, rfl, rfl, rfl, rfl, rfl, rfl, rfl, fun _ => ⟨rfl, rfl⟩, fun h1 h2 => by
    have h2' : t.run.op = .stopping := h2
    rw [h1] at h2'
    cases h2'⟩
  have hacts : computeActs (computeBegun w) t = computeActs w (computed w t) := rfl
  rw [hacts] at f
  exact ⟨(hbegun.before f).after hkept, hl⟩

end Sys2Proof.Machine
end

section
/-! A cycle close up to its computation: the drive link controller's work, the silence count, the settle's work, the run cycle
count in one of its places. -/

namespace Sys2Proof.Machine

/-! ### No computation in progress -/

theorem raiseIf_idle {f : Raise} (h : 3 ≤ f.kind.level) (c : Prop) [Decidable c] {s : State} (hc : s.comp = none) :
    (if c then raiseFault f s else s).comp = none := by
  split
  · rw [raiseFault_raised h]
    show s.comp.map _ = none
    rw [hc]
    rfl
  · exact hc

theorem mergeStation_idle (n : Station) (r : StationRec) {s : State} (hc : s.comp = none) : (mergeStation n r s).comp = none := by
  unfold mergeStation
  dsimp only
  split
  · exact raiseIf_idle (by show 3 ≤ 4; omega) _ (raiseIf_idle (by show 3 ≤ 4; omega) _ hc)
  · exact hc
  · exact hc

theorem serviceStation_idle (n : Station) {s : State} (hc : s.comp = none) : (serviceStation n s).comp = none := by
  cases ho : s.link.st[n].outstanding with
  | none => rw [serviceStation_none ho]; exact hc
  | some o =>
    rw [serviceStation_some ho]
    cases serviceEnds o s.link.st[n].obs with
    | none => exact hc
    | some y =>
      dsimp only
      rw [submit_tell]
      exact hc

theorem closeLink_idle {s : State} (hc : s.comp = none) : (closeLink s).comp = none := by
  unfold closeLink
  refine eachStation_progress (Q := fun _ t => t.comp = none) hc fun l n t _ ht => ?_
  unfold stationTurn
  split
  · exact serviceStation_idle n (mergeStation_idle n _ ht)
  · exact ht

/-! ### The drive link controller's work (R4) -/

/-- What a close raises and reports station by station. -/
def closeActs (s : State) : List (Raise ⊕ ReportBody) := stationList.flatMap (stationActs s)

/-- What they leave of the fault manager, and the reports, at a run cycle count. -/
def closeCourse (s : State) (c : Word32) : Faults × OpState × List Told := course s c s.faults s.run.op (closeActs s)

/-- A state a close has made of s by the drive link controller's work at the run cycle count c, the order count, the silence
count, the settle's count and timer and its own run cycle count apart. -/
structure LinkDone (s : State) (c : Word32) (u : State) : Prop where
  frame : u = { s with
    comp := none, free := u.free, run := u.run, link := { s.link with st := u.link.st }, faults := u.faults, port := u.port }
  run : u.run = { s.run with
    count := u.run.count, settleCount := u.run.settleCount, settleTimer := u.run.settleTimer }
  faults : u.faults = { (closeCourse s c).1 with silence := u.faults.silence }
  port : u.port = s.port.tellAll s.params.reportLevel (closeCourse s c).2.2
  closed : ∀ n : Station, u.link.st[n] = closedStation s n

theorem closeLink_done {s v : State} {k : Nat} {c : Word32}
    (hv : v = { s with comp := none, free := k, run := { s.run with count := c } }) :
    LinkDone s c (closeLink v) ∧ (closeLink v).run.count = c := by
  obtain ⟨hf, hl, hst⟩ := closeLink_told v
  have hcomp := closeLink_idle (s := v) (by rw [hv])
  generalize closeLink v = u at hf hl hst hcomp ⊢
  subst hv
  have hsame : SameReports s { s with comp := none, free := k, run := { s.run with count := c } } s.run.op :=
    fun _ => ⟨rfl, rfl, rfl, rfl⟩
  have hcourse := course_congr hsame c s.faults (closeActs s)
  have hfaults : u.faults = (closeCourse s c).1 := hf.faults.trans (congrArg Prod.fst hcourse)
  have hport : u.port = { s.port with reports := u.port.reports, lost := u.port.lost } := by
    rw [hf.port]
    exact tellAll_frame _ _ _
  unfold Linked at hl
  rw [hcomp] at hl
  dsimp only at hl
  rw [← hport] at hl
  refine ⟨⟨?_, ?_, ?_, hf.port.trans (congrArg
    (fun x : Faults × OpState × List Told => s.port.tellAll s.params.reportLevel x.2.2) hcourse), hst⟩, hf.count⟩
  · rw [hl]
  · rw [hl]
  · rw [hfaults]

/-- Only the run cycle count and the settle's count and timer differ. -/
def Ticked (s t : State) : Prop := t = { s with run := { s.run with
  count := t.run.count, settleCount := t.run.settleCount, settleTimer := t.run.settleTimer } }

theorem countCycle_ticked (s : State) : Ticked s (countCycle s) := by
  unfold countCycle
  split <;> rfl

theorem settleCounted_ticked (s : State) : Ticked s { s with run := s.settleCounted } := rfl

theorem LinkDone.ticked {s u t : State} {c : Word32} (h : LinkDone s c u) (k : Ticked u t) : LinkDone s c t := by
  have hlink : t.link = u.link := by rw [k]
  have hfaults : t.faults = u.faults := by rw [k]
  have hport : t.port = u.port := by rw [k]
  have hrun : t.run = { u.run with
    count := t.run.count, settleCount := t.run.settleCount, settleTimer := t.run.settleTimer } := by rw [k]
  have hframe : t = { u with run := t.run } := by rw [hrun]; exact k
  refine ⟨?_, ?_, by rw [hfaults]; exact h.faults, hport.trans h.port, fun n => by rw [hlink]; exact h.closed n⟩
  · rw [hframe, h.frame]
  · rw [h.run] at hrun
    exact hrun

theorem LinkDone.silenced {s u : State} {c : Word32} (h : LinkDone s c u) (k : Nat) :
    LinkDone s c { u with faults := { u.faults with silence := k } } := by
  refine ⟨?_, h.run, ?_, h.port, h.closed⟩
  · conv_lhs => rw [h.frame]
  · rw [h.faults]

theorem LinkDone.op {s u : State} {c : Word32} (h : LinkDone s c u) : u.run.op = s.run.op := by rw [h.run]

/-! ### The checks (R121, R149) -/

/-- What the checks leave of the state the drive link controller's work has made of s. -/
structure Checked (s x : State) : Prop where
  comp : x.comp = none
  closed : ∀ n : Station, x.link.st[n] = closedStation s n
  params : x.params = s.params
  store : x.store = s.store
  stats : x.stats = s.stats
  monitor : x.monitor = s.monitor
  held : x.pins.resetHeld = s.pins.resetHeld
  tag : x.run.tag = s.run.tag
  mode : x.run.mode = s.run.mode
  fresh : x.run.fresh = s.run.fresh

/-- The checks have not entered SAFE: what stands, and the faults and reports of the drive link controller's work with the
reports l of the checks. -/
structure Unlost (s : State) (c : Word32) (l : List Told) (x : State) : Prop extends Checked s x where
  faults : x.faults = { (closeCourse s c).1 with silence := x.faults.silence }
  port : x.port = s.port.tellAll s.params.reportLevel ((closeCourse s c).2.2 ++ l)
  stations : x.stations = s.stations
  axle : x.axle = s.axle
  player : x.player = s.player
  stopCause : x.run.stopCause = s.run.stopCause
  orderly : x.run.orderly = s.run.orderly

/-- The checks have entered SAFE by a raise at the run cycle count d. -/
structure Lost (s : State) (c d : Word32) (f : Raise) (x : State) : Prop extends Checked s x where
  faults : x.faults = { Faults.take f d s.run.op (closeCourse s c).1 with silence := x.faults.silence }
  port : x.port = s.port.tellAll s.params.reportLevel ((closeCourse s c).2.2 ++
    safeReports { s with faults := (closeCourse s c).1, run := { s.run with count := d } } s.run.op f)
  stations : stationsBecome s x (fun _ r => engagedIn r) idled
  axle : x.axle.v = 0
  op : x.run.op = .safe
  count : x.run.count = d

theorem LinkDone.checked {s u : State} {c : Word32} (h : LinkDone s c u) : Checked s u := by
  have hf := h.frame
  refine ⟨by rw [hf], h.closed, by rw [hf], by rw [hf], by rw [hf], by rw [hf], by rw [hf], by rw [h.run], by rw [h.run],
    by rw [h.run]⟩

/-- No check has come to anything. -/
theorem LinkDone.unlost {s u : State} {c : Word32} (h : LinkDone s c u) : Unlost s c [] u := by
  have hf := h.frame
  exact ⟨h.checked, h.faults, by rw [List.append_nil]; exact h.port, by rw [hf], by rw [hf], by rw [hf], by rw [h.run],
    by rw [h.run]⟩

/-- A check that has raised a fault of level 1. -/
theorem LinkDone.lost {s u : State} {c : Word32} (h : LinkDone s c u) {f : Raise} (hf : f.kind.level = 1)
    (hop : s.run.op.watchesEstop = true) : Lost s c u.run.count f (raiseFault f u) := by
  have hsafe := raiseFault_safe f u hf (by rw [h.op]; exact hop)
  have hk := h.checked
  have hstations : u.stations = s.stations := by rw [h.frame]
  have hreports : safeReports u u.run.op f =
      safeReports { s with faults := (closeCourse s c).1, run := { s.run with count := u.run.count } } s.run.op f := by
    have horderly : u.run.orderly = s.run.orderly := by rw [h.run]
    unfold safeReports
    rw [h.op, h.faults, faultTold_silenced, hk.tag, hk.mode, horderly, hk.monitor]
    unfold stationReports
    rw [hstations, cell_of_store hk.store]
    rfl
  have hlink := hsafe.reacted.link
  refine ⟨⟨(hsafe.resting hk.comp).1, fun n => by rw [hlink]; exact h.closed n, hsafe.reacted.params.trans hk.params,
    hsafe.reacted.store.trans hk.store, hsafe.reacted.stats.trans hk.stats, hsafe.reacted.monitor.trans hk.monitor,
    hsafe.reacted.resetHeld.trans hk.held, ?_, ?_, ?_⟩, ?_, ?_, fun n => ?_, ?_, ?_, ?_⟩
  · rw [hsafe.run]; exact hk.tag
  · rw [hsafe.run]; exact hk.mode
  · rw [hsafe.run]; exact hk.fresh
  · rw [hsafe.faults, h.op, h.faults, take_silenced]
  · rw [hsafe.port, hk.params, h.port, ← tellAll_append, hreports]
  · rw [hsafe.stations n, hstations]
  · rw [(hsafe.resting hk.comp).2]
  · rw [hsafe.run]
  · rw [hsafe.run]

/-- The stations with no valid observation at a close (R121). -/
def silentMask (s : State) : Mask :=
  maskOf fun n => s.has n && !((closedStation s n).obs.map Observation.isValid).getD false

theorem LinkDone.invalidMask {s u : State} {c : Word32} (h : LinkDone s c u) : u.invalidMask = silentMask s := by
  have hst : u.stations = s.stations := by rw [h.frame]
  unfold State.invalidMask silentMask
  congr 1
  funext n
  unfold State.has State.lastValid
  rw [hst, h.closed n]

/-- The raise of a check that takes the part from an operating state to SAFE (R121, R149). -/
def lostRaise (s : State) : Raise :=
  if s.run.op = .settle then { kind := .settleFail, detail := some (.stations (silentMask s)) } else { kind := .linkLost }

/-- How the checks of a close from s, up to the state x, come out. -/
inductive ChecksOut (s : State) (c d : Word32) (x : State) : Prop where
  | quiet (op : x.run.op = s.run.op) (h : Unlost s c [] x)
  | settled (before : s.run.op = .settle) (op : x.run.op = .ready)
      (h : Unlost s c [stateReport s.run .settle .ready .settled] x)
  | lost (before : s.run.op ≠ .safe) (h : Lost s c d (lostRaise s) x)

/-- The silence count's work (R149). -/
theorem LinkDone.silence {s u : State} {c : Word32} (h : LinkDone s c u) : LinkDone s c (silenceUpdate u) ∧
    (silenceUpdate u).run = u.run ∨ s.run.op.enables = true ∧ Lost s c u.run.count { kind := .linkLost } (silenceUpdate u) := by
  unfold silenceUpdate
  dsimp only
  by_cases hl : u.losesLink = true
  · rw [if_pos hl]
    have hen : s.run.op.enables = true := by
      unfold State.losesLink at hl
      rw [h.op] at hl
      simp only [Bool.and_eq_true] at hl
      exact hl.1.1.1
    refine .inr ⟨hen, (h.silenced u.nextSilence).lost rfl ?_⟩
    cases hop : s.run.op <;> rw [hop] at hen <;> first | rfl | cases hen
  · rw [if_neg hl]
    exact .inl ⟨h.silenced u.nextSilence, rfl⟩

/-- SETTLE left for READY, its STATE report submitted (R121). -/
def settledReady (u : State) : State :=
  submitState .settle .settled none false
    { u with run := { u.run with op := .ready }, pins := { u.pins with driveEnable := true } }

theorem settledReady_eq (u : State) : settledReady u = { u with
    run := { u.run with op := .ready }, pins := { u.pins with driveEnable := true }
    port := u.port.tellAll u.params.reportLevel [(u.run.count, .ready,
      .state .settle .ready .settled none u.run.tag u.run.mode u.run.orderly false)] } := by
  unfold settledReady
  rw [submitState_eq, submit_tell]
  rfl

theorem LinkDone.ready {s u : State} {c : Word32} (h : LinkDone s c u) (hcount : u.run.count = s.run.count) :
    Unlost s c [stateReport s.run .settle .ready .settled] (settledReady u) := by
  have hk := h.checked
  have hl := h.unlost
  rw [settledReady_eq]
  refine ⟨⟨hk.comp, hk.closed, hk.params, hk.store, hk.stats, hk.monitor, hk.held, hk.tag, hk.mode, hk.fresh⟩, hl.faults, ?_,
    hl.stations, hl.axle, hl.player, hl.stopCause, hl.orderly⟩
  rw [h.port, hk.params, hcount, hk.tag, hk.mode, hl.orderly, tellAll_append]
  rfl

theorem settleUpdate_eq (u : State) : settleUpdate u = if u.run.op = .settle then
    (if u.settles = true then settledReady { u with run := u.settleCounted }
      else if u.failsSettle = true then
        raiseFault { kind := .settleFail, detail := some (.stations u.invalidMask) } { u with run := u.settleCounted }
      else { u with run := u.settleCounted })
    else u := rfl

/-- The settle's work from a state no check has taken to SAFE (R121). -/
theorem LinkDone.settle {s u : State} {c : Word32} (h : LinkDone s c u) (hcount : s.run.op = .settle → u.run.count = s.run.count) :
    ChecksOut s c u.run.count (settleUpdate u) ∧ (settleUpdate u).run.count = u.run.count := by
  rw [settleUpdate_eq, h.op]
  by_cases hop : s.run.op = .settle
  · rw [if_pos hop]
    have hy := h.ticked (settleCounted_ticked u)
    split
    · refine ⟨.settled hop ?_ (hy.ready (hcount hop)), ?_⟩
      · rw [settledReady_eq]
      · rw [settledReady_eq]
        rfl
    · split
      · have hraise : ({ kind := .settleFail, detail := some (.stations u.invalidMask) } : Raise) = lostRaise s := by
          unfold lostRaise
          rw [if_pos hop, h.invalidMask]
        have hl := hy.lost (f := { kind := .settleFail, detail := some (.stations u.invalidMask) }) rfl (by rw [hop]; rfl)
        refine ⟨.lost (by rw [hop]; simp) ?_, hl.count⟩
        rw [← hraise]
        exact hl
      · exact ⟨.quiet hy.op hy.unlost, rfl⟩
  · rw [if_neg hop]
    exact ⟨.quiet h.op h.unlost, rfl⟩

/-! ### The checks with the run cycle count in one of its places (R123; log 4) -/

/-- The settle's work does nothing outside SETTLE. -/
theorem settleUpdate_other {u : State} (h : u.run.op ≠ .settle) : settleUpdate u = u := by
  rw [settleUpdate_eq, if_neg h]

/-- SAFE entered by the silence count. -/
theorem Lost.out {s x : State} {c d : Word32} (hen : s.run.op.enables = true) (h : Lost s c d { kind := .linkLost } x) :
    ChecksOut s c d (settleUpdate x) ∧ (settleUpdate x).run.count = d := by
  rw [settleUpdate_other (by rw [h.op]; simp)]
  have hraise : lostRaise s = { kind := .linkLost } := by
    unfold lostRaise
    rw [if_neg (by rintro hop; rw [hop] at hen; cases hen)]
  refine ⟨.lost (by rintro hop; rw [hop] at hen; cases hen) ?_, h.count⟩
  rw [hraise]
  exact h

/-- After the silence count's work: the settle's work, or nothing where SAFE is entered. -/
theorem LinkDone.check {s u : State} {c : Word32} (h : LinkDone s c u) (hcount : s.run.op = .settle → u.run.count = s.run.count) :
    ChecksOut s c u.run.count (settleUpdate (silenceUpdate u)) ∧ (settleUpdate (silenceUpdate u)).run.count = u.run.count := by
  rcases h.silence with ⟨hd, hrun⟩ | ⟨hen, hl⟩
  · have hset := hd.settle (by rw [hrun]; exact hcount)
    rwa [hrun] at hset
  · exact hl.out hen

theorem countCycle_other {u : State} (h : u.run.op.inRun = false) : countCycle u = u := by
  unfold countCycle
  rw [h]
  rfl

theorem countCycle_begun (s : State) (k : Nat) : ∃ c : Word32, (s.run.op.inRun = false → c = s.run.count) ∧
    countCycle { s with comp := none, free := k } = { s with comp := none, free := k, run := { s.run with count := c } } := by
  unfold countCycle
  split
  · next h =>
    have h' : s.run.op.inRun = true := h
    exact ⟨s.run.count + 1, fun hn => (by rw [h'] at hn; cases hn), rfl⟩
  · exact ⟨s.run.count, fun _ => rfl, rfl⟩

/-- A cycle close up to its computation: at the run cycle count c the link's raises and reports, at d those of the checks. -/
theorem closeChecks_out (order : CountOrder) (s : State) (k : Nat) (h : s.run.op.inRun = false → order = .beforeLink) :
    ∃ c d : Word32, ∃ x, closeChecks order { s with comp := none, free := k } = x ∧ (c = s.run.count ∨ c = x.run.count) ∧
      (d = s.run.count ∨ d = x.run.count) ∧ ChecksOut s c d x := by
  have hsettle : order ≠ .beforeLink → s.run.op ≠ .settle := fun ho hs => ho (h (by rw [hs]; rfl))
  unfold closeChecks
  cases order with
  | beforeLink =>
    dsimp only
    obtain ⟨c, hc, hcount⟩ := countCycle_begun s k
    obtain ⟨hd, hdc⟩ := closeLink_done hcount
    generalize closeLink (countCycle { s with comp := none, free := k }) = u at hd hdc ⊢
    obtain ⟨hout, hx⟩ := hd.check fun hop => by rw [hdc]; exact hc (by rw [hop]; rfl)
    rw [hdc] at hout hx
    exact ⟨c, c, _, rfl, .inr hx.symm, .inr hx.symm, hout⟩
  | beforeSilence =>
    dsimp only
    obtain ⟨hd, -⟩ := closeLink_done (s := s) (v := { s with comp := none, free := k }) rfl
    generalize closeLink { s with comp := none, free := k } = u at hd ⊢
    obtain ⟨hout, hx⟩ := (hd.ticked (countCycle_ticked u)).check fun hop => absurd hop (hsettle (by simp))
    exact ⟨s.run.count, _, _, rfl, .inl rfl, .inr hx.symm, hout⟩
  | afterSilence =>
    dsimp only
    obtain ⟨hd, hdc⟩ := closeLink_done (s := s) (v := { s with comp := none, free := k }) rfl
    generalize closeLink { s with comp := none, free := k } = u at hd hdc ⊢
    rcases hd.silence with ⟨hq, hrun⟩ | ⟨hen, hl⟩
    · obtain ⟨hout, hx⟩ := (hq.ticked (countCycle_ticked _)).settle fun hop => absurd hop (hsettle (by simp))
      exact ⟨s.run.count, _, _, rfl, .inl rfl, .inr hx.symm, hout⟩
    · rw [hdc] at hl
      obtain ⟨hout, _⟩ := hl.out hen
      rw [countCycle_other (u := silenceUpdate u) (by rw [hl.op]; rfl)]
      exact ⟨s.run.count, s.run.count, _, rfl, .inl rfl, .inl rfl, hout⟩

end Sys2Proof.Machine
end

section
/-! CYCLE_CLOSE: the checks and the computation put together, and everything a close raises and reports. -/

namespace Sys2Proof.Machine

/-! ### The computation after the checks -/

/-- The raises and reports of the computation, as the statements give them from the state before the close. -/
theorem Checked.core {s x t : State} (h : Checked s x) (safe : Bool) (hcount : t.run.count = x.run.count)
    (hlink : t.link = x.link)
    (hst : ∀ n : Station, x.stations[n] = s.stations[n].map fun r => if safe && engagedIn r then idled r else r)
    (hv : x.axle.v = if safe then 0 else s.axle.v)
    (hover : x.run.op = .run → overspeeds x t.axle.fSum = overspeeds s t.axle.fSum) :
    computeActs x t = coreActs s t x.run.op safe := by
  have hcell := cell_of_store h.store
  have hspeed : (x.run.op = .run ∧ overspeeds x t.axle.fSum = true) ↔ (x.run.op = .run ∧ overspeeds s t.axle.fSum = true) :=
    and_congr_right fun hop => by rw [hover hop]
  unfold computeActs coreActs
  rw [h.monitor, hcell, firstCuts_congr h.stats rfl]
  simp only [hspeed]
  refine congrArg List.flatten (congrArg₂ List.cons (List.flatMap_congr fun n _ => ?_) rfl)
  unfold judgeActs State.judging
  rw [hst n, hlink, hcount, h.params, hv, judgedAct_congr hcell h.monitor, h.closed n]
  unfold closedStation
  cases s.stations[n] <;> rfl

/-- The step of a SPEED run and the clamp of V' where the run, the axle, the player and the parameters stand. -/
theorem Unlost.overspeeds {s x : State} {c : Word32} {l : List Told} (h : Unlost s c l x) (f : Int) :
    overspeeds x f = overspeeds s f := by
  have hcell := cell_of_store h.store
  unfold Machine.overspeeds speedMoved
  rw [h.mode, h.params, hcell, h.axle, h.fresh, h.player]

theorem Unlost.core {s x t : State} {c : Word32} {l : List Told} (h : Unlost s c l x) (hcount : t.run.count = x.run.count)
    (hlink : t.link = x.link) : computeActs x t = coreActs s t x.run.op false :=
  h.toChecked.core false hcount hlink (fun n => by rw [h.stations]; simp) (by rw [h.axle]; rfl) fun _ => h.overspeeds _

theorem Lost.core {s x t : State} {c d : Word32} {f : Raise} (h : Lost s c d f x) (hcount : t.run.count = x.run.count)
    (hlink : t.link = x.link) : computeActs x t = coreActs s t .safe true := by
  rw [← h.op]
  exact h.toChecked.core true hcount hlink (fun n => by rw [h.stations n]; rfl) (by rw [h.axle]; rfl)
    fun hop => by rw [h.op] at hop; cases hop

/-- Raises and reports made from the state the checks leave, seen from the state before the close. -/
theorem Follows.fromClose {acts : List (Raise ⊕ ReportBody)} {s x t : State} {m : Faults} {l : List Told} (h : Follows acts x t)
    (hf : x.faults = { m with silence := x.faults.silence }) (hp : x.port = s.port.tellAll s.params.reportLevel l)
    (hl : x.params = s.params) (hs : SameReports s x x.run.op) :
    t.faults = { (course s t.run.count m x.run.op acts).1 with silence := t.faults.silence } ∧
      t.run.op = (course s t.run.count m x.run.op acts).2.1 ∧
      t.port = s.port.tellAll s.params.reportLevel (l ++ (course s t.run.count m x.run.op acts).2.2) := by
  have hc := course_silenced s t.run.count m x.run.op x.faults.silence acts
  rw [← hf, ← course_congr hs] at hc
  have hfaults := h.faults
  have hop := h.op
  have hport := h.port
  rw [← h.count] at hfaults hop hport
  rw [hc] at hfaults hop hport
  refine ⟨?_, hop, ?_⟩
  · rw [hfaults]
  · rw [hport, hl, hp, tellAll_append]

/-! ### The close -/

/-- A cycle close while the link runs: the checks, then the computation (R4, R28). -/
theorem cycleClose_out (s : State) (h : s.link.running = true) : ∃ (c d : Word32) (x : State),
    exec .cycleClose s = .next (pumpTx (compute x)) ∧ (c = s.run.count ∨ c = x.run.count) ∧
      (d = s.run.count ∨ d = x.run.count) ∧ ChecksOut s c d x := by
  have hexec : exec .cycleClose s = .next (pumpTx (cycleCloseWith Config.countOrder s)) := by
    show done _ = _
    rw [if_pos h]
    rfl
  rw [hexec]
  unfold cycleCloseWith
  dsimp only
  by_cases hin : s.run.op.inRun = true
  · rw [if_pos hin]
    obtain ⟨c, d, x, hx, hc, hd, hout⟩ := closeChecks_out (Config.countOrder s.free) s (s.free + 1)
      fun hn => by rw [hin] at hn; cases hn
    rw [hx]
    exact ⟨c, d, x, rfl, hc, hd, hout⟩
  · rw [if_neg hin]
    obtain ⟨c, d, x, hx, hc, hd, hout⟩ := closeChecks_out .beforeLink s s.free fun _ => rfl
    rw [hx]
    exact ⟨c, d, x, rfl, hc, hd, hout⟩

theorem ChecksOut.checked {s x : State} {c d : Word32} (h : ChecksOut s c d x) : Checked s x := by
  cases h with
  | quiet op h => exact h.toChecked
  | settled before op h => exact h.toChecked
  | lost before h => exact h.toChecked

/-- A cycle close leaves the drive link controller's stations as its own work does. -/
theorem cycleClose_link (s : State) (h : s.link.running = true) : ∃ t, exec .cycleClose s = .next t ∧
    ∀ n : Station, t.link.st[n] = closedStation s n := by
  obtain ⟨c, d, x, hexec, _, _, hout⟩ := cycleClose_out s h
  have hk := hout.checked
  have hlink := (compute_told x hk.comp).2
  exact ⟨_, hexec, fun n => by rw [pumpTx_link, hlink, hk.closed n]⟩

/-- The stations without a valid observation, by what the close has stored. -/
theorem silentMask_iff {s t : State} (h : ∀ n : Station, t.link.st[n] = closedStation s n) (n : Station) :
    inMask (silentMask s) n = true ↔
      s.stations[n] ≠ none ∧ ¬∃ k f x y z, t.link.st[n].obs = some (.valid k f x y z) := by
  unfold silentMask
  rw [inMask_maskOf, Bool.and_eq_true, h n]
  refine and_congr ?_ ?_
  · unfold State.has
    cases s.stations[n] <;> simp
  · cases hobs : (closedStation s n).obs with
    | none => simp
    | some b => cases b <;> simp [Observation.isValid]

end Sys2Proof.Machine
end

section
/-! O52: what CYCLE_CLOSE raises and reports. -/

namespace Sys2Proof.Machine

/-- A close that has not entered SAFE: the checks' reports l, then the computation's. -/
theorem Unlost.told {s x u : State} {c : Word32} {l : List Told} (h : Unlost s c l x)
    (hf : Follows (computeActs x u) x u) (hlink : u.link = x.link) :
    let core := course s u.run.count (closeCourse s c).1 x.run.op (coreActs s u x.run.op false)
    u.faults = { core.1 with silence := u.faults.silence } ∧ u.run.op = core.2.1 ∧
      u.port = s.port.tellAll s.params.reportLevel ((closeCourse s c).2.2 ++ l ++ core.2.2) := by
  rw [h.core hf.count hlink] at hf
  exact hf.fromClose h.faults h.port h.params fun hrun => ⟨h.tag, h.mode, h.orderly, h.player⟩

/-- A close that has entered SAFE: the raise that takes it there with its reports, then the computation's. -/
theorem Lost.told {s x u : State} {c d : Word32} {f : Raise} (h : Lost s c d f x) (hf : Follows (computeActs x u) x u)
    (hlink : u.link = x.link) :
    let core := course s u.run.count (Faults.take f d s.run.op (closeCourse s c).1) .safe (coreActs s u .safe true)
    u.faults = { core.1 with silence := u.faults.silence } ∧ u.run.op = core.2.1 ∧
      u.port = s.port.tellAll s.params.reportLevel ((closeCourse s c).2.2 ++
        safeReports { s with faults := (closeCourse s c).1, run := { s.run with count := d } } s.run.op f ++ core.2.2) := by
  rw [h.core hf.count hlink] at hf
  have hsame : SameReports s x x.run.op := fun hrun => by rw [h.op] at hrun; cases hrun
  have hall := hf.fromClose h.faults h.port h.params hsame
  rwa [h.op] at hall

/-- What a course leaves of the operating state: the one it starts from, or STOPPING from RUN. -/
theorem Follows.begun {acts : List (Raise ⊕ ReportBody)} {s x u : State} (h : Follows acts x u)
    (hop : x.run.op = s.run.op ∨ x.run.op = .ready ∨ x.run.op = .safe) :
    (if u.run.op = .stopping then s.run.op else u.run.op) = x.run.op := by
  rcases h.op_cases with h1 | ⟨h1, h2⟩
  · rw [h1]
    split
    · next hs => rcases hop with h | h | h <;> rw [h] at hs <;> first | exact h.symm | cases hs
    · rfl
  · rw [if_pos h2]
    rcases hop with h | h | h
    · exact h.symm
    · rw [h1] at h
      cases h
    · rw [h1] at h
      cases h

/-! ### The account of a close -/

/-- The reports of the checks, SAFE entered by them or not, the operating state after the close given. -/
def checksTold (s : State) (c d : Word32) (safe : Bool) (op : OpState) : List Told :=
  if safe then safeReports { s with faults := (closeCourse s c).1, run := { s.run with count := d } } s.run.op (lostRaise s)
  else if s.run.op = .settle ∧ op = .ready then [stateReport s.run .settle .ready .settled] else []

/-- What the computation of a close from s to u makes of fault manager, operating state and reports. -/
def coreCourse (s u : State) (c d : Word32) (safe : Bool) (judged : OpState) : Faults × OpState × List Told :=
  course s u.run.count (if safe then Faults.take (lostRaise s) d s.run.op (closeCourse s c).1 else (closeCourse s c).1) judged
    (coreActs s u judged safe)

/-- What a close raises and reports, from s to u, SAFE entered by the checks or not, the operating state of its judging given. -/
structure CloseTold (s u : State) (c d : Word32) (safe : Bool) (judged : OpState) : Prop where
  faults : u.faults = { (coreCourse s u c d safe judged).1 with silence := u.faults.silence }
  op : u.run.op = (coreCourse s u c d safe judged).2.1
  stays : safe = false → u.run.op = s.run.op → u.run.stopCause = s.run.stopCause ∧ u.player = s.player
  stops : s.run.op = .run → u.run.op = .stopping → u.run.stopCause = some .fault ∧ u.player = playerStopped s.player
  port : u.port = s.port.tellAll s.params.reportLevel
    ((closeCourse s c).2.2 ++ checksTold s c d safe u.run.op ++ (coreCourse s u c d safe judged).2.2)

/-- A course from another state than RUN stays in it. -/
theorem Follows.op_other {acts : List (Raise ⊕ ReportBody)} {x u : State} (h : Follows acts x u) (hop : x.run.op ≠ .run) :
    u.run.op = x.run.op := h.op_cases.resolve_right fun hstop => hop hstop.1

section
variable {s x u : State} {c d : Word32} (hf : Follows (computeActs x u) x u) (hlink : u.link = x.link)
include hf hlink

theorem Unlost.quiet_told (hop : x.run.op = s.run.op) (h : Unlost s c [] x) : CloseTold s u c d false x.run.op := by
  have hnil : checksTold s c d false u.run.op = [] := by
    refine (if_neg (by simp)).trans (if_neg ?_)
    rintro ⟨hsettle, hready⟩
    rw [hf.op_other (by rw [hop, hsettle]; simp), hop, hsettle] at hready
    cases hready
  obtain ⟨hfaults, hopen, hport⟩ := h.told hf hlink
  refine ⟨hfaults, hopen, fun _ hsame => ?_, fun hrun hstop => ?_, by rw [hnil]; exact hport⟩
  · obtain ⟨hplayer, hcause⟩ := hf.stays (hsame.trans hop.symm)
    exact ⟨hcause.trans h.stopCause, hplayer.trans h.player⟩
  · obtain ⟨hplayer, hcause⟩ := hf.stops (hop.trans hrun) hstop
    exact ⟨hcause, by rw [hplayer, h.player]⟩

theorem Unlost.settled_told (before : s.run.op = .settle) (hop : x.run.op = .ready)
    (h : Unlost s c [stateReport s.run .settle .ready .settled] x) : CloseTold s u c d false x.run.op := by
  have hready : u.run.op = .ready := (hf.op_other (by rw [hop]; simp)).trans hop
  have hchecks : checksTold s c d false u.run.op = [stateReport s.run .settle .ready .settled] :=
    (if_neg (by simp)).trans (if_pos ⟨before, hready⟩)
  obtain ⟨hfaults, hopen, hport⟩ := h.told hf hlink
  refine ⟨hfaults, hopen, fun _ hsame => ?_, fun hrun _ => ?_, by rw [hchecks]; exact hport⟩
  · rw [hready, before] at hsame
    cases hsame
  · rw [before] at hrun
    cases hrun

theorem Lost.close_told (h : Lost s c d (lostRaise s) x) : CloseTold s u c d true x.run.op := by
  have hsafe : u.run.op = .safe := (hf.op_other (by rw [h.op]; simp)).trans h.op
  obtain ⟨hfaults, hopen, hport⟩ := h.told hf hlink
  rw [h.op]
  refine ⟨hfaults, hopen, fun hfalse => absurd hfalse (by simp), fun _ hstop => ?_, hport⟩
  rw [hsafe] at hstop
  cases hstop

theorem ChecksOut.told (h : ChecksOut s c d x) : CloseTold s u c d (s.run.op != .safe && u.run.op == .safe) x.run.op := by
  cases h with
  | quiet op h =>
    have hsafe : (s.run.op != .safe && u.run.op == .safe) = false := by
      rcases hf.op_cases with hsame | ⟨_, hstop⟩
      · rw [hsame, op]
        cases s.run.op <;> rfl
      · rw [hstop]
        exact Bool.and_false _
    rw [hsafe]
    exact h.quiet_told hf hlink op
  | settled before op h =>
    have hready : u.run.op = .ready := (hf.op_other (by rw [op]; simp)).trans op
    rw [hready, before]
    exact h.settled_told hf hlink before op
  | lost before h =>
    have hsafe : u.run.op = .safe := (hf.op_other (by rw [h.op]; simp)).trans h.op
    rw [hsafe, show (s.run.op != .safe && (OpState.safe == .safe)) = true from by simp [before]]
    exact h.close_told hf hlink

end

/-- The operating state in which a close judges, by the one it leaves. -/
theorem ChecksOut.judged {s x u : State} {c d : Word32} {acts : List (Raise ⊕ ReportBody)} (hf : Follows acts x u)
    (h : ChecksOut s c d x) : (if u.run.op = .stopping then s.run.op else u.run.op) = x.run.op :=
  hf.begun (match h with
    | .quiet op _ => .inl op
    | .settled _ op _ => .inr (.inl op)
    | .lost _ h => .inr (.inr h.op))

theorem coreActs_pumped (s u : State) (op : OpState) (safe : Bool) : coreActs s (pumpTx u) op safe = coreActs s u op safe := by
  unfold coreActs firstCuts
  simp only [pumpTx_link, pumpTx_run, pumpTx_axle, pumpTx_monitor, pumpTx_stats]

/-- Settles O52: the link's work, the checks' outcome and the computation, each as a course of raises and reports. -/
theorem cycleCloseRaisesAndReports : Obligations.CycleCloseRaisesAndReports := by
  intro s hrunning
  obtain ⟨c, d, x, hexec, hc, hd, hout⟩ := cycleClose_out s hrunning
  have hk := hout.checked
  obtain ⟨hf, hlink⟩ := compute_told x hk.comp
  generalize compute x = u at hexec hf hlink
  have hclosed : ∀ n : Station, (pumpTx u).link.st[n] = closedStation s n := fun n => by
    rw [pumpTx_link, hlink, hk.closed n]
  have hall := hout.told hf hlink
  rw [← hout.judged hf] at hall
  obtain ⟨hfaults, hop, hstays, hstops, hport⟩ := hall
  refine ⟨pumpTx u, c, d, silentMask s, hexec, by rw [pumpTx_run, hf.count]; exact hc, by rw [pumpTx_run, hf.count]; exact hd,
    silentMask_iff hclosed, ?_⟩
  have hemits := emits_of_tellAll hport (hf.held.trans hk.held)
  dsimp only
  rw [coreActs_pumped, pumpTx_faults, pumpTx_run, pumpTx_player, linkActs_eq hclosed]
  exact ⟨hfaults, hop, hstays, hstops, hemits⟩

end Sys2Proof.Machine
end

section
/-! O21 and O22: the observations a close forms, its streaks, and the LANE_DEGRADED entries of the fault list. -/

namespace Sys2Proof.Machine

/-! ### Observations (R7, R8, R9) -/

theorem limitMag_eq (m x : Int) (h : 0 ≤ m) : limitMag m x = max (-m) (min m x) := by
  unfold limitMag clampInt
  split_ifs <;> omega

/-- A count of the other direction (R9). -/
theorem neg_count (c : Word32) : -c = BitVec.ofNat 32 (4294967296 - c.toNat) := by
  apply BitVec.eq_of_toNat_eq
  rw [BitVec.toNat_neg, BitVec.toNat_ofNat]

/-- A report in the vehicle-forward sense. -/
theorem observe_eq (x : StationReport) (d : Direction) : x.observe d =
    let f := max (-500000) (min 500000 x.force)
    if d = .normal then .valid x.count f x.drive x.trip x.response
    else .valid (BitVec.ofNat 32 (4294967296 - x.count.toNat)) (-f) x.drive x.trip x.response := by
  unfold StationReport.observe
  rw [limitMag_eq _ _ (by norm_num), neg_count]
  cases d <;> rfl

/-- The merge by the lanes in use, a lane not in use bringing no report. -/
theorem mergeLanes_eq (lanes : LaneUse) (d : Direction) (a b : Option StationReport) :
    mergeLanes lanes d a b = match if lanes = .b then none else a, if lanes = .a then none else b with
      | none, none => .silent
      | some x, none => x.observe d
      | none, some y => y.observe d
      | some x, some y => if x = y then x.observe d else .disagree := by
  cases lanes <;> cases a <;> cases b <;> rfl

/-- Settles O21: the link's work stores the merged observation, and nothing later in the close changes it. -/
theorem closeFormsObservations : Obligations.CloseFormsObservations := by
  intro s hrunning
  obtain ⟨t, hexec, hclosed⟩ := cycleClose_link s hrunning
  refine ⟨t, hexec, fun n r hr => ?_⟩
  have hobs : t.link.st[n].obs = some (closeObs r s.link.st[n]) := by
    rw [hclosed n]
    unfold closedStation
    rw [hr]
    rfl
  rw [hobs]
  unfold closeObs
  rw [mergeLanes_eq]
  simp only [observe_eq] <;> rfl

/-! ### The fault list (R144 to R146) -/

/-- A repeat renews one entry with the raise's identity. -/
theorem repeatIn_some {f : Raise} {now : Word32} {i : Nat} {l : List FaultEntry} {p : List FaultEntry × Nat × Nat}
    (h : repeatIn f now i l = some p) :
    ∃ as e bs, l = as ++ e :: bs ∧ e.matches f = true ∧ p.1 = as ++ e.again f now :: bs := by
  induction l generalizing i p with
  | nil => cases h
  | cons e rest ih =>
    rw [repeatIn] at h
    split at h
    · next hm =>
      cases h
      exact ⟨[], e, rest, rfl, hm, rfl⟩
    · obtain ⟨q, hq, rfl⟩ := Option.map_eq_some_iff.mp h
      obtain ⟨as, x, bs, hl, hx, hp⟩ := ih hq
      exact ⟨e :: as, x, bs, by rw [hl]; rfl, hx, by rw [hp]; rfl⟩

/-- A raise renews an entry, makes a new one, or overflows the list. -/
theorem take_entries (f : Raise) (now : Word32) (op : OpState) (m : Faults) :
    let x := Faults.take f now op m
    (x.overflow = m.overflow ∧ ((∃ as e bs, m.entries = as ++ e :: bs ∧ e.matches f = true ∧
        x.entries = as ++ e.again f now :: bs) ∨ x.entries = m.entries ++ [newEntry f now op])) ∨
      x.overflow = true := by
  unfold Faults.take recordRaise
  dsimp only
  cases h : repeatIn f now 0 m.entries with
  | some p =>
    obtain ⟨as, e, bs, hl, hx, hp⟩ := repeatIn_some h
    exact .inl ⟨rfl, .inl ⟨as, e, bs, hl, hx, hp⟩⟩
  | none =>
    dsimp only
    split
    · exact .inl ⟨rfl, .inr rfl⟩
    · exact .inr rfl

theorem matches_iff (e : FaultEntry) (f : Raise) :
    e.matches f = true ↔ e.kind = f.kind ∧ e.station = f.station ∧ e.lane = f.lane := by
  unfold FaultEntry.matches
  simp only [Bool.and_eq_true, beq_iff_eq, and_assoc]

/-- The list holds what has been raised. -/
theorem take_listed (f : Raise) (now : Word32) (op : OpState) (m : Faults) :
    listed (Faults.take f now op m) f.kind f.station f.lane f.detail := by
  intro hov
  rcases take_entries f now op m with ⟨_, ⟨as, e, bs, _, hm, hx⟩ | hx⟩ | ho
  · obtain ⟨h1, h2, h3⟩ := (matches_iff e f).mp hm
    exact ⟨e.again f now, by rw [hx]; simp, h1, h2, h3, rfl⟩
  · exact ⟨newEntry f now op, by rw [hx]; simp, rfl, rfl, rfl, rfl⟩
  · rw [ho] at hov
    cases hov

section
variable {m : Faults} {k : FaultKind} {n : Option Station} {lane : Option Lane} {d : Option Detail}

/-- The list keeps what it holds, if later raises of that kind carry the same detail. -/
theorem listed_take (h : listed m k n lane d) {f : Raise} (hd : f.kind = k → f.detail = d) (now : Word32) (op : OpState) :
    listed (Faults.take f now op m) k n lane d := by
  intro hov
  rcases take_entries f now op m with ⟨ho, hx⟩ | ho
  · obtain ⟨e, he, h1, h2, h3, h4⟩ := h (ho ▸ hov)
    rcases hx with ⟨as, y, bs, hl, hm, hx⟩ | hx
    · rw [hl] at he
      rw [hx]
      rcases List.mem_append.mp he with ha | hb
      · exact ⟨e, List.mem_append_left _ ha, h1, h2, h3, h4⟩
      rcases List.mem_cons.mp hb with rfl | hb
      · have hkind := ((matches_iff e f).mp hm).1
        exact ⟨e.again f now, by simp, h1, h2, h3, hd (hkind ▸ h1)⟩
      · exact ⟨e, List.mem_append_right _ (List.mem_cons_of_mem _ hb), h1, h2, h3, h4⟩
    · exact ⟨e, by rw [hx]; exact List.mem_append_left _ he, h1, h2, h3, h4⟩
  · rw [ho] at hov
    cases hov

/-- The raises of a course that are of a kind carry one detail. -/
def OneDetail (l : List (Raise ⊕ ReportBody)) (k : FaultKind) (d : Option Detail) : Prop :=
  ∀ f, .inl f ∈ l → f.kind = k → f.detail = d

theorem OneDetail.tail {x : Raise ⊕ ReportBody} {l : List (Raise ⊕ ReportBody)} (h : OneDetail (x :: l) k d) : OneDetail l k d :=
  fun f hf => h f (List.mem_cons_of_mem _ hf)

theorem course_keeps (s : State) (count : Word32) {l : List (Raise ⊕ ReportBody)} (hl : OneDetail l k d) {m : Faults} (op : OpState)
    (h : listed m k n lane d) : listed (course s count m op l).1 k n lane d := by
  induction l generalizing m op with
  | nil => exact h
  | cons x rest ih =>
    cases x with
    | inl f =>
      rw [course_raise]
      exact ih hl.tail _ (listed_take h (hl f (by simp)) count op)
    | inr b =>
      rw [course_report]
      exact ih hl.tail _ h

theorem course_listed (s : State) (count : Word32) {l : List (Raise ⊕ ReportBody)} {f : Raise} (hl : OneDetail l f.kind f.detail)
    (hf : .inl f ∈ l) (m : Faults) (op : OpState) : listed (course s count m op l).1 f.kind f.station f.lane f.detail := by
  induction l generalizing m op with
  | nil => cases hf
  | cons x rest ih =>
    cases x with
    | inl g =>
      rw [course_raise]
      rcases List.mem_cons.mp hf with hg | hrest
      · cases hg
        exact course_keeps s count hl.tail _ (take_listed f count op m)
      · exact ih hl.tail hrest _ _
    | inr b =>
      rw [course_report]
      rcases List.mem_cons.mp hf with hg | hrest
      · cases hg
      · exact ih hl.tail hrest _ _

end

/-! ### LANE_DEGRADED at a close (R12) -/

/-- The raises of the computation are of other kinds than LANE_DEGRADED. -/
theorem core_other {s t : State} {op : OpState} {safe : Bool} {f : Raise} (h : .inl f ∈ coreActs s t op safe) :
    f.kind ≠ .laneDegraded := by
  unfold coreActs at h
  simp only [List.flatten_cons, List.flatten_nil, List.append_nil, List.mem_append] at h
  rcases h with h | h | h | h | h
  · obtain ⟨n, _, h⟩ := List.mem_flatMap.mp h
    split at h
    · obtain ⟨e, he, hf⟩ := List.mem_map.mp h
      have hsound := judge_sound _ _ _ _ _ _ e he
      cases e with
      | fault g =>
        cases hf
        intro hk
        have hl : f.kind.level = 3 := hsound
        rw [hk] at hl
        cases hl
      | changed old x reason => cases hf
    · cases h
  · split at h
    · cases List.mem_singleton.mp h
      simp
    · cases h
  · split at h
    · cases List.mem_singleton.mp h
      simp
    · cases h
  · split at h
    · cases List.mem_singleton.mp h
      simp
    · cases h
  · obtain ⟨b, _, hb⟩ := List.mem_map.mp h
    cases hb

/-- The raises of the link's work are LANE_DEGRADED without a detail. -/
theorem link_plain {s t : State} {f : Raise} (h : .inl f ∈ linkActs s t) : f.detail = none := by
  unfold linkActs at h
  obtain ⟨n, _, h⟩ := List.mem_flatMap.mp h
  split at h
  · cases h
  rcases List.mem_append.mp h with h | h
  · rcases List.mem_append.mp h with h | h
    · split at h
      · cases List.mem_singleton.mp h
        rfl
      · cases h
    · split at h
      · cases List.mem_singleton.mp h
        rfl
      · cases h
  · split at h
    · simp at h
    · cases h

/-- LANE_DEGRADED raised by the link's work of a close stands in the fault list it leaves. -/
theorem close_listed {s t : State} (hrunning : s.link.running = true) (hexec : exec .cycleClose s = .next t) {n : Station} {lane : Lane}
    (h : .inl { kind := .laneDegraded, station := some n, lane := some lane } ∈ linkActs s t) :
    listed t.faults .laneDegraded (some n) (some lane) none := by
  obtain ⟨t', c, d, silent, hexec', _, _, _, hall⟩ := cycleCloseRaisesAndReports s hrunning
  rw [hexec] at hexec'
  cases hexec'
  obtain ⟨hfaults, -⟩ := hall
  have hlink := course_listed s c (fun f hf _ => link_plain hf) h s.faults s.run.op
  intro hov
  rw [hfaults] at hov ⊢
  refine course_keeps s t.run.count (fun f hf hk => absurd hk (core_other hf)) _ ?_ hov
  split
  · refine listed_take hlink (fun hk => ?_) d s.run.op
    split at hk <;> cases hk
  · exact hlink

theorem nextStreak_told {obs : Observation} (h : obs.isValid = true) (lane : Bool) (k : Nat) :
    nextStreak obs lane k = if lane then 0 else min 64 (k + 1) := by
  cases obs with
  | valid count force drive trip resp => rfl
  | silent => cases h
  | disagree => cases h

theorem observe_valid (x : StationReport) (d : Direction) : (x.observe d).isValid = true := by
  cases d <;> rfl

/-- Settles O22: the streaks as the link's work leaves them; a raise it makes is recorded and stays so to the close's end. -/
theorem closeUpdatesStreaks : Obligations.CloseUpdatesStreaks := by
  intro s hrunning
  obtain ⟨t, hexec, hclosed⟩ := cycleClose_link s hrunning
  refine ⟨t, hexec, fun n r hr hlanes => ?_⟩
  have hst : t.link.st[n] = s.link.st[n].closed r := by
    rw [hclosed n]
    unfold closedStation
    rw [hr]
  have hmem : ∀ f : Raise ⊕ ReportBody, f ∈ stationActs s n → f ∈ linkActs s t := fun f hf => by
    rw [linkActs_eq hclosed]
    exact List.mem_flatMap.mpr ⟨n, mem_stationList n, hf⟩
  have hacts : stationActs s n = mergeActs n r s.link.st[n] ++ serveActs n (s.link.st[n].merged r) := by
    unfold stationActs
    rw [hr]
  rw [hst, closed_streakA, closed_streakB]
  refine ⟨fun h1 h2 => close_listed hrunning hexec (hmem _ ?_), fun h1 h2 => close_listed hrunning hexec (hmem _ ?_), ?_⟩
  · rw [hacts, mergeActs, if_pos ⟨h1, h2⟩]
    simp
  · rw [hacts, mergeActs, if_pos (c := s.link.st[n].streakB = 63 ∧ _) ⟨h1, h2⟩]
    simp
  · have hA : (s.link.st[n].merged r).streakA =
        nextStreak (closeObs r s.link.st[n]) s.link.st[n].repA.isSome s.link.st[n].streakA := if_pos hlanes
    have hB : (s.link.st[n].merged r).streakB =
        nextStreak (closeObs r s.link.st[n]) s.link.st[n].repB.isSome s.link.st[n].streakB := if_pos hlanes
    rw [hA, hB, closed_obs]
    unfold closeObs
    rw [hlanes]
    cases ha : s.link.st[n].repA with
    | none =>
      cases hb : s.link.st[n].repB with
      | none => exact ⟨rfl, rfl⟩
      | some y =>
        have hv := observe_valid y r.block.direction
        exact ⟨nextStreak_told hv _ _, nextStreak_told hv _ _⟩
    | some x =>
      have hv := observe_valid x r.block.direction
      cases hb : s.link.st[n].repB with
      | none => exact ⟨nextStreak_told hv _ _, nextStreak_told hv _ _⟩
      | some y =>
        by_cases hxy : x = y
        · have hm : mergeLanes .ab r.block.direction (some x) (some y) = x.observe r.block.direction := if_pos hxy
          rw [hm]
          exact ⟨nextStreak_told hv _ _, nextStreak_told hv _ _, fun hne => absurd hxy hne⟩
        · have hm : mergeLanes .ab r.block.direction (some x) (some y) = .disagree := if_neg hxy
          rw [hm]
          exact ⟨rfl, rfl, fun _ => rfl⟩

end Sys2Proof.Machine
end

section
/-! O44: the SERVICE request, an item at a close, and the SERVICE_DONE reports of a close. -/

namespace Sys2Proof.Machine

/-! ### The request (R13) -/

theorem running_iff {s : State} (h : s.run.op ≠ .loading) : s.run.op.running = true ↔ s.run.op ≠ .config := by
  cases hop : s.run.op <;> simp_all [OpState.running]

/-- Whether a station has a record. -/
theorem has_iff (s : State) (n : Station) : s.has n = true ↔ s.stations[n] ≠ none := by
  unfold State.has
  cases s.stations[n] <;> simp

theorem takeService_config {s : State} (n op index : Nat) (v : Int) (h : s.run.op = .config) :
    takeService n op index v s = (s, answer .wrongState) := by
  unfold takeService
  rw [h]
  rfl

theorem takeService_bad {s : State} {n op : Nat} (index : Nat) (v : Int) (h : s.run.op.running = true)
    (hbad : (∀ h : n < 8, s.stations[n] = none) ∨ (op ≠ 1 ∧ op ≠ 2)) :
    takeService n op index v s = (s, answer .badValue) := by
  unfold takeService
  rw [h, Bool.not_true, if_neg (by simp)]
  by_cases hop : op = 1 ∨ op = 2
  · have hnone := hbad.resolve_right fun ⟨h1, h2⟩ => hop.elim h1 h2
    by_cases hn : n < 8
    · have hrec : s.has ⟨n, hn⟩ = false := by
        rw [Bool.eq_false_iff, Ne, has_iff, not_not]
        exact hnone hn
      rw [stationOf_lt hn]
      rcases hop with rfl | rfl <;> simp only [serviceOpOf, hrec, Bool.not_false, if_true]
    · unfold stationOf
      rw [dif_neg hn]
  · have hnone : serviceOpOf op = none := by
      unfold serviceOpOf
      split
      · exact absurd (.inl rfl) hop
      · exact absurd (.inr rfl) hop
      · rfl
    rw [hnone]
    cases stationOf n <;> rfl

/-- The item a request queues. -/
theorem serviceOpOf_item {op : Nat} (h : op = 1 ∨ op = 2) (index : Nat) (v : Int) : ∃ o, serviceOpOf op = some o ∧
    newItem o index v = if op = 1 then ⟨.read, index, 0⟩ else ⟨.write, index, v⟩ := by
  rcases h with rfl | rfl
  · exact ⟨.read, rfl, rfl⟩
  · exact ⟨.write, rfl, rfl⟩

theorem takeService_station {s : State} {n op : Nat} (index : Nat) (v : Int) (h : s.run.op.running = true) (hn : n < 8)
    (hs : s.stations[n] ≠ none) (hop : op = 1 ∨ op = 2) : takeService n op index v s =
      if 2 ≤ s.link.st[n].waiting.length then (s, answer .queueFull)
      else (setLinkStation ⟨n, hn⟩ { s.link.st[n] with
        waiting := s.link.st[n].waiting ++ [if op = 1 then ⟨.read, index, 0⟩ else ⟨.write, index, v⟩] } s, answer .ok) := by
  obtain ⟨o, ho, hitem⟩ := serviceOpOf_item hop index v
  have hrec : s.has ⟨n, hn⟩ = true := (has_iff s ⟨n, hn⟩).mpr hs
  unfold takeService
  rw [h, Bool.not_true, if_neg (by simp), stationOf_lt hn, ho]
  dsimp only
  rw [hrec, Bool.not_true, if_neg (by simp), hitem]
  rfl

/-! ### What a queue gains (R203, R204) -/

theorem told_queued (lost : Nat) (l : List Told) : told (queuedReports lost l) = l := by
  induction l generalizing lost with
  | nil => rfl
  | cons x rest ih => exact congrArg (x :: ·) (ih 0)

/-- Reports submitted are appended, those that find room. -/
theorem tellAll_appended (level : Nat) (l : List Told) (p : Port) :
    ∃ more, (p.tellAll level l).reports = p.reports ++ more ∧ ∀ x ∈ told more, x ∈ l := by
  induction l generalizing p with
  | nil => exact ⟨[], by simp, by simp [told]⟩
  | cons x rest ih =>
    obtain ⟨more, hmore, hin⟩ := ih (p.tell level x)
    have hx : (p.tell level x).reports = p.reports ∨
        (p.tell level x).reports = p.reports ++ [{ lost := p.lost, count := x.1, op := x.2.1, body := x.2.2 }] := by
      unfold Port.tell
      split
      · exact .inl rfl
      · split
        · exact .inr rfl
        · exact .inl rfl
    show ∃ more, ((p.tell level x).tellAll level rest).reports = _ ∧ _
    rw [hmore]
    rcases hx with hx | hx
    · exact ⟨more, by rw [hx], fun y hy => List.mem_cons_of_mem _ (hin y hy)⟩
    · refine ⟨{ lost := p.lost, count := x.1, op := x.2.1, body := x.2.2 } :: more, by rw [hx, List.append_assoc]; rfl,
        fun y hy => ?_⟩
      rcases List.mem_cons.mp hy with rfl | hy
      · exact List.mem_cons_self
      · exact List.mem_cons_of_mem _ (hin y hy)

/-- The reports of one sort in a queue that has gained first l, which finds room, and then m, of which none is of that sort. -/
theorem gained_filter {s : State} {p : Told → Bool} {l m : List Told}
    (hroom : s.port.reports.length + (heard s l).length ≤ 32) (hm : ∀ x ∈ m, p x = false) :
    (told ((s.port.tellAll s.params.reportLevel (l ++ m)).reports.drop s.port.reports.length)).filter p =
      heard s (l.filter p) := by
  have h := congrArg Port.reports (tellAll_room s.params.reportLevel l s.port hroom)
  obtain ⟨more, hmore, hin⟩ := tellAll_appended s.params.reportLevel m (s.port.tellAll s.params.reportLevel l)
  have hnone : (told more).filter p = [] := by
    rw [List.filter_eq_nil_iff]
    intro x hx
    rw [hm x (hin x hx)]
    simp
  have hqueue : told (queuedReports s.port.lost (l.filter fun x => decide (x.2.2.level ≤ s.params.reportLevel)) ++ more) =
      heard s l ++ told more := by
    unfold told
    rw [List.map_append]
    exact congrArg (· ++ _) (told_queued _ _)
  rw [tellAll_append, hmore, h, List.append_assoc, List.drop_left', hqueue, List.filter_append, hnone, List.append_nil]
  · unfold heard
    rw [List.filter_comm]
  · rfl

/-! ### The SERVICE_DONE reports of a course (R19) -/

/-- The SERVICE_DONE reports among some raises and reports. -/
def doneReports (count : Word32) (op : OpState) (l : List (Raise ⊕ ReportBody)) : List Told :=
  l.filterMap fun
    | .inr b => if isServiceDone b then some (count, op, b) else none
    | .inl _ => none

/-- A course of raises of level 3 and 4 makes one report each, and stays in the operating state. -/
theorem course_low (s : State) (count : Word32) (m : Faults) (op : OpState) {l : List (Raise ⊕ ReportBody)}
    (h : ∀ f, .inl f ∈ l → 3 ≤ f.kind.level) : (course s count m op l).2.2.length = l.length ∧
      (course s count m op l).2.2.filter (fun x => isServiceDone x.2.2) = doneReports count op l := by
  induction l generalizing m with
  | nil => exact ⟨rfl, rfl⟩
  | cons x rest ih =>
    have hrest : ∀ f, .inl f ∈ rest → 3 ≤ f.kind.level := fun f hf => h f (List.mem_cons_of_mem _ hf)
    cases x with
    | inl f =>
      have hf := h f List.mem_cons_self
      have hstop : stopsRun m op f = false := by
        unfold stopsRun
        rw [show (f.kind.level == 2) = false from by rw [beq_eq_false_iff_ne]; omega]
        rfl
      obtain ⟨h1, h2⟩ := ih (Faults.take f count op m) hrest
      rw [course_raise, hstop]
      simp only [Bool.false_eq_true, if_false, List.nil_append, List.length_cons]
      exact ⟨by rw [h1], h2⟩
    | inr b =>
      obtain ⟨h1, h2⟩ := ih m hrest
      rw [course_report]
      refine ⟨congrArg (· + 1) h1, ?_⟩
      unfold doneReports at h2 ⊢
      dsimp only
      by_cases hb : isServiceDone b = true
      · rw [List.filter_cons_of_pos (by exact hb), List.filterMap_cons_some (by exact if_pos hb), h2]
      · rw [List.filter_cons_of_neg (by exact hb), List.filterMap_cons_none (by exact if_neg hb), h2]

/-- The report of no act of a list is SERVICE_DONE. -/
def Undone (l : List (Raise ⊕ ReportBody)) : Prop := ∀ b, .inr b ∈ l → isServiceDone b = false

theorem course_undone (s : State) (count : Word32) (m : Faults) (op : OpState) {l : List (Raise ⊕ ReportBody)} (h : Undone l) :
    ∀ x ∈ (course s count m op l).2.2, isServiceDone x.2.2 = false := by
  induction l generalizing m op with
  | nil => intro x hx; cases hx
  | cons y rest ih =>
    have hrest : Undone rest := fun b hb => h b (List.mem_cons_of_mem _ hb)
    cases y with
    | inl f =>
      rw [course_raise]
      intro x hx
      rcases List.mem_cons.mp hx with rfl | hx
      · rfl
      rcases List.mem_append.mp hx with hx | hx
      · split at hx
        · unfold stopReports at hx
          rcases List.mem_append.mp hx with hx | hx
          · split at hx
            · rw [List.mem_singleton.mp hx]; rfl
            · cases hx
          · rw [List.mem_singleton.mp hx]; rfl
        · cases hx
      · exact ih _ _ hrest x hx
    | inr b =>
      rw [course_report]
      intro x hx
      rcases List.mem_cons.mp hx with rfl | hx
      · exact h b List.mem_cons_self
      · exact ih _ _ hrest x hx

theorem core_undone (s t : State) (op : OpState) (safe : Bool) : Undone (coreActs s t op safe) := by
  intro b h
  unfold coreActs at h
  simp only [List.flatten_cons, List.flatten_nil, List.append_nil, List.mem_append] at h
  rcases h with h | h | h | h | h
  · obtain ⟨n, _, h⟩ := List.mem_flatMap.mp h
    split at h
    · obtain ⟨e, _, he⟩ := List.mem_map.mp h
      cases e with
      | fault f => cases he
      | changed old x reason => cases he; rfl
    · cases h
  · split at h
    · cases List.mem_singleton.mp h
    · cases h
  · split at h
    · cases List.mem_singleton.mp h
    · cases h
  · split at h
    · cases List.mem_singleton.mp h
    · cases h
  · obtain ⟨c, hc, hb⟩ := List.mem_map.mp h
    cases hb
    obtain ⟨k, _, hk⟩ := List.mem_filterMap.mp hc
    split at hk
    · cases hk; rfl
    · cases hk

theorem safeReports_undone (s : State) (prev : OpState) (f : Raise) : ∀ x ∈ safeReports s prev f, isServiceDone x.2.2 = false := by
  intro x hx
  unfold safeReports at hx
  rcases List.mem_cons.mp hx with rfl | hx
  · rfl
  rcases List.mem_append.mp hx with hx | hx
  · obtain ⟨n, _, hn⟩ := List.mem_filterMap.mp hx
    split at hn
    · split at hn
      · cases hn; rfl
      · cases hn
    · cases hn
  · rw [List.mem_singleton.mp hx]
    rfl

/-! ### The reports of a close (R4, R19) -/

/-- The reports of a close: those of the link's work first, then others of which none is SERVICE_DONE. -/
theorem cycleClose_reports (s : State) (h : s.link.running = true) : ∃ (c : Word32) (u : State) (more : List Told),
    exec .cycleClose s = .next (pumpTx u) ∧ (c = s.run.count ∨ c = u.run.count) ∧
      (∀ n : Station, u.link.st[n] = closedStation s n) ∧
      u.port = s.port.tellAll s.params.reportLevel ((closeCourse s c).2.2 ++ more) ∧
      ∀ x ∈ more, isServiceDone x.2.2 = false := by
  obtain ⟨c, d, x, hexec, hc, _, hout⟩ := cycleClose_out s h
  have hk := hout.checked
  obtain ⟨hf, hlink⟩ := compute_told x hk.comp
  generalize compute x = u at hexec hf hlink
  have hclosed : ∀ n : Station, u.link.st[n] = closedStation s n := fun n => by rw [hlink, hk.closed n]
  have hcount : c = s.run.count ∨ c = u.run.count := by rw [hf.count]; exact hc
  have hcore : ∀ m op safe, ∀ y ∈ (course s u.run.count m op (coreActs s u op safe)).2.2, isServiceDone y.2.2 = false :=
    fun m op safe => course_undone s u.run.count m op (core_undone s u op safe)
  cases hout with
  | quiet op hl =>
    obtain ⟨-, -, hport⟩ := hl.told hf hlink
    rw [List.append_nil] at hport
    exact ⟨c, u, _, hexec, hcount, hclosed, hport, hcore _ _ _⟩
  | settled before op hl =>
    obtain ⟨-, -, hport⟩ := hl.told hf hlink
    rw [List.append_assoc] at hport
    refine ⟨c, u, _, hexec, hcount, hclosed, hport, fun y hy => ?_⟩
    rcases List.mem_append.mp hy with hy | hy
    · rw [List.mem_singleton.mp hy]
      rfl
    · exact hcore _ _ _ y hy
  | lost before hl =>
    obtain ⟨-, -, hport⟩ := hl.told hf hlink
    rw [List.append_assoc] at hport
    refine ⟨c, u, _, hexec, hcount, hclosed, hport, fun y hy => ?_⟩
    rcases List.mem_append.mp hy with hy | hy
    · exact safeReports_undone _ _ _ y hy
    · exact hcore _ _ _ y hy

theorem stationActs_length (s : State) (n : Station) : (stationActs s n).length ≤ 3 := by
  unfold stationActs
  split
  · next r _ =>
    have hm : (mergeActs n r s.link.st[n]).length ≤ 2 := by
      unfold mergeActs
      split_ifs <;> simp
    have hv : (serveActs n (s.link.st[n].merged r)).length ≤ 1 := by
      unfold serveActs
      split
      · next o _ => cases serviceEnds o (s.link.st[n].merged r).obs <;> simp
      · simp
    rw [List.length_append]
    omega
  · simp

theorem closeActs_length (s : State) : (closeActs s).length ≤ 24 := by
  unfold closeActs
  rw [List.length_flatMap]
  have h := List.sum_le_card_nsmul (stationList.map fun n => (stationActs s n).length) 3 fun k hk => by
    obtain ⟨n, _, rfl⟩ := List.mem_map.mp hk
    exact stationActs_length s n
  rwa [List.length_map] at h

theorem mergeActs_low {n : Station} {r : StationRec} {x : LinkStation} {a : Raise ⊕ ReportBody} (h : a ∈ mergeActs n r x) :
    ∃ f : Raise, a = .inl f ∧ f.kind = .laneDegraded := by
  unfold mergeActs at h
  rcases List.mem_append.mp h with h | h
  · split at h
    · exact ⟨_, List.mem_singleton.mp h, rfl⟩
    · cases h
  · split at h
    · exact ⟨_, List.mem_singleton.mp h, rfl⟩
    · cases h

/-- The raises of the link's work are of level 4. -/
theorem closeActs_low (s : State) (f : Raise) (h : .inl f ∈ closeActs s) : 3 ≤ f.kind.level := by
  obtain ⟨n, _, h⟩ := List.mem_flatMap.mp h
  unfold stationActs at h
  split at h
  · rcases List.mem_append.mp h with h | h
    · obtain ⟨g, hg, hk⟩ := mergeActs_low h
      cases hg
      rw [hk]
      decide
    · unfold serveActs at h
      split at h
      · simp at h
      · cases h
  · cases h

/-- The SERVICE_DONE reports of the link's work, station by station. -/
theorem doneReports_close (s : State) (count : Word32) (op : OpState) : doneReports count op (closeActs s) =
    stationList.flatMap fun n => match s.stations[n], s.link.st[n].outstanding with
      | some _, some o => ((serviceEnds o (closedStation s n).obs).map fun x =>
          (count, op, .serviceDone n o.item x.1 x.2)).toList
      | _, _ => [] := by
  unfold doneReports closeActs
  rw [List.filterMap_flatMap]
  refine List.flatMap_congr fun n _ => ?_
  unfold stationActs closedStation
  cases s.stations[n] with
  | none => rfl
  | some r =>
    dsimp only
    have hmerge : (mergeActs n r s.link.st[n]).filterMap (fun
        | .inr b => if isServiceDone b then some (count, op, b) else none
        | .inl _ => none : Raise ⊕ ReportBody → Option Told) = [] := by
      rw [List.filterMap_eq_nil_iff]
      intro a ha
      obtain ⟨f, rfl, _⟩ := mergeActs_low ha
      rfl
    rw [List.filterMap_append, hmerge, List.nil_append]
    unfold serveActs
    rw [show (s.link.st[n].merged r).outstanding = s.link.st[n].outstanding from rfl]
    cases s.link.st[n].outstanding with
    | none => rfl
    | some o =>
      dsimp only
      rw [closed_obs, show (s.link.st[n].merged r).obs = some (closeObs r s.link.st[n]) from rfl]
      cases serviceEnds o (some (closeObs r s.link.st[n])) <;> rfl

end Sys2Proof.Machine
end

section
/-! O44 settled from its four parts. -/

namespace Sys2Proof.Machine

theorem service_answered (s : State) (tag : Byte) (n op index : Nat) (v : Int) (h : s.takes) :
    (s.run.op = .config → exec (.service tag n op index v) s = .next (s.withReply 0x9D#8 tag .wrongState [])) ∧
    (s.run.op ≠ .config → (∀ h : n < 8, s.stations[n] = none) ∨ (op ≠ 1 ∧ op ≠ 2) →
      exec (.service tag n op index v) s = .next (s.withReply 0x9D#8 tag .badValue [])) ∧
    ∀ h : n < 8, s.run.op ≠ .config → s.stations[n] ≠ none → op = 1 ∨ op = 2 →
      (2 ≤ s.link.st[n].waiting.length →
        exec (.service tag n op index v) s = .next (s.withReply 0x9D#8 tag .queueFull [])) ∧
      (s.link.st[n].waiting.length < 2 →
        exec (.service tag n op index v) s = .next (({ s with
          link := { s.link with st := s.link.st.set n { s.link.st[n] with
            waiting := s.link.st[n].waiting ++ [if op = 1 then ⟨.read, index, 0⟩ else ⟨.write, index, v⟩] } } }
            : State).withReply 0x9D#8 tag .ok [])) := by
  have hexec : exec (.service tag n op index v) s = request 0x1D#8 tag (.service n op index v) s := rfl
  have hrefused : ∀ st, takeService n op index v (s.taking ⟨0x1D#8, tag, .service n op index v⟩) =
      (s.taking ⟨0x1D#8, tag, .service n op index v⟩, answer st) →
      exec (.service tag n op index v) s = .next (s.withReply 0x9D#8 tag st []) := fun st ht => by
    rw [hexec]
    exact read_answered s 0x1D#8 tag _ st [] h (by decide) (by simp) (by simp)
      (congrArg (fun x : State × Answer => (x.1, some x.2)) ht)
  have hrunning : s.run.op ≠ .config → s.run.op.running = true := fun hc => (running_iff h.2).mpr hc
  refine ⟨fun hc => hrefused .wrongState (takeService_config n op index v hc),
    fun hc hbad => hrefused .badValue (takeService_bad index v (hrunning hc) hbad), fun hn hc hs hop => ?_⟩
  have ht := takeService_station (s := s.taking ⟨0x1D#8, tag, .service n op index v⟩) index v (hrunning hc) hn hs hop
  refine ⟨fun hfull => hrefused .queueFull (by rw [ht]; exact if_pos hfull), fun hroom => ?_⟩
  rw [if_neg (by show ¬2 ≤ s.link.st[n].waiting.length; omega)] at ht
  obtain ⟨⟨h1, h2, h3, h4, h5⟩, hload⟩ := h
  have hanswered := request_answered s (setLinkStation ⟨n, hn⟩ { s.link.st[n] with
      waiting := s.link.st[n].waiting ++ [if op = 1 then ⟨.read, index, 0⟩ else ⟨.write, index, v⟩] }
      (s.taking ⟨0x1D#8, tag, .service n op index v⟩)) 0x1D#8 tag (.service n op index v) .ok []
    ⟨⟨h1, h2, h3, h4, h5⟩, hload⟩ (by decide) (by simp) (by simp)
    (congrArg (fun x : State × Answer => (x.1, some x.2)) ht) rfl h3 h4 h5 rfl
  exact hanswered

/-- What becomes of an item at a close, by the response of the observation merged there (R17, R18). -/
theorem serviceEnds_cases {α : Type} (o : Outstanding) (obs : Option Observation) (done : ServiceResult → Int → α) (older : α) :
    (match serviceEnds o obs with | some y => done y.1 y.2 | none => older) =
      match (match obs with | some (.valid _ _ _ _ x) => x | _ => none : Option ServiceResponse) with
      | some x => if x.index = o.item.index then done (if x.ok then .ok else .refused) x.value
        else if o.age = 3 then done .timeout o.item.value else older
      | none => if o.age = 3 then done .timeout o.item.value else older := by
  have hlate : (match (if o.age = 3 then some (.timeout, o.item.value) else none : Option (ServiceResult × Int)) with
      | some y => done y.1 y.2
      | none => older) = if o.age = 3 then done .timeout o.item.value else older := by
    split_ifs <;> rfl
  unfold serviceEnds
  cases obs with
  | none => exact hlate
  | some b =>
    cases b with
    | silent => exact hlate
    | disagree => exact hlate
    | valid count force drive trip resp =>
      cases resp with
      | none => exact hlate
      | some x =>
        dsimp only
        by_cases h : x.index = o.item.index
        · rw [if_pos h, if_pos h]
        · rw [if_neg h, if_neg h]
          exact hlate

/-- Settles O44: the request's answers, one station's item at a close, all stations', and the close's SERVICE_DONE reports. -/
theorem serviceItemsAreCarriedOut : Obligations.ServiceItemsAreCarriedOut := by
  refine ⟨fun s tag n op index v h => service_answered s tag n op index v h, fun s n o ho => ?_, fun s h => ?_,
    fun s h htx hlen => ?_⟩
  · intro resp done
    rw [serviceStation_some ho]
    exact serviceEnds_cases o s.link.st[n].obs done _
  · obtain ⟨t, hexec, hclosed⟩ := cycleClose_link s h
    refine ⟨t, hexec, fun n r hr => ?_⟩
    have hst : t.link.st[n] = s.link.st[n].closed r := by
      rw [hclosed n]
      unfold closedStation
      rw [hr]
    rw [hst, closed_obs, closed_waiting, closed_outstanding]
    exact ⟨rfl, rfl, rfl⟩
  · obtain ⟨c, u, more, hexec, hc, hclosed, hport, hmore⟩ := cycleClose_reports s h
    have hbusy : u.port.tx ≠ .idle := by
      rw [hport, tellAll_frame]
      exact htx
    rw [pumpTx_busy u hbusy] at hexec
    obtain ⟨hlength, hdone⟩ := course_low s c s.faults s.run.op (closeActs_low s)
    have hheard : (heard s (closeCourse s c).2.2).length ≤ 24 := by
      have h1 := List.length_filter_le (fun x : Told => decide (x.2.2.level ≤ s.params.reportLevel)) (closeCourse s c).2.2
      have h2 := closeActs_length s
      rw [← hlength] at h2
      exact h1.trans h2
    refine ⟨u, c, hexec, hc, ?_⟩
    rw [hport, gained_filter (by omega) hmore]
    unfold closeCourse
    rw [hdone, doneReports_close]
    simp only [hclosed] <;> rfl

end Sys2Proof.Machine
end

section
/-! O59: SERVICE_TIMEOUT, LANE_DEGRADED, TOLERANCE and WINDUP given alone. -/

namespace Sys2Proof.Machine

/-- The raises and reports a command makes, once the transmitter has chosen. -/
theorem Follows.pumped {acts : List (Raise ⊕ ReportBody)} {s u : State} (h : Follows acts s u) :
    (pumpTx u).faults = (course s s.run.count s.faults s.run.op acts).1 ∧
      emits s (pumpTx u) (course s s.run.count s.faults s.run.op acts).2.2 :=
  ⟨(pumpTx_faults u).trans h.faults, emits_of_tellAll h.port h.held⟩

/-- A course of one raise of level 3 or 4. -/
theorem course_one {f : Raise} (h : 3 ≤ f.kind.level) (s : State) (count : Word32) (m : Faults) (op : OpState) :
    course s count m op [.inl f] = (Faults.take f count op m, op, [faultTold m count op f]) := by
  have hstop : stopsRun m op f = false := by
    unfold stopsRun
    rw [show (f.kind.level == 2) = false from by rw [beq_eq_false_iff_ne]; omega]
    rfl
  rw [course_raise, hstop]
  rfl

/-! ### SERVICE_TIMEOUT (R18) -/

theorem serviceTimeout_silent {s : State} {n : Station} {o : Outstanding} (hrunning : s.link.running = true) (hs : s.has n = true)
    (hobs : s.link.st[n].obs = some .silent) (ho : s.link.st[n].outstanding = some o) (hage : o.age = 3) :
    serviceTimeout n s = submit (.serviceDone n o.item .timeout o.item.value)
      (setLinkStation n { s.link.st[n] with outstanding := none } s) := by
  have hends : serviceEnds o s.link.st[n].obs = some (.timeout, o.item.value) := by
    rw [hobs]
    exact if_pos hage
  have hout : s.timesOut n = true := by
    unfold State.timesOut
    rw [ho]
    dsimp only
    rw [advance_eq, hends]
  unfold serviceTimeout
  rw [hrunning, hs, hout, serviceStation_some ho, hends]
  rfl

/-! ### LANE_DEGRADED (R12) -/

theorem Linked.pumped {s u : State} (h : Linked s u) : pumpTx u = { s with
    link := { s.link with st := (pumpTx u).link.st }, faults := (pumpTx u).faults, comp := (pumpTx u).comp
    port := { s.port with
      reports := (pumpTx u).port.reports, lost := (pumpTx u).port.lost, tx := (pumpTx u).port.tx } } := by
  obtain ⟨x, q, hx⟩ := pumpTx_port u
  have hport : u.port = { s.port with reports := u.port.reports, lost := u.port.lost } := congrArg State.port h
  rw [hx]
  dsimp only
  rw [hport]
  conv_lhs => rw [h]

theorem closeObs_valid {r : StationRec} {x : LinkStation} (hl : r.block.lanes = .ab)
    (h : (x.repA.isSome ^^ x.repB.isSome) = true) : (closeObs r x).isValid = true := by
  unfold closeObs
  rw [hl]
  cases ha : x.repA <;> cases hb : x.repB <;> rw [ha, hb] at h
  · cases h
  · exact observe_valid _ _
  · exact observe_valid _ _
  · cases h

/-- The streaks of a station whose observation one lane alone has brought. -/
theorem merged_streaks {r : StationRec} {x : LinkStation} (hl : r.block.lanes = .ab)
    (h : (x.repA.isSome ^^ x.repB.isSome) = true) :
    (x.merged r).streakA = (if x.repA.isSome then 0 else min 64 (x.streakA + 1)) ∧
      (x.merged r).streakB = (if x.repB.isSome then 0 else min 64 (x.streakB + 1)) := by
  have hv := closeObs_valid hl h
  exact ⟨(if_pos hl).trans (nextStreak_told hv _ _), (if_pos hl).trans (nextStreak_told hv _ _)⟩

/-- LANE_DEGRADED given alone where it is due: the station's merge. -/
theorem laneDegradedStep_due {n : Station} {lane : Lane} {s : State} {r : StationRec} (hrunning : s.link.running = true)
    (hr : s.stations[n] = some r) (hl : r.block.lanes = .ab)
    (hhit : (match lane with
      | .a => degrades (closeObs r s.link.st[n]) s.link.st[n].repA.isSome s.link.st[n].streakA
      | .b => degrades (closeObs r s.link.st[n]) s.link.st[n].repB.isSome s.link.st[n].streakB) = true) :
    laneDegradedStep n lane s = mergeStation n r s := by
  unfold laneDegradedStep
  rw [hr]
  dsimp only
  rw [if_pos]
  rw [hrunning, hl, Bool.true_and, Bool.and_eq_true]
  rw [closeObs, hl] at hhit
  refine ⟨rfl, ?_⟩
  cases lane
  · exact hhit
  · exact hhit

/-- The merge of a station as a command of its own. -/
theorem mergeStation_pumped (n : Station) (r : StationRec) (s : State) :
    (pumpTx (mergeStation n r s)).link.st[n] = s.link.st[n].merged r ∧
      (pumpTx (mergeStation n r s)).faults = (course s s.run.count s.faults s.run.op (mergeActs n r s.link.st[n])).1 ∧
      emits s (pumpTx (mergeStation n r s)) (course s s.run.count s.faults s.run.op (mergeActs n r s.link.st[n])).2.2 := by
  obtain ⟨hf, hl, hst⟩ := mergeStation_told n r s
  refine ⟨?_, hf.pumped⟩
  rw [pumpTx_link, hst, Vector.set_get, if_pos rfl]

theorem laneDegraded_a {s : State} {n : Station} {r : StationRec} {x : StationReport} (hrunning : s.link.running = true)
    (hr : s.stations[n] = some r) (hl : r.block.lanes = .ab) (ha : s.link.st[n].repA = none) (hb : s.link.st[n].repB = some x)
    (hk : s.link.st[n].streakA = 63) : laneDegradedStep n .a s = mergeStation n r s ∧
      (s.link.st[n].merged r).streakA = 64 ∧ (s.link.st[n].merged r).streakB = 0 ∧
      mergeActs n r s.link.st[n] = [.inl { kind := .laneDegraded, station := some n, lane := some .a }] := by
  have hone : (s.link.st[n].repA.isSome ^^ s.link.st[n].repB.isSome) = true := by rw [ha, hb]; rfl
  obtain ⟨h1, h2⟩ := merged_streaks hl hone
  rw [ha, hk] at h1
  rw [hb] at h2
  have h1' : (s.link.st[n].merged r).streakA = 64 := h1
  have h2' : (s.link.st[n].merged r).streakB = 0 := h2
  refine ⟨laneDegradedStep_due hrunning hr hl ?_, h1', h2', ?_⟩
  · exact (degrades_iff _ _ _).mpr ⟨hk, (if_pos (c := r.block.lanes = .ab) hl).symm.trans h1'⟩
  · unfold mergeActs
    rw [if_pos ⟨hk, h1'⟩, if_neg (by omega), List.append_nil]

theorem laneDegraded_b {s : State} {n : Station} {r : StationRec} {x : StationReport} (hrunning : s.link.running = true)
    (hr : s.stations[n] = some r) (hl : r.block.lanes = .ab) (ha : s.link.st[n].repA = some x) (hb : s.link.st[n].repB = none)
    (hk : s.link.st[n].streakB = 63) : laneDegradedStep n .b s = mergeStation n r s ∧
      (s.link.st[n].merged r).streakA = 0 ∧ (s.link.st[n].merged r).streakB = 64 ∧
      mergeActs n r s.link.st[n] = [.inl { kind := .laneDegraded, station := some n, lane := some .b }] := by
  have hone : (s.link.st[n].repA.isSome ^^ s.link.st[n].repB.isSome) = true := by rw [ha, hb]; rfl
  obtain ⟨h1, h2⟩ := merged_streaks hl hone
  rw [ha] at h1
  rw [hb, hk] at h2
  have h1' : (s.link.st[n].merged r).streakA = 0 := h1
  have h2' : (s.link.st[n].merged r).streakB = 64 := h2
  refine ⟨laneDegradedStep_due hrunning hr hl ?_, h1', h2', ?_⟩
  · exact (degrades_iff _ _ _).mpr ⟨hk, (if_pos (c := r.block.lanes = .ab) hl).symm.trans h2'⟩
  · unfold mergeActs
    rw [if_neg (by omega), if_pos ⟨hk, h2'⟩, List.nil_append]

/-! ### TOLERANCE (R110, R111) -/

/-- The check finds the speed outside the band for too long. -/
theorem toleranceStep_due {s : State} (hop : s.run.op = .run) (hmode : s.run.mode = .road) (hplays : s.player.mode = .playing)
    (hraised : s.player.raised = false)
    (hband : (s.inForce.tolBand : Int) < (displaySpeed s.axle.v s.cell.period - s.player.speed).natAbs)
    (htime : s.inForce.tolTime < s.player.excursion + 1) (hlimit : s.inForce.tolTime ≤ 10000) :
    toleranceStep s = raiseTolerance { s with player := s.player.outside } := by
  have hcheck : s.checksBand = true := by
    unfold State.checksBand
    rw [hop, hmode, hplays]
    rfl
  have hout : s.outOfBand = true := decide_eq_true (by exact_mod_cast hband)
  have hexc : s.inForce.tolTime < s.player.outside.excursion := by
    show s.inForce.tolTime < min 65535 (s.player.excursion + 1)
    omega
  have hdue : s.exceedsTolerance = true := by
    unfold State.exceedsTolerance
    rw [hcheck, hout, hraised, decide_eq_true hexc]
    rfl
  unfold toleranceStep bandCheck
  dsimp only
  rw [if_pos hdue, if_pos hcheck, if_pos hout, if_pos hdue]

/-- TOLERANCE recorded and reported for the excursion that stands, and counted for the phase. -/
def toleranceRaised (s : State) : State :=
  { raised { kind := .tolerance, detail := some (.phase s.player.phase) } s with
    player := { s.player.outside with raised := true, phaseTol := satAdd 255 s.player.phaseTol 1 } }

theorem raiseTolerance_eq (s : State) : raiseTolerance { s with player := s.player.outside } = toleranceRaised s := by
  unfold raiseTolerance
  rw [raiseFault_raised (by show 3 ≤ 4; omega)]
  rfl

/-! ### WINDUP (R86, R87) -/

/-- A raise of level 2 to 4 leaves the records, the axle and the pins. -/
theorem raiseFault_keeps {f : Raise} (h : 2 ≤ f.kind.level) (u : State) : (raiseFault f u).stations = u.stations ∧
    (raiseFault f u).axle = u.axle ∧ (raiseFault f u).pins = u.pins := by
  by_cases h3 : 3 ≤ f.kind.level
  · rw [raiseFault_raised h3]
    exact ⟨rfl, rfl, rfl⟩
  · have h2 : f.kind.level = 2 := by omega
    rw [raiseFault_eq, h2, react_two _ _ h2]
    split
    · by_cases hop : u.run.op = .run
      · rw [enterStopping_run f.kind (raised f u) hop]
        exact ⟨rfl, rfl, rfl⟩
      · rw [enterStopping_other f.kind (raised f u) hop]
        exact ⟨rfl, rfl, rfl⟩
    · exact ⟨rfl, rfl, rfl⟩

theorem raiseIf_keeps {f : Raise} (h : 2 ≤ f.kind.level) (c : Prop) [Decidable c] (u : State) :
    (if c then raiseFault f u else u).stations = u.stations ∧ (if c then raiseFault f u else u).axle = u.axle ∧
      (if c then raiseFault f u else u).pins = u.pins := by
  split
  · exact raiseFault_keeps h u
  · exact ⟨rfl, rfl, rfl⟩

theorem windupStage_keeps (s : State) : (windupStage s).stations = s.stations ∧ (windupStage s).axle = s.axle ∧
    (windupStage s).pins = s.pins := by
  obtain ⟨a1, a2, a3⟩ := raiseIf_keeps (f := { kind := .windup, detail := spreadDetail s.monitorNext }) (by show 2 ≤ 2; omega)
    (s.windsUp s.monitorNext = true) (monitored s)
  obtain ⟨b1, b2, b3⟩ := raiseIf_keeps (f := { kind := .windupWarn, detail := spreadDetail s.monitorNext })
    (by show 2 ≤ 4; omega) (s.warns s.monitorNext = true) (winding s)
  rw [← windupStage_eq] at b1 b2 b3
  exact ⟨b1.trans a1, b2.trans a2, b3.trans a3⟩

theorem monitorNext_timer (s : State) :
    s.monitorNext.timer = nextWindupTimer s.cell.windupLimit s.monitorNext.spread s.monitor.timer := rfl

theorem monitorNext_warn (s : State) : s.monitorNext.warn = spreadAbove (s.cell.windupLimit / 2) s.monitorNext.spread := rfl

/-- The monitor's stage with a spread above WINDUP_LIMIT, the timer at WINDUP_TIME. -/
theorem windup_due {s : State} {x : Int} {n : Station} (hspread : s.monitorNext.spread = some x)
    (htrail : s.monitorNext.trailing = some n) (hx : (s.cell.windupLimit : Int) < x) (htimer : s.monitor.timer = s.cell.windupTime)
    (hlimit : s.cell.windupTime ≤ 1000) :
    s.monitorNext.timer = s.cell.windupTime + 1 ∧ s.monitorNext.warn = true ∧
      spreadDetail s.monitorNext = some (.spread x n) := by
  refine ⟨?_, ?_, ?_⟩
  · have habove : spreadAbove s.cell.windupLimit s.monitorNext.spread = true := by
      rw [hspread]
      exact decide_eq_true hx
    rw [monitorNext_timer, htimer, nextWindupTimer, if_pos habove]
    show min 65535 (s.cell.windupTime + 1) = _
    omega
  · rw [monitorNext_warn, hspread]
    refine decide_eq_true (lt_of_le_of_lt ?_ hx)
    exact_mod_cast Nat.div_le_self _ _
  · unfold spreadDetail
    rw [hspread, htrail]

/-- The raises of the monitor's stage with a spread above WINDUP_LIMIT, the timer at WINDUP_TIME. -/
def windupActs (s : State) (x : Int) (n : Station) : List (Raise ⊕ ReportBody) :=
  .inl { kind := .windup, detail := some (.spread x n) } ::
    if s.monitor.warn then [] else [.inl { kind := .windupWarn, detail := some (.spread x n) }]

/-- In RUN, no reaction standing, they stop the run. -/
theorem windupActs_course {s : State} {x : Int} {n : Station} (hop : s.run.op = .run) (hr : s.faults.reaction = .none) :
    (course s s.run.count s.faults s.run.op (windupActs s x n)).2.1 = .stopping ∧
      (course s s.run.count s.faults s.run.op (windupActs s x n)).1.reaction = .two := by
  have hstop : stopsRun s.faults s.run.op { kind := .windup, detail := some (.spread x n) } = true := by
    unfold stopsRun
    rw [hr, hop]
    rfl
  have htwo : (Faults.take { kind := .windup, detail := some (.spread x n) } s.run.count s.run.op s.faults).reaction = .two := by
    unfold Faults.take
    rw [hr]
    rfl
  unfold windupActs
  rw [course_raise, hstop]
  by_cases hw : s.monitor.warn = true
  · rw [if_pos hw]
    exact ⟨rfl, htwo⟩
  · rw [if_neg hw, course_one (by show 3 ≤ 4; omega)]
    refine ⟨rfl, ?_⟩
    unfold Faults.take at htwo ⊢
    dsimp only at htwo ⊢
    rw [htwo]
    rfl

theorem windupStage_due {s : State} {x : Int} {n : Station} (hspread : s.monitorNext.spread = some x)
    (htrail : s.monitorNext.trailing = some n) (hx : (s.cell.windupLimit : Int) < x) (htimer : s.monitor.timer = s.cell.windupTime)
    (hlimit : s.cell.windupTime ≤ 1000) : Follows (windupActs s x n) s (windupStage s) := by
  obtain ⟨ht, hw, hd⟩ := windup_due hspread htrail hx htimer hlimit
  have hf := (windupStage_told s).1
  rw [if_pos ⟨htimer, ht⟩, hd] at hf
  unfold windupActs
  by_cases hwarn : s.monitor.warn = true
  · rw [if_neg (by rw [hwarn]; simp), List.append_nil] at hf
    rw [if_pos hwarn]
    exact hf
  · rw [if_pos ⟨Bool.eq_false_iff.mpr hwarn, hw⟩] at hf
    rw [if_neg hwarn]
    exact hf

theorem windupStep_due {s : State} (hrunning : s.link.running = true) (htimer : s.monitor.timer = s.cell.windupTime)
    (ht : s.monitorNext.timer = s.cell.windupTime + 1) : windupStep s = windupStage s := by
  unfold windupStep
  rw [hrunning, (windsUp_iff s).mpr ⟨htimer, ht⟩]
  rfl

/-- Settles O59: each row's own update of the state as it stands, with its raises and reports. -/
theorem linkAndTraceThresholds : Obligations.LinkAndTraceThresholds := by
  intro s hrunning raises
  refine ⟨fun n r o hr hobs ho hage => ?_, fun n r x hr hl ha hb hk => ?_, fun n r x hr hl ha hb hk => ?_,
    fun hop hmode hplays hraised hband htime hlimit => ?_, fun x n hop hreaction hspread htrail hx htimer hlimit => ?_⟩
  · have hhas : s.has n = true := (has_iff s n).mpr (by rw [hr]; simp)
    have hout := serviceTimeout_silent hrunning hhas hobs ho hage
    exact congrArg (fun u => Host.Outcome.next (pumpTx u)) hout
  · obtain ⟨hstep, hA, hB, hacts⟩ := laneDegraded_a hrunning hr hl ha hb hk
    have hlinked := (mergeStation_told n r s).2.1
    obtain ⟨hst, hraises⟩ := mergeStation_pumped n r s
    rw [hacts] at hraises
    exact ⟨_, congrArg (fun u => Host.Outcome.next (pumpTx u)) hstep, by rw [hst, hA], by rw [hst, hB], hraises, hlinked.pumped⟩
  · obtain ⟨hstep, hA, hB, hacts⟩ := laneDegraded_b hrunning hr hl ha hb hk
    have hlinked := (mergeStation_told n r s).2.1
    obtain ⟨hst, hraises⟩ := mergeStation_pumped n r s
    rw [hacts] at hraises
    exact ⟨_, congrArg (fun u => Host.Outcome.next (pumpTx u)) hstep, by rw [hst, hA], by rw [hst, hB], hraises, hlinked.pumped⟩
  · have hstep := (toleranceStep_due hop hmode hplays hraised hband htime hlimit).trans (raiseTolerance_eq s)
    have hcourse := course_one (f := { kind := .tolerance, detail := some (.phase s.player.phase) }) (by show 3 ≤ 4; omega) s
      s.run.count s.faults s.run.op
    refine ⟨_, congrArg (fun u => Host.Outcome.next (pumpTx u)) hstep, by rw [pumpTx_player]; rfl, ⟨?_, ?_⟩, ?_⟩
    · rw [pumpTx_faults, hcourse]
      rfl
    · rw [hcourse]
      exact emits_of_tellAll rfl rfl
    · have hport : (toleranceRaised s).port = s.port.tellAll s.params.reportLevel
          [faultTold s.faults s.run.count s.run.op { kind := .tolerance, detail := some (.phase s.player.phase) }] := rfl
      rw [pumpTx_player, pumpTx_faults, pumpTx_comp, pumpTx_told hport]
      rfl
  · obtain ⟨ht, -, -⟩ := windup_due hspread htrail hx htimer hlimit
    have hf := windupStage_due hspread htrail hx htimer hlimit
    have hreacted := (windupStage_told s).2
    obtain ⟨hstations, haxle, hpins⟩ := windupStage_keeps s
    obtain ⟨hstops, htwo⟩ := windupActs_course (x := x) (n := n) hop hreaction
    have hrun : (windupStage s).run.op = .stopping := hf.op.trans hstops
    refine ⟨_, congrArg (fun u => Host.Outcome.next (pumpTx u)) (windupStep_due hrunning htimer ht), hf.pumped, ?_, ?_, ?_, ?_,
      ?_, ?_, ?_⟩
    · rw [pumpTx_run, hrun]
    · rw [pumpTx_run]
      exact (hf.stops hop hrun).2
    · rw [pumpTx_faults, hf.faults, htwo]
    · rw [pumpTx_monitor, hreacted.monitor]
      exact ht
    · rw [pumpTx_stations, hstations]
    · rw [pumpTx_axle, haxle]
    · rw [pumpTx_pins, hpins]

end Sys2Proof.Machine
end

section
/-! SUPPORT. What a step can do to the motion of the virtual axle: `Halts` where it is left alone but for the entry to STOPPING,
`Kept` where its bounds are kept, each shown once for every operation. The invariants of the axle are read off `Kept`. -/

namespace Sys2Proof.Machine

/-! ### The parts the invariants speak of -/

/-- The axle's speed, distance fraction and limit, with what decides where it may move: the operating state, the lock, and of a
computation in progress its standstill and the fraction before it. -/
structure Motion where
  op : OpState
  locked : Bool
  v : Int
  frac : Int
  limit : Int
  standstill : Bool
  before : Int

/-- These parts of a state. -/
def State.motion (s : State) : Motion :=
  { op := s.run.op, locked := s.store.locked, v := s.axle.v, frac := s.axle.frac, limit := s.axle.vLimit
    standstill := s.comp.any Computation.standstill
    before := s.comp.elim 0 fun k => k.axleBefore.frac }

/-- The axle rests outside a run, keeps within V_LIMIT, and rests where a computation reported it; a running part is locked. -/
structure Motion.Safe (m : Motion) : Prop where
  rests : m.op.inRun = true ∨ m.v = 0
  within : (m.v.natAbs : Int) ≤ m.limit
  stands : m.standstill = true → m.v = 0
  locked : m.op.running = true → m.locked = true

/-- The distance fractions lie from 0 to 65,535 (R25, R38). -/
structure Motion.Fraction (m : Motion) : Prop where
  nonneg : 0 ≤ m.frac
  below : m.frac < 65536
  before : 0 ≤ m.before ∧ m.before < 65536

theorem axleSafe_iff (s : State) : s.axleSafe = true ↔ s.motion.Safe := by
  have h : s.axleSafe = true ↔ (s.run.op.inRun = true ∨ s.axle.v = 0) ∧ (s.axle.v.natAbs : Int) ≤ s.axle.vLimit ∧
      (s.comp.any Computation.standstill = true → s.axle.v = 0) ∧ (s.run.op.running = true → s.store.locked = true) := by
    unfold State.axleSafe
    cases s.comp with
    | none => cases s.run.op.running <;> simp [and_assoc]
    | some k => cases s.run.op.running <;> cases hk : k.standstill <;> simp [hk, and_assoc]
  exact h.trans ⟨fun ⟨a, b, c, d⟩ => ⟨a, b, c, d⟩, fun ⟨a, b, c, d⟩ => ⟨a, b, c, d⟩⟩

theorem fractionSound_iff (s : State) : s.fractionSound = true ↔ s.motion.Fraction := by
  have h : s.fractionSound = true ↔ 0 ≤ s.axle.frac ∧ s.axle.frac < 65536 ∧
      (0 ≤ s.comp.elim 0 (fun k => k.axleBefore.frac) ∧ s.comp.elim 0 (fun k => k.axleBefore.frac) < 65536) := by
    unfold State.fractionSound
    cases s.comp <;> simp [and_assoc]
  exact h.trans ⟨fun ⟨a, b, c⟩ => ⟨a, b, c⟩, fun ⟨a, b, c⟩ => ⟨a, b, c⟩⟩

/-! ### The motion left alone, and its bounds kept -/

/-- The motion is left alone, but that RUN may have become STOPPING. -/
def Halts (s t : State) : Prop :=
  t.motion = s.motion ∨ s.run.op = .run ∧ t.motion = { s.motion with op := .stopping }

theorem Halts.of_eq {s t : State} (h : t.motion = s.motion) : Halts s t := .inl h

theorem Halts.refl (s : State) : Halts s s := .inl rfl

theorem Halts.trans {s t u : State} (h : Halts s t) (k : Halts t u) : Halts s u := by
  obtain h | ⟨ho, h⟩ := h
  · obtain k | ⟨ko, k⟩ := k
    · exact .inl (k.trans h)
    · exact .inr ⟨(congrArg Motion.op h).symm.trans ko, k.trans (by rw [h])⟩
  · have hs : t.run.op = .stopping := congrArg Motion.op h
    obtain k | ⟨ko, k⟩ := k
    · exact .inr ⟨ho, k.trans h⟩
    · rw [hs] at ko
      cases ko

/-- A first part that leaves the motion alone. -/
theorem Halts.after {s s' t : State} (k : Halts s' t) (h : s'.motion = s.motion) : Halts s t := (Halts.of_eq h).trans k

/-- A last part that leaves the motion alone. -/
theorem Halts.before {s t t' : State} (k : Halts s t) (h : t'.motion = t.motion) : Halts s t' := k.trans (Halts.of_eq h)

theorem Halts.ite {p : Prop} [Decidable p] {s t : State} (h : Halts s t) : Halts s (if p then t else s) := by
  split
  · exact h
  · exact Halts.refl s

theorem Halts.v {s t : State} (h : Halts s t) : t.axle.v = s.axle.v := by
  obtain h | ⟨_, h⟩ := h <;> exact congrArg Motion.v h

/-- The bounds of the motion are kept; those of the speed where `p` holds. -/
structure Kept (p : Prop) (s t : State) : Prop where
  safe : p → s.motion.Safe → t.motion.Safe
  fraction : s.motion.Fraction → t.motion.Fraction

section
variable {p : Prop} {s t u : State}

theorem Kept.of_eq (h : t.motion = s.motion) : Kept p s t := ⟨fun _ hs => h ▸ hs, fun hs => h ▸ hs⟩

theorem Kept.refl (s : State) : Kept p s s := .of_eq rfl

theorem Kept.trans (h : Kept p s t) (k : Kept p t u) : Kept p s u :=
  ⟨fun hp hs => k.safe hp (h.safe hp hs), fun hs => k.fraction (h.fraction hs)⟩

/-- A first part that leaves the motion alone. -/
theorem Kept.after {s' : State} (k : Kept p s' t) (h : s'.motion = s.motion) : Kept p s t := (Kept.of_eq h).trans k

/-- A last part that leaves the motion alone. -/
theorem Kept.before {t' : State} (k : Kept p s t) (h : t'.motion = t.motion) : Kept p s t' := k.trans (Kept.of_eq h)

theorem Kept.ite {q : Prop} [Decidable q] (h : q → Kept p s t) : Kept p s (if q then t else s) := by
  split
  · exact h ‹_›
  · exact Kept.refl s

theorem Halts.kept (h : Halts s t) : Kept p s t := by
  obtain h | ⟨ho, h⟩ := h
  · exact .of_eq h
  · refine ⟨fun _ hs => ?_, fun hs => ?_⟩ <;> rw [h]
    · exact ⟨.inl rfl, hs.within, hs.stands, fun _ => hs.locked (congrArg OpState.running ho)⟩
    · exact ⟨hs.nonneg, hs.below, hs.before⟩

/-- The axle is at rest at speed 0, at its distance fraction or at that of before the computation, and no computation reports a
standstill that was not there. -/
theorem Kept.of_rest (hv : t.axle.v = 0) (hl : s.motion.Safe → 0 ≤ t.axle.vLimit)
    (hf : s.motion.Fraction → t.motion.Fraction) (hlock : s.motion.Safe → t.run.op.running = true → t.store.locked = true) :
    Kept p s t :=
  ⟨fun _ hs => ⟨.inr hv, by show (t.axle.v.natAbs : Int) ≤ t.axle.vLimit; rw [hv]; exact hl hs, fun _ => hv, hlock hs⟩, hf⟩

theorem Motion.Safe.limit_nonneg {m : Motion} (h : m.Safe) : 0 ≤ m.limit := le_trans (Int.natCast_nonneg _) h.within
end

/-! ### Reports, stations, raises -/

@[simp] theorem submit_motion (b : ReportBody) (s : State) : (submit b s).motion = s.motion := by
  obtain ⟨q, l, h⟩ := submit_port b s
  rw [h]
  rfl

@[simp] theorem submitState_motion (o : OpState) (c : StateCause) (k : Option FaultKind) (x : Bool) (s : State) :
    (submitState o c k x s).motion = s.motion := submit_motion _ s

theorem pumpTx_motion (s : State) : (pumpTx s).motion = s.motion := by
  obtain ⟨x, q, h⟩ := pumpTx_port s
  rw [h]
  rfl

theorem updateSeen_motion (n : Station) (f : StationRec → StationRec) (s : State) :
    (updateSeen n f s).motion = s.motion := by
  unfold State.motion updateSeen
  cases s.comp <;> rfl

theorem updateFaults_motion (g : Faults → Faults) (s : State) : (updateFaults g s).motion = s.motion := by
  unfold State.motion updateFaults
  cases s.comp <;> rfl

theorem moveStation_motion (n : Station) (r : StationRec) (f : StationRec → StationRec) (reason : StationReason) (s : State) :
    (moveStation n r f reason s).motion = s.motion := by
  unfold moveStation submitStation
  rw [submit_motion, updateSeen_motion]
  rfl

theorem eachStation_motion {f : Station → StationRec → State → State} (hf : ∀ n r t, (f n r t).motion = t.motion)
    (s : State) : (eachStation f s).motion = s.motion :=
  eachStation_induct (P := fun t => t.motion = s.motion) rfl fun n r t _ h => (hf n r t).trans h

theorem idleEngaged_motion (reason : StationReason) (s : State) : (idleEngaged reason s).motion = s.motion :=
  eachStation_motion (fun n r t => by split <;> simp only [moveStation_motion]) s

theorem moveMask_motion (m : Mask) (f : StationRec → StationRec) (reason : StationReason) (s : State) :
    (moveMask m f reason s).motion = s.motion :=
  eachStation_motion (fun n r t => by split <;> simp only [moveStation_motion]) s

theorem clearStations_motion (s : State) : (clearStations s).motion = s.motion :=
  eachStation_motion (fun n r t => by split <;> simp only [moveStation_motion]) s

theorem resetStations_motion (s : State) : (resetStations s).motion = s.motion :=
  eachStation_motion (fun n r t => by
    split
    · rfl
    · exact moveStation_motion n r _ _ t) s

/-- SAFE entered: the axle rests, its distance fraction as it stands or as it stood before the computation (R29). -/
theorem enteringSafe_motion (s : State) : ∃ f, (f = s.motion.frac ∨ f = s.motion.before) ∧
    (enteringSafe s).motion = { s.motion with op := .safe, v := 0, frac := f } := by
  unfold enteringSafe voidComputation State.motion
  dsimp only
  split
  · exact ⟨_, .inl rfl, rfl⟩
  · rename_i c hc
    split
    · exact ⟨c.axleBefore.frac, .inr (by rw [hc]; rfl), by rw [hc]; rfl⟩
    · exact ⟨_, .inl rfl, rfl⟩

theorem runAbandoned_motion (prev : OpState) (s : State) : (runAbandoned prev s).motion = s.motion := by
  unfold runAbandoned
  dsimp only
  split <;> rfl

theorem enterSafe_motion (k : FaultKind) (s : State) : ∃ f, (f = s.motion.frac ∨ f = s.motion.before) ∧
    (enterSafe k s).motion = { s.motion with op := .safe, v := 0, frac := f } := by
  obtain ⟨f, hf, h⟩ := enteringSafe_motion s
  refine ⟨f, hf, ?_⟩
  rw [enterSafe_eq, submitState_motion]
  show (runAbandoned _ _).motion = _
  rw [runAbandoned_motion, idleEngaged_motion, h]

theorem enterSafe_kept {p : Prop} (k : FaultKind) (s : State) (h : s.run.op.watchesEstop = true) : Kept p s (enterSafe k s) := by
  obtain ⟨f, hf, hm⟩ := enterSafe_motion k s
  refine .of_rest (congrArg Motion.v hm) (fun hs => ?_) (fun hs => ?_) (fun hs _ => ?_)
  · rw [show (enterSafe k s).axle.vLimit = s.axle.vLimit from congrArg Motion.limit hm]
    exact hs.limit_nonneg
  · rw [hm]
    rcases hf with rfl | rfl
    · exact ⟨hs.nonneg, hs.below, hs.before⟩
    · exact ⟨hs.before.1, hs.before.2, hs.before⟩
  · rw [show (enterSafe k s).store.locked = s.store.locked from congrArg Motion.locked hm]
    exact hs.locked (watchesEstop_running h)

theorem playerEnd_motion (e : EndReason) (s : State) : (playerEnd e s).motion = s.motion := submit_motion _ _

theorem playerStop_motion (s : State) : (playerStop s).motion = s.motion := by
  unfold playerStop
  split
  · exact playerEnd_motion _ s
  · exact playerEnd_motion _ s
  · exact playerEnd_motion _ s
  · rfl
  · rfl

theorem enterStopping_halts (c : StopCause) (k : Option FaultKind) (s : State) : Halts s (enterStopping c k s) := by
  unfold enterStopping
  split
  · rename_i h
    refine .inr ⟨h, ?_⟩
    rw [submitState_motion, playerStop_motion]
    rfl
  · exact Halts.refl s

theorem react_kept {p : Prop} (k : FaultKind) (s : State) : Kept p s (react k s) := by
  unfold react
  split
  · exact .ite fun h => enterSafe_kept k s h
  · exact (enterStopping_halts _ _ s).kept
  · exact Kept.refl s

theorem raiseFault_kept {p : Prop} (f : Raise) (s : State) : Kept p s (raiseFault f s) := by
  unfold raiseFault
  dsimp only
  split
  · exact (react_kept _ _).after ((submit_motion _ _).trans (updateFaults_motion _ s))
  · exact .of_eq ((submit_motion _ _).trans (updateFaults_motion _ s))

/-- A raise of level 3 or 4 leaves the motion alone. -/
theorem raiseFault_low_motion (f : Raise) (s : State) (h : 3 ≤ f.kind.level) : (raiseFault f s).motion = s.motion := by
  rw [raiseFault_raised h]
  exact updateFaults_motion _ s

theorem checkEstop_kept {p : Prop} (s : State) : Kept p s (checkEstop s) := .ite fun _ => raiseFault_kept _ s

theorem eachStation_kept {p : Prop} {f : Station → StationRec → State → State} (hf : ∀ n r t, Kept p t (f n r t)) (s : State) :
    Kept p s (eachStation f s) :=
  eachStation_induct (Kept.refl s) fun n r t _ h => h.trans (hf n r t)


/-! ### The statistics unit, the drive link controller -/

theorem addCount_motion (k : Fin 4) (a : Nat) (s : State) : (addCount k a s).motion = s.motion := by
  unfold addCount
  dsimp only
  split
  · exact submit_motion _ _
  · rfl

theorem countSlot_motion (n : Station) (a b : Option LaneOutcome) (s : State) : (countSlot n a b s).motion = s.motion :=
  countSlot_induct (P := fun t => t.motion = s.motion) rfl fun k m t h => (addCount_motion k m t).trans h

theorem countLocks_motion (s : State) : (countLocks s).motion = s.motion :=
  countLocks_induct (P := fun t => t.motion = s.motion) rfl fun k m t h => (addCount_motion k m t).trans h

theorem mergeStation_kept {p : Prop} (n : Station) (r : StationRec) (s : State) : Kept p s (mergeStation n r s) := by
  unfold mergeStation
  dsimp only
  split
  · refine ((Kept.of_eq ?_).trans (.ite fun _ => raiseFault_kept _ _)).trans (.ite fun _ => raiseFault_kept _ _)
    rfl
  · exact .of_eq rfl
  · exact .of_eq rfl

theorem serviceStation_motion (n : Station) (s : State) : (serviceStation n s).motion = s.motion := by
  unfold serviceStation
  dsimp only
  split
  · rfl
  · split
    · rfl
    · exact submit_motion _ _

theorem closeLink_kept {p : Prop} (s : State) : Kept p s (closeLink s) :=
  eachStation_kept (fun n r t => (mergeStation_kept n r t).before (serviceStation_motion n _)) s

theorem watchSlot_motion (n : Station) (a b : Option LaneOutcome) (s : State) : (watchSlot n a b s).motion = s.motion := rfl

theorem setLinkStation_motion (n : Station) (x : LinkStation) (s : State) : (setLinkStation n x s).motion = s.motion := rfl

theorem endSlot_motion (n : Station) (a b : Reception) (s : State) : (endSlot n a b s).motion = s.motion := by
  unfold endSlot
  split
  · rfl
  · rw [watchSlot_motion, countSlot_motion, setLinkStation_motion]

theorem cancelled_motion (n : Station) (l : List ServiceItem) (s : State) :
    (l.foldl (fun s i => submit (.serviceDone n i .cancelled i.value) s) s).motion = s.motion := by
  induction l generalizing s with
  | nil => rfl
  | cons i rest ih => exact (ih _).trans (submit_motion _ s)

theorem cancelStation_motion (n : Station) (s : State) : (cancelStation n s).motion = s.motion := by
  unfold cancelStation
  dsimp only
  rw [cancelled_motion, setLinkStation_motion]

theorem cancelService_motion (s : State) : (cancelService s).motion = s.motion := by
  have h := eachStation_motion (fun n _ t => cancelStation_motion n t) s
  unfold cancelService
  generalize eachStation _ s = u at h ⊢
  exact h

/-! ### The cycle computation -/

theorem applyJudging_kept {p : Prop} (n : Station) (j : Judging) (s : State) : Kept p s (applyJudging n j s) :=
  applyJudging_induct (Kept.of_eq rfl) fun e t h => h.trans (by
    cases e with
    | fault f => exact raiseFault_kept f t
    | changed old r reason => exact .of_eq (submit_motion _ t))

theorem judgeStage_kept {p : Prop} (s : State) : Kept p s (judgeStage s) := by
  unfold judgeStage
  exact eachStation_induct (Kept.refl s) fun n r t _ h => h.trans (applyJudging_kept n _ t)

theorem windupStage_kept {p : Prop} (s : State) : Kept p s (windupStage s) := by
  have h : Kept p s { s with monitor := s.monitorNext } := .of_eq rfl
  unfold windupStage
  dsimp only
  split <;> split
  · exact (h.trans (raiseFault_kept _ _)).trans (raiseFault_kept _ _)
  · exact h.trans (raiseFault_kept _ _)
  · exact h.trans (raiseFault_kept _ _)
  · exact h

end Sys2Proof.Machine
end

section
/-! SUPPORT. The bounds of the axle through its step, the resets, the player, the run controller and the commands. -/

namespace Sys2Proof.Machine

/-! ### The step of the axle -/

theorem State.period_nonneg (s : State) : 0 ≤ s.period := Int.natCast_nonneg _

theorem accelStep_nonneg (limit : Nat) {period : Int} (h : 0 ≤ period) : 0 ≤ accelStep limit period :=
  roundDiv_nonneg (by positivity) (by norm_num)

theorem vLimitOf_nonneg (k : CellBlock) : 0 ≤ vLimitOf k := by
  unfold vLimitOf axleSpeed
  exact roundDiv_nonneg (by positivity) (by norm_num)

theorem limited_within {l : Int} (h : 0 ≤ l) (v road grade net : Int) :
    ((limited l v road grade net).v.natAbs : Int) ≤ l := by
  unfold limited
  rw [limitMag_eq _ _ h]
  dsimp only
  omega

theorem roadStep_within (p : Params) (period v grade fSum : Int) {l : Int} (h : 0 ≤ l) :
    ((roadStep p period l v grade fSum).v.natAbs : Int) ≤ l := by
  unfold roadStep
  dsimp only
  split <;> split
  · exact h
  · exact limited_within h _ _ _ _
  · exact h
  · exact limited_within h _ _ _ _

/-- The stop ramp never speeds the axle up (R41). -/
theorem stopStep_within (d : Nat) {period : Int} (h : 0 ≤ period) (v : Int) :
    ((stopStep d period v).v.natAbs : Int) ≤ v.natAbs := by
  have hstep := accelStep_nonneg d h
  unfold stopStep
  dsimp only
  rw [moveToward_eq _ _ _ hstep]
  generalize accelStep d period = step at hstep ⊢
  split_ifs <;> omega

theorem axleResult_within (s : State) (h : (s.axle.v.natAbs : Int) ≤ s.axle.vLimit) :
    (s.axleResult.v.natAbs : Int) ≤ s.axle.vLimit := by
  have hl : 0 ≤ s.axle.vLimit := le_trans (Int.natCast_nonneg _) h
  unfold State.axleResult
  split
  · exact le_trans (stopStep_within _ s.period_nonneg _) h
  · split
    · exact roadStep_within _ _ _ _ _ hl
    · exact limited_within hl _ _ _ _

theorem axleStage_kept {p : Prop} (s : State) (hc : s.comp = none) : Kept p s (axleStage s) := by
  unfold axleStage
  split
  · rename_i hin
    have hstep : Kept p s { s with axle := s.axle.advance s.forceSum s.axleResult } := by
      refine ⟨fun _ hs => ⟨.inl hin, axleResult_within s hs.within, fun hk => ?_, hs.locked⟩, fun hs => ⟨?_, ?_, hs.before⟩⟩
      · have hn : s.motion.standstill = false := congrArg (fun c => Option.any Computation.standstill c) hc
        exact absurd (hn.symm.trans hk) (by simp)
      · exact Int.emod_nonneg _ (by norm_num)
      · exact Int.emod_lt_of_pos _ (by norm_num)
    dsimp only
    split
    · exact hstep.trans (raiseFault_kept _ _)
    · exact hstep
  · exact .of_rest rfl (fun hs => hs.limit_nonneg) (fun hs => ⟨hs.nonneg, hs.below, hs.before⟩) fun hs => hs.locked

theorem judgeStage_idle (s : State) (h : s.comp = none) : (judgeStage s).comp = none := by
  rw [(judgeStage_told s h).2]
  exact h

theorem gearStage_motion (s : State) : (gearStage s).motion = s.motion := rfl

theorem assembleStage_motion (s : State) : (assembleStage s).motion = s.motion := rfl

theorem stages_kept {p : Prop} (s : State) (hc : s.comp = none) : Kept p s (stages s) := by
  have haxle : Kept p s (gearStage (axleStage (judgeStage s))) :=
    ((judgeStage_kept s).trans (axleStage_kept _ (judgeStage_idle s hc))).before (gearStage_motion _)
  unfold stages
  exact ((haxle.trans (windupStage_kept _)).before (assembleStage_motion _)).before (countLocks_motion _)

theorem compute_kept {p : Prop} (s : State) (hc : s.comp = none) : Kept p s (compute s) := by
  have h : Kept p s (stages { s with inForce := s.params.inForce, trace := { s.trace with waiting := false } }) :=
    Kept.after (stages_kept _ hc) rfl
  unfold compute
  dsimp only
  generalize stages _ = u at h ⊢
  refine ⟨fun hp hs => ?_, fun hs => ?_⟩
  · have hu := h.safe hp hs
    refine ⟨hu.rests, hu.within, fun hk => ?_, hu.locked⟩
    have hk' : (s.run.op == .stopping && u.axle.v == 0) = true := hk
    simp only [Bool.and_eq_true, beq_iff_eq] at hk'
    exact hk'.2
  · have hu := h.fraction hs
    exact ⟨hu.nonneg, hu.below, hs.nonneg, hs.below⟩


/-! ### The commissioning store and the resets -/

theorem syncStations_motion (w : Option Station) (s : State) : (syncStations w s).motion = s.motion := rfl

theorem followSet_motion (w : Option Station) (s : State) : (followSet w s).motion = s.motion := rfl

/-- V_LIMIT is formed while no run is possible, the axle at rest. -/
theorem formLimit_kept {p : Prop} (k : CellBlock) (s : State) (h : s.motion.Safe → s.axle.v = 0) :
    Kept p s (formLimit k s) :=
  ⟨fun _ hs => ⟨hs.rests, by
    show (s.axle.v.natAbs : Int) ≤ vLimitOf k
    rw [h hs]
    exact vLimitOf_nonneg k, hs.stands, hs.locked⟩, fun hs => ⟨hs.nonneg, hs.below, hs.before⟩⟩

theorem Motion.Safe.unlocked {m : Motion} (h : m.Safe) (hl : m.locked = false) : m.v = 0 := by
  refine h.rests.resolve_left fun hin => ?_
  have hlock := h.locked (watchesEstop_running (by cases hm : m.op <;> rw [hm] at hin <;> first | rfl | cases hin))
  rw [hl] at hlock
  cases hlock

theorem applyLoad_kept {p : Prop} (o : LoadOutcome) (w : Option (CellBlock × Vector (Option StationBlock) 8)) (s : State)
    (h : s.run.op = .loading) : Kept p s (applyLoad o w s) := by
  unfold applyLoad
  split
  · refine Kept.trans (.of_eq ?_) (formLimit_kept _ _ fun hs => ?_)
    · rfl
    · exact hs.rests.resolve_left (by show ¬s.run.op.inRun = true; rw [h]; simp [OpState.inRun])
  · exact .of_eq rfl

/-- SETTLE is entered with the axle at rest (R29). -/
theorem settleValues_kept {p : Prop} (s : State) (h : s.motion.Safe → s.store.locked = true) : Kept p s (settleValues s) := by
  have hb : (settleValues s).motion.before = s.motion.before := by
    unfold State.motion settleValues
    cases s.comp <;> rfl
  exact .of_rest rfl (fun hs => hs.limit_nonneg) (fun hs => ⟨hs.nonneg, hs.below, hb ▸ hs.before⟩) fun hs _ => h hs

theorem startLink_kept {p : Prop} (s : State) : Kept p s (startLink (settleValues s)) := by
  have hb : (settleValues s).motion.before = s.motion.before := by
    unfold State.motion settleValues
    cases s.comp <;> rfl
  exact .of_rest rfl (fun hs => hs.limit_nonneg) (fun hs => ⟨hs.nonneg, hs.below, hb ▸ hs.before⟩) fun _ _ => rfl

theorem leaveLoading_kept {p : Prop} (s : State) (h : s.run.op = .loading) : Kept p s (leaveLoading s) := by
  unfold leaveLoading
  dsimp only
  split
  · exact ((startLink_kept s).before (submit_motion _ _)).trans (checkEstop_kept _)
  · refine Kept.before ?_ (submit_motion _ _)
    refine ⟨fun _ hs => ⟨.inr ?_, hs.within, hs.stands, fun hr => by cases hr⟩, fun hs => ⟨hs.nonneg, hs.below, hs.before⟩⟩
    exact hs.rests.resolve_left (by show ¬s.run.op.inRun = true; rw [h]; simp [OpState.inRun])

theorem completeLoad_kept {p : Prop} (answers : Bool) (s : State) : Kept p s (completeLoad answers s) := by
  unfold completeLoad
  split
  · rename_i h
    exact (applyLoad_kept _ _ s h.1).trans (leaveLoading_kept _ (by rw [applyLoad_run]; exact h.1))
  · exact Kept.refl s

theorem takeCommissionCell_kept {p : Prop} (k : CellBlock) (s : State) : Kept p s (takeCommissionCell k s).1 := by
  unfold takeCommissionCell
  split
  · exact Kept.refl s
  · rename_i hl
    split
    · exact Kept.refl s
    · refine Kept.before (Kept.trans (.of_eq ?_) (formLimit_kept k _ fun hs => ?_)) (followSet_motion _ _)
      · rfl
      · exact hs.unlocked (by simpa [State.motion] using hl)

theorem takeCommissionWrite_motion (n : Nat) (raw : RawStation) (s : State) :
    (takeCommissionWrite n raw s).1.motion = s.motion := by
  unfold takeCommissionWrite
  split
  · rfl
  · split
    · split <;> rfl
    · rfl

theorem takeCommissionClear_motion (n : Nat) (s : State) : (takeCommissionClear n s).1.motion = s.motion := by
  unfold takeCommissionClear
  split
  · rfl
  · split <;> rfl

theorem takeLeaveConfig_kept {p : Prop} (s : State) : Kept p s (takeLeaveConfig s).1 := by
  unfold takeLeaveConfig
  split
  · exact Kept.refl s
  · split
    · exact Kept.refl s
    · exact ((startLink_kept s).before (submitState_motion _ _ _ _ _)).trans (checkEstop_kept _)

theorem takeStore_motion (s : State) : (takeStore s).1.motion = s.motion := by
  unfold takeStore
  split
  · rfl
  · split <;> rfl

theorem takeSetParam_motion (i : Nat) (v : Int) (s : State) : (takeSetParam i v s).1.motion = s.motion := by
  unfold takeSetParam
  split
  · rfl
  · split <;> rfl

theorem Motion.Fraction.of_zero {m : Motion} (hf : m.frac = 0) (hb : m.before = 0) : m.Fraction :=
  ⟨by omega, by omega, by omega⟩

theorem fullReset_kept {p : Prop} (a : ResetReason) (b c : Bool) (k : Nat) (m : Memory × Bool) (s : State) :
    Kept p s (fullReset a b c k m s) :=
  .of_rest rfl (fun _ => le_refl _) (fun _ => .of_zero rfl rfl) fun _ hr => by cases hr

theorem resettle_kept {p : Prop} (prev : OpState) (c : StateCause) (s : State) (h : s.run.op.running = true) :
    Kept p s (resettle prev c s) :=
  ((settleValues_kept s fun hs => hs.locked h).before (submitState_motion _ _ _ _ _)).trans (checkEstop_kept _)

theorem resetBlocks_motion (s : State) : (resetBlocks s).motion = s.motion := rfl

theorem resetCore_kept {p : Prop} (s : State) : Kept p s (resetCore s) :=
  .of_rest rfl (fun hs => hs.limit_nonneg) (fun _ => .of_zero rfl rfl) fun hs => hs.locked

theorem runEmptied_kept {p : Prop} (s : State) : Kept p s (runEmptied s) := by
  unfold runEmptied
  exact ((resetCore_kept _).after (cancelService_motion s)).before
    ((resetBlocks_motion _).trans (resetStations_motion _))

theorem runReset_kept {p : Prop} (s : State) : Kept p s (runReset s) := by
  have h : Kept p s (runEmptied s) := runEmptied_kept s
  have ho := runEmptied_op s
  rw [runReset_eq]
  generalize runEmptied s = u at h ho ⊢
  split
  · rename_i hr
    exact h.trans (resettle_kept _ _ u (by rw [ho]; exact hr))
  · exact h

end Sys2Proof.Machine
end

section
/-! SUPPORT. The player, the event table and the trace leave the motion alone but for the entry to STOPPING; the run controller,
the link cycle, the port and the commands keep its bounds. O5 is settled at the end. -/

namespace Sys2Proof.Machine

/-! ### The trace buffer and the event table -/

theorem traceCapture_motion (k : Computation) (s : State) : (traceCapture k s).motion = s.motion := by
  unfold traceCapture storeRecord
  split
  · split
    · rfl
    · split
      · rfl
      · split
        · rfl
        · exact submit_motion _ _
  · rfl

theorem takeSetTrace_motion (m : Mask) (d p e : Nat) (s : State) : (takeSetTrace m d p e s).1.motion = s.motion := by
  unfold takeSetTrace
  split <;> rfl

theorem fire_motion (i : Fin 16) (e : EventEntry) (s : State) : (fire i e s).motion = s.motion := by
  have hmark : ∀ (b : Bool) (t : State), (if b = true then handMark t else t).motion = t.motion := fun b t => by
    split <;> rfl
  have hrep : ∀ (b : Bool) (x : ReportBody) (t : State), (if b = true then submit x t else t).motion = t.motion := fun b x t => by
    split
    · exact submit_motion x t
    · rfl
  have hsnap : ∀ (b : Bool) (t : State), (if b = true then takeSnapshot i t else t).motion = t.motion := fun b t => by
    split <;> rfl
  have hcap : ∀ (b : Bool) (t : State),
      (if b = true then { t with trace := { t.trace with waiting := true } } else t).motion = t.motion := fun b t => by
    split <;> rfl
  exact (hcap _ _).trans ((hsnap _ _).trans ((hrep _ _ _).trans ((hmark _ _).trans rfl)))

theorem fireAll_motion (test : EventEntry → Option EventEntry) (s : State) : (fireAll test s).motion = s.motion :=
  fireAll_induct (P := fun t => t.motion = s.motion) rfl fun i e t h => (fire_motion i e t).trans h

theorem cycleTests_motion (s : State) : (cycleTests s).motion = s.motion := by
  unfold cycleTests
  split
  · exact fireAll_motion _ s
  · rfl

theorem completionTests_motion (k : Computation) (s : State) : (completionTests k s).motion = s.motion := by
  unfold completionTests
  split
  · exact fireAll_motion _ s
  · rfl

/-! ### The profile player -/

theorem openPhase_motion (p : Nat) (s : State) : (openPhase p s).motion = s.motion := submit_motion _ s

theorem startSegment_motion (g : Segment) (rest : List Segment) (s : State) : (startSegment g rest s).motion = s.motion := by
  unfold startSegment
  dsimp only
  split
  · exact (openPhase_motion _ _).trans (submit_motion _ _)
  · exact submit_motion _ _

theorem endProfile_halts (e : EndReason) (s : State) : Halts s (endProfile e s) := by
  unfold endProfile
  dsimp only
  split
  · exact (enterStopping_halts _ _ _).after (playerEnd_motion e s)
  · exact .of_eq (playerEnd_motion e s)

theorem underrunTest_halts (s : State) : Halts s (underrunTest s) := .ite (enterStopping_halts _ _ s)

theorem enterUnderrun_halts (s : State) : Halts s (enterUnderrun s) :=
  (underrunTest_halts _).after (raiseFault_low_motion _ _ (by decide))

theorem decideEnd_halts (hold : Bool) (g : Segment) (s : State) : Halts s (decideEnd hold g s) := by
  unfold decideEnd
  split
  · exact .of_eq (submit_motion _ _)
  · split
    · exact endProfile_halts _ s
    · split
      · exact .of_eq (startSegment_motion _ _ s)
      · exact enterUnderrun_halts s

theorem playerWork_halts (s : State) : Halts s (playerWork s) := by
  unfold playerWork
  split
  · dsimp only
    split
    · exact (decideEnd_halts _ _ _).after (submit_motion _ _)
    · exact .of_eq rfl
  · split
    · exact .of_eq (startSegment_motion _ _ s)
    · exact underrunTest_halts s
  · exact Halts.refl s

theorem bandCheck_motion (s : State) : (bandCheck s).motion = s.motion := by
  unfold bandCheck
  split
  · split
    · dsimp only
      split
      · exact raiseFault_low_motion { kind := .tolerance, detail := _ } _ (le_of_lt (by decide : 3 < FaultKind.tolerance.level))
      · rfl
    · rfl
  · rfl

theorem playAndCheck_halts (s : State) : Halts s (playAndCheck s) := .ite ((playerWork_halts s).before (bandCheck_motion _))

theorem takeAppend_motion (g : Segment) (s : State) : (takeAppend g s).1.motion = s.motion := by
  unfold takeAppend
  split
  · rfl
  · split
    · rfl
    · split <;> rfl

theorem releaseHeld_halts (a : HoldAction) (g : Segment) (s : State) : Halts s (releaseHeld a g s) := by
  cases a with
  | goOn => exact decideEnd_halts _ g s
  | again => exact .of_eq (startSegment_motion g _ s)
  | finish => exact endProfile_halts _ s
  | other k => exact Halts.refl s

theorem takeReleaseHold_halts (a : HoldAction) (s : State) : Halts s (takeReleaseHold a s).1 := by
  unfold takeReleaseHold
  split
  · exact Halts.refl s
  · split
    · exact releaseHeld_halts _ _ s
    · exact Halts.refl s

/-! ### The run controller -/

theorem playerStart_motion (s : State) : (playerStart s).motion = s.motion := by
  unfold playerStart
  dsimp only
  split
  · exact startSegment_motion _ _ _
  · rfl

theorem startRun_kept {p : Prop} (mode : RunMode) (tag : Nat) (m : Mask) (count : Bool) (s : State) (h : s.run.op = .ready) :
    Kept p s (startRun mode tag m count s) := by
  unfold startRun
  dsimp only
  have hm := (moveMask_motion m StationRec.toCapture .startRun _).trans (playerStart_motion { s with
    run := { s.run with count := 0, tag := tag, mode := mode, countEnable := count, fresh := true }
    axle := s.axle.started
    events := { s.events with entries := rebaseEvents s.events.entries } })
  generalize moveMask m StationRec.toCapture .startRun _ = u at hm ⊢
  have hrun : ({ u with run := { u.run with op := .run } } : State).motion = { s.motion with op := .run, v := 0, frac := 0 } :=
    congrArg (fun k : Motion => { k with op := .run }) hm
  refine Kept.before ?_ (submitState_motion _ _ _ _ _)
  refine ⟨fun _ hs => ?_, fun hs => ?_⟩ <;> rw [hrun]
  · exact ⟨.inr rfl, hs.limit_nonneg, fun _ => rfl, fun _ => hs.locked (congrArg OpState.running h)⟩
  · exact ⟨le_refl _, by norm_num, hs.before⟩

theorem takeStartRun_kept {p : Prop} (mode tag : Nat) (m : Mask) (count : Nat) (s : State) :
    Kept p s (takeStartRun mode tag m count s).1 := by
  unfold takeStartRun
  split
  · exact Kept.refl s
  · rename_i h
    split
    · exact Kept.refl s
    · split
      · exact Kept.refl s
      · split
        · exact Kept.refl s
        · split
          · exact Kept.refl s
          · dsimp only
            exact startRun_kept _ _ _ _ s (not_not.mp h)

theorem takeStopRun_halts (s : State) : Halts s (takeStopRun s).1 := by
  unfold takeStopRun
  split
  · exact enterStopping_halts _ _ s
  · exact Halts.refl s
  · exact Halts.refl s

/-- A run ends with the axle at rest (R127). -/
theorem runEnd_kept {p : Prop} (s : State) (h : s.run.op = .stopping) (hv : p → s.axle.v = 0) : Kept p s (runEnd s) := by
  rw [runEnd_eq]
  have hi := idleEngaged_motion .runEnd s
  generalize idleEngaged .runEnd s = u at hi ⊢
  have hm : (runFinished u).motion = { s.motion with op := .ready } := congrArg (fun k : Motion => { k with op := .ready }) hi
  refine Kept.before ?_ (submitState_motion _ _ _ _ _)
  refine ⟨fun hp hs => ?_, fun hs => ?_⟩ <;> rw [hm]
  · exact ⟨.inr (hv hp), hs.within, hs.stands, fun _ => hs.locked (congrArg OpState.running h)⟩
  · exact ⟨hs.nonneg, hs.below, hs.before⟩

theorem takeService_motion (n op index : Nat) (v : Int) (s : State) : (takeService n op index v s).1.motion = s.motion := by
  unfold takeService
  split
  · rfl
  · split
    · split
      · rfl
      · split <;> rfl
    · rfl

theorem takeResetRun_kept {p : Prop} (orderly : Bool) (s : State) : Kept p s (takeResetRun orderly s).1 := by
  unfold takeResetRun
  split
  · exact Kept.refl s
  · split
    · exact Halts.kept ((enterStopping_halts _ _ _).after rfl)
    · split
      · exact .of_eq rfl
      · exact runReset_kept s

theorem takeReset_kept {p : Prop} (l m x : Nat) (s : State) : Kept p s (takeReset l m x s).1 := by
  unfold takeReset
  split
  · exact Kept.refl s
  · split
    · exact .of_eq rfl
    · exact takeResetRun_kept _ s

theorem takeClearFault_kept {p : Prop} (s : State) : Kept p s (takeClearFault s).1 := by
  have hc : (clearStations (updateFaults Faults.cleared s)).motion = s.motion :=
    (clearStations_motion _).trans (updateFaults_motion _ s)
  unfold takeClearFault
  split
  · exact Kept.refl s
  · exact Kept.refl s
  · exact Kept.refl s
  · exact .of_eq (updateFaults_motion _ s)
  · split
    · exact Kept.refl s
    · dsimp only
      split
      · rename_i hs
        generalize clearStations (updateFaults Faults.cleared s) = u at hc ⊢
        have ho : u.run.op = .safe := (congrArg Motion.op hc).trans hs
        exact (resettle_kept _ _ _ (by rw [ho]; rfl)).after hc
      · exact .of_eq hc

theorem silenceUpdate_kept {p : Prop} (s : State) : Kept p s (silenceUpdate s) := by
  unfold silenceUpdate
  dsimp only
  split
  · exact Kept.after (raiseFault_kept _ _) rfl
  · exact .of_eq rfl

theorem settleUpdate_kept {p : Prop} (s : State) : Kept p s (settleUpdate s) := by
  unfold settleUpdate
  split
  · rename_i h
    dsimp only
    split
    · refine Kept.before ?_ (submitState_motion _ _ _ _ _)
      refine ⟨fun _ hs => ⟨.inr ?_, hs.within, hs.stands, fun _ => hs.locked (congrArg OpState.running h)⟩,
        fun hs => ⟨hs.nonneg, hs.below, hs.before⟩⟩
      exact hs.rests.resolve_left (by show ¬s.run.op.inRun = true; rw [h]; simp [OpState.inRun])
    · split
      · exact Kept.after (raiseFault_kept _ _) rfl
      · exact .of_eq rfl
  · exact Kept.refl s

theorem countCycle_motion (s : State) : (countCycle s).motion = s.motion := by
  unfold countCycle
  split <;> rfl

/-! ### The link cycle -/

theorem settleReport_motion (s : State) : (settleReport s).motion = s.motion := by
  unfold settleReport
  split
  · exact submit_motion _ s
  · rfl

theorem beginPulse_motion (s : State) : (beginPulse s).motion = s.motion := by
  unfold beginPulse
  split <;> rfl

theorem publish_motion (s : State) : (publish s).motion = s.motion := rfl

theorem openCycle_motion (s : State) : (openCycle s).motion = s.motion := rfl

theorem roundStart_motion (b : Bool) (s : State) : (roundStart b s).motion = s.motion := by
  unfold roundStart
  split
  · rw [settleReport_motion, cycleTests_motion, publish_motion]
  · rw [settleReport_motion, publish_motion, cycleTests_motion]

theorem cycleStartWith_motion (f : Nat → Bool) (s : State) : (cycleStartWith f s).motion = s.motion := by
  have h : (beginPulse (openCycle s)).motion = s.motion := (beginPulse_motion _).trans (openCycle_motion s)
  unfold cycleStartWith
  dsimp only
  split
  · exact (roundStart_motion _ _).trans h
  · exact (cycleTests_motion _).trans h

theorem closeChecks_kept {p : Prop} (o : CountOrder) (s : State) : Kept p s (closeChecks o s) := by
  cases o with
  | beforeLink =>
    exact (((closeLink_kept _).after (countCycle_motion s)).trans (silenceUpdate_kept _)).trans (settleUpdate_kept _)
  | beforeSilence =>
    exact (((closeLink_kept s).before (countCycle_motion _)).trans (silenceUpdate_kept _)).trans (settleUpdate_kept _)
  | afterSilence =>
    exact (((closeLink_kept s).trans (silenceUpdate_kept _)).before (countCycle_motion _)).trans (settleUpdate_kept _)

/-- The computation before is gone when a close begins. -/
theorem compDropped_kept {p : Prop} (s : State) (k : Nat) : Kept p s { s with comp := none, free := k } :=
  ⟨fun _ hs => ⟨hs.rests, hs.within, fun h => (by cases h), hs.locked⟩,
    fun hs => ⟨hs.nonneg, hs.below, le_refl _, by show (0 : Int) < 65536; norm_num⟩⟩

theorem cycleCloseWith_kept {p : Prop} (f : Nat → CountOrder) (s : State) : Kept p s (cycleCloseWith f s) := by
  have go : ∀ (o : CountOrder) (k : Nat), (s.run.op.inRun = false → o = .beforeLink) →
      Kept p s (compute (closeChecks o { s with comp := none, free := k })) := fun o k ho => by
    obtain ⟨c, d, x, hx, _, _, hout⟩ := closeChecks_out o s k ho
    have hc := hout.checked.comp
    rw [← hx] at hc
    exact ((compDropped_kept s k).trans (closeChecks_kept o _)).trans (compute_kept _ hc)
  unfold cycleCloseWith
  dsimp only
  split
  · rename_i h
    exact go _ _ fun hn => by rw [h] at hn; cases hn
  · exact go _ _ fun _ => rfl

theorem finishRun_kept {p : Prop} (b : Bool) (s : State) (h : p → b = true → s.axle.v = 0) : Kept p s (finishRun b s) := by
  unfold finishRun
  split
  · rename_i hb
    simp only [Bool.and_eq_true, beq_iff_eq] at hb
    split
    · exact runReset_kept s
    · exact runEnd_kept s hb.2 fun hp => h hp hb.1
  · exact Kept.refl s

theorem completionWork_kept {p : Prop} (o : CompletionOrder) (k : Computation) (s : State)
    (h : p → k.standstill = true → s.axle.v = 0) : Kept p s (completionWork o k s) := by
  have e := completionTests_motion k
  have t := traceCapture_motion k
  have r : ∀ u, u.motion = s.motion → Kept p s (finishRun k.standstill u) := fun u hu =>
    (finishRun_kept k.standstill u fun hp hk => (congrArg Motion.v hu).trans (h hp hk)).after hu
  cases o with
  | eventsCaptureEnd => exact r _ ((t _).trans (e s))
  | eventsEndCapture => exact (r _ (e s)).before (t _)
  | captureEventsEnd => exact r _ ((e _).trans (t s))
  | captureEndEvents => exact (r _ (t s)).before (e _)
  | endEventsCapture => exact (r s rfl).before ((t _).trans (e _))
  | endCaptureEvents => exact (r s rfl).before ((e _).trans (t _))

/-- A computation reports standstill only of an axle at rest. -/
theorem standstill_rests (s : State) (h : s.motion.Safe) (hk : s.computation.standstill = true) : s.axle.v = 0 := by
  unfold State.computation at hk
  cases hc : s.comp with
  | none =>
    rw [hc] at hk
    simp only [Option.getD_none, Bool.and_eq_true, beq_iff_eq] at hk
    exact hk.2
  | some k =>
    rw [hc] at hk
    exact h.stands ((congrArg (fun c => Option.any Computation.standstill c) hc).trans hk)

theorem completionWith_kept (f : Nat → CompletionOrder) (s : State) : Kept s.motion.Safe s (completionWith f s) := by
  have hdrop : ∀ (b : Bool) (k : Nat),
      Kept s.motion.Safe s { s with comp := none, trace := { s.trace with waiting := b }, free := k } := fun b k =>
    (compDropped_kept s k).before rfl
  unfold completionWith
  dsimp only
  split
  · have hp := playAndCheck_halts { s with
      comp := none, trace := { s.trace with waiting := if s.comp.isSome then s.trace.waiting else false }, free := s.free + 1 }
    refine ((hdrop _ _).trans hp.kept).trans (completionWork_kept _ _ _ fun hs hk => ?_)
    exact hp.v.trans (standstill_rests s hs hk)
  · exact ((hdrop _ _).trans (playAndCheck_halts _).kept).before (traceCapture_motion _ _)

end Sys2Proof.Machine
end

section
/-! O5: the threshold steps, the port and the commands keep the bounds of the axle. -/

namespace Sys2Proof.Machine

/-! ### The threshold steps -/

theorem serviceTimeout_motion (n : Station) (s : State) : (serviceTimeout n s).motion = s.motion := by
  unfold serviceTimeout
  split
  · exact serviceStation_motion n s
  · rfl

theorem judgeIf_kept {p : Prop} (q : StationEvent → Bool) (n : Station) (s : State) : Kept p s (judgeIf q n s) := by
  unfold judgeIf
  split
  · exact Kept.refl s
  · dsimp only
    split
    · exact (applyJudging_kept _ _ _).after (updateSeen_motion _ _ s)
    · exact Kept.refl s

theorem laneDegradedStep_kept {p : Prop} (n : Station) (l : Lane) (s : State) : Kept p s (laneDegradedStep n l s) := by
  unfold laneDegradedStep
  split
  · exact Kept.refl s
  · exact .ite fun _ => mergeStation_kept n _ s

theorem windupStep_kept {p : Prop} (s : State) : Kept p s (windupStep s) := .ite fun _ => windupStage_kept s

theorem settledStep_kept {p : Prop} (s : State) : Kept p s (settledStep s) := .ite fun _ => settleUpdate_kept s

theorem settleFailStep_kept {p : Prop} (s : State) : Kept p s (settleFailStep s) := .ite fun _ => settleUpdate_kept s

theorem linkLostStep_kept {p : Prop} (s : State) : Kept p s (linkLostStep s) := .ite fun _ => silenceUpdate_kept s

theorem toleranceStep_motion (s : State) : (toleranceStep s).motion = s.motion := by
  unfold toleranceStep
  split
  · exact bandCheck_motion s
  · rfl

/-! ### The cell link port -/

theorem moveAnswer_motion (m : Mask) (f : StationRec → StationRec) (reason : StationReason) (s : State) :
    (moveAnswer m f reason s).1.motion = s.motion := by
  unfold moveAnswer
  dsimp only
  exact moveMask_motion m f reason s

theorem takeEngage_motion (m : Mask) (s : State) : (takeEngage m s).1.motion = s.motion := by
  unfold takeEngage
  split
  · rfl
  · split
    · rfl
    · exact moveAnswer_motion _ _ _ s

theorem takeRecapture_motion (m : Mask) (s : State) : (takeRecapture m s).1.motion = s.motion := by
  unfold takeRecapture
  split
  · rfl
  · split
    · rfl
    · exact moveAnswer_motion _ _ _ s

theorem takeRelease_motion (m : Mask) (s : State) : (takeRelease m s).1.motion = s.motion := by
  unfold takeRelease
  split
  · rfl
  · split
    · rfl
    · exact moveAnswer_motion _ _ _ s

theorem takeAddEvent_motion (t : TriggerArg) (a r p : Nat) (s : State) : (takeAddEvent t a r p s).1.motion = s.motion := by
  unfold takeAddEvent
  split
  · rfl
  · split
    · rfl
    · split <;> rfl

theorem takeModifyEvent_motion (n : Nat) (t : TriggerArg) (s : State) : (takeModifyEvent n t s).1.motion = s.motion := by
  unfold takeModifyEvent
  split
  · split
    · rfl
    · split
      · rfl
      · split <;> rfl
  · rfl

theorem takeRemoveEvent_motion (n : Nat) (s : State) : (takeRemoveEvent n s).1.motion = s.motion := by
  unfold takeRemoveEvent
  split
  · split <;> rfl
  · rfl

theorem takeClearEvents_motion (x : ClearArg) (s : State) : (takeClearEvents x s).1.motion = s.motion := by
  unfold takeClearEvents
  split
  · rfl
  · rfl
  · split <;> rfl

theorem takeSetCounter_motion (a : CounterArg) (s : State) : (takeSetCounter a s).1.motion = s.motion := by
  unfold takeSetCounter
  split <;> rfl

theorem takeSetWatch_motion (n st : Nat) (s : State) : (takeSetWatch n st s).1.motion = s.motion := by
  unfold takeSetWatch
  split
  · dsimp only
    split <;> split <;> rfl
  · rfl

theorem takeBlock_kept {p : Prop} (r : Request) (s : State) : Kept p s (takeBlock r s).1 := by
  cases r with
  | badKind => exact Kept.refl s
  | badLength => exact Kept.refl s
  | getStatus => exact Kept.refl s
  | getStation n => exact .of_eq (congrArg State.motion (takeGetStation_state n s))
  | commissionCell k => exact takeCommissionCell_kept k s
  | commissionWrite n b => exact .of_eq (takeCommissionWrite_motion n b s)
  | commissionClear n => exact .of_eq (takeCommissionClear_motion n s)
  | commissionOther => exact .of_eq (congrArg State.motion (takeCommissionOther_state s))
  | storeCommissioning => exact .of_eq (takeStore_motion s)
  | leaveConfig => exact takeLeaveConfig_kept s
  | setParam i v => exact .of_eq (takeSetParam_motion i v s)
  | getParam i => exact .of_eq (congrArg State.motion (takeGetParam_state i s))
  | setRoadLoad a b c m => exact .of_eq rfl
  | appendSegment g => exact .of_eq (takeAppend_motion g s)
  | discardSegments => exact .of_eq rfl
  | startRun m t e k => exact takeStartRun_kept m t e k s
  | stopRun => exact (takeStopRun_halts s).kept
  | releaseHold a => exact (takeReleaseHold_halts a s).kept
  | engage m => exact .of_eq (takeEngage_motion m s)
  | release m => exact .of_eq (takeRelease_motion m s)
  | recapture m => exact .of_eq (takeRecapture_motion m s)
  | addEvent t a r p => exact .of_eq (takeAddEvent_motion t a r p s)
  | modifyEvent n t => exact .of_eq (takeModifyEvent_motion n t s)
  | removeEvent n => exact .of_eq (takeRemoveEvent_motion n s)
  | clearEvents x => exact .of_eq (takeClearEvents_motion x s)
  | setCounter x => exact .of_eq (takeSetCounter_motion x s)
  | setWatch n st => exact .of_eq (takeSetWatch_motion n st s)
  | readCounters => exact Kept.refl s
  | setTrace m d p e => exact .of_eq (takeSetTrace_motion m d p e s)
  | readTrace n => exact .of_eq rfl
  | readFaults => exact Kept.refl s
  | clearFault => exact takeClearFault_kept s
  | service n o i v => exact .of_eq (takeService_motion n o i v s)
  | reset l m x => exact takeReset_kept l m x s

theorem takeRequest_kept {p : Prop} (r : Request) (s : State) : Kept p s (takeRequest r s).1 := by
  unfold takeRequest
  split
  · exact Kept.refl s
  · exact Kept.refl s
  · split
    · exact Kept.refl s
    · exact takeBlock_kept _ s

theorem serveFront_kept {p : Prop} (s : State) : Kept p s (serveFront s) := by
  unfold serveFront
  split
  · split
    · exact Kept.refl s
    · rename_i q _ _
      have h : Kept p s (takeRequest q.req s).1 := takeRequest_kept q.req s
      split
      · rename_i t a ht
        rw [ht] at h
        exact h.before rfl
      · rename_i t ht
        rw [ht] at h
        exact h.before rfl
  · exact Kept.refl s

theorem arrive_motion (q : Queued) (s : State) : (arrive q s).motion = s.motion := by
  unfold arrive
  split
  · rfl
  · split <;> rfl

theorem received_kept {p : Prop} (q : Queued) (s : State) : Kept p s (received q s) := by
  unfold received
  split
  · exact Kept.refl s
  · exact (serveFront_kept _).after (arrive_motion _ _)

theorem completeRecord_kept {p : Prop} (r : Record) (s : State) : Kept p s (completeRecord r s) := by
  unfold completeRecord
  split
  · exact Kept.refl s
  · split
    · exact .of_eq rfl
    · exact received_kept _ s

theorem discardIfReceiving_motion (s : State) : (discardIfReceiving s).motion = s.motion := by
  unfold discardIfReceiving
  split <;> rfl

theorem beginRecord_motion (s : State) : (beginRecord s).motion = s.motion := by
  unfold beginRecord
  split <;> rfl

theorem replySent_kept {p : Prop} (s : State) : Kept p s (replySent s) := by
  unfold replySent
  split
  · exact .of_eq rfl
  · dsimp only
    split
    · split <;> exact .of_eq rfl
    · exact Kept.after (serveFront_kept _) rfl

theorem transmitEnd_kept {p : Prop} (s : State) : Kept p s (transmitEnd s) := by
  unfold transmitEnd
  split
  · exact Kept.refl s
  · exact .of_eq rfl
  · exact replySent_kept s

theorem completeStore_motion (r : StoreResult) (s : State) : (completeStore r s).motion = s.motion := by
  unfold completeStore
  split
  · dsimp only
    split <;> rfl
  · rfl

/-! ### The commands -/

/-- The transmitter's choice at a command's end leaves the motion alone. -/
theorem Kept.done {p : Prop} {s u t : State} (h : Kept p s u) (ht : done u = .next t) : Kept p s t := by
  cases ht
  exact h.before (pumpTx_motion u)

theorem request_kept {p : Prop} {kind tag : Byte} {r : Request} {s t : State} (ht : request kind tag r s = .next t) :
    Kept p s t := (received_kept _ s).done ht

theorem beginFullReset_kept {p : Prop} (x : Straps) (s : State) : Kept p s (beginFullReset x s) := by
  unfold beginFullReset
  split
  · exact .ite fun _ => fullReset_kept _ _ _ _ _ s
  · exact Kept.refl s

/-- Every command keeps the bounds of the axle. -/
theorem exec_kept (i : Instr) (s t : State) (h : exec i s = .next t) : Kept s.motion.Safe s t := by
  cases i with
  | powerUp straps cut => exact (fullReset_kept _ _ _ _ _ s).done h
  | resetLineLow cut =>
    refine Kept.done ?_ h
    split
    · exact Kept.refl s
    · exact fullReset_kept _ _ _ _ _ s
  | resetLineHigh straps => exact (Kept.ite fun _ => fullReset_kept _ _ _ _ _ s).done h
  | estopAsserted =>
    refine Kept.done ?_ h
    exact (checkEstop_kept _).after rfl
  | estopReleased => exact Kept.done (u := { s with pins := { s.pins with estop := false } }) (.of_eq rfl) h
  | loadCompletion answers => exact (completeLoad_kept answers s).done h
  | storeCompletion result => exact (Kept.of_eq (completeStore_motion result s)).done h
  | fullReset straps => exact (beginFullReset_kept straps s).done h
  | cycleStart => exact (Kept.ite fun _ => .of_eq (cycleStartWith_motion _ s)).done h
  | slotEnd n a b => exact (Kept.ite fun _ => .of_eq (endSlot_motion n a b s)).done h
  | cycleClose => exact (Kept.ite fun _ => cycleCloseWith_kept _ s).done h
  | cycleComputationCompletion => exact (Kept.ite fun _ => completionWith_kept _ s).done h
  | markerPulseEnd => exact Kept.done (u := { s with pins := { s.pins with marker := false } }) (.of_eq rfl) h
  | recordReceived r => exact (completeRecord_kept r s).done h
  | receptionTimeout => exact (Kept.of_eq (discardIfReceiving_motion s)).done h
  | lineFramingError => exact (Kept.of_eq (discardIfReceiving_motion s)).done h
  | bodyLengthAboveLimit => exact (Kept.of_eq (discardIfReceiving_motion s)).done h
  | startByte => exact (Kept.of_eq (beginRecord_motion s)).done h
  | transmitComplete => exact (transmitEnd_kept s).done h
  | badKind kind tag =>
    simp only [exec, execBadKind] at h
    split at h
    · exact (Kept.refl s).done h
    · exact request_kept h
  | serviceTimeout n => exact (Kept.of_eq (serviceTimeout_motion n s)).done h
  | settled => exact (settledStep_kept s).done h
  | settleFail => exact (settleFailStep_kept s).done h
  | linkLost => exact (linkLostStep_kept s).done h
  | windup => exact (windupStep_kept s).done h
  | slipTimerExpiry n => exact (judgeIf_kept _ n s).done h
  | captureFail n => exact (judgeIf_kept _ n s).done h
  | stationLost n c => exact (judgeIf_kept _ n s).done h
  | captured n => exact (judgeIf_kept _ n s).done h
  | laneDegraded n l => exact (laneDegradedStep_kept n l s).done h
  | tolerance => exact (Kept.of_eq (toleranceStep_motion s)).done h
  | _ => exact request_kept h

/-- Every step keeps the bounds of the axle. -/
theorem step_kept (s t : State) (h : step s = .next t) : Kept s.motion.Safe s t := by
  unfold step at h
  split at h
  · cases h
    exact Kept.refl s
  · rename_i c rest _
    exact Kept.after (s' := { s with pending := rest }) (exec_kept c _ t h) rfl

/-- Settles O5: every step keeps the bounds of the axle's motion, and of its fraction without any other. -/
theorem axleStaysWithinItsLimits : Obligations.AxleStaysWithinItsLimits := by
  refine ⟨fun s t hs h => ?_, fun s t hs h => ?_⟩
  · have hm := (axleSafe_iff s).mp hs
    exact (axleSafe_iff t).mpr ((step_kept s t h).safe hm hm)
  · exact (fractionSound_iff t).mpr ((step_kept s t h).fraction ((fractionSound_iff s).mp hs))

end Sys2Proof.Machine
end

section
/-! O50 and O49: the rounding of the manual, the count delta, and the ROAD step of the virtual axle. -/

namespace Sys2Proof.Machine

/-! ### Rounding to nearest (00_scope.md) -/

/-- A multiple of d is 0 or lies at least d away from 0. -/
theorem multiple_apart (q : Int) {d : Int} (hd : 0 < d) : q * d ≤ -d ∨ q * d = 0 ∨ d ≤ q * d := by
  rcases lt_trichotomy q 0 with h | h | h
  · exact .inl (by nlinarith)
  · exact .inr (.inl (by rw [h, zero_mul]))
  · exact .inr (.inr (by nlinarith))

/-- q is a nearest whole number to n / d, and of two the one further from 0. -/
def nearest (n d q : Int) : Prop :=
  2 * (n - q * d).natAbs < d ∨ (2 * (n - q * d).natAbs = d ∧ n.natAbs < (q * d).natAbs)

theorem nearest_neg (n d q : Int) : nearest (-n) d (-q) ↔ nearest n d q := by
  unfold nearest
  rw [neg_mul, Int.natAbs_neg, Int.natAbs_neg, show -n - -(q * d) = -(n - q * d) by ring, Int.natAbs_neg]

theorem roundDiv_neg {n d : Int} (hn : n < 0) : roundDiv n d = -roundDiv (-n) d := by
  unfold roundDiv
  rw [if_neg (by omega), if_pos (by omega)]

theorem roundDiv_eq_iff_of_nonneg {n d : Int} (q : Int) (hn : 0 ≤ n) (hd : 0 < d) : roundDiv n d = q ↔ nearest n d q := by
  have hle : q ≤ (2 * n + d) / (2 * d) ↔ 2 * (q * d) ≤ 2 * n + d := by
    rw [Int.le_ediv_iff_mul_le (by omega), mul_left_comm]
  have hlt : (2 * n + d) / (2 * d) < q + 1 ↔ 2 * n + d < 2 * (q * d) + 2 * d := by
    rw [Int.ediv_lt_iff_lt_mul (by omega), add_one_mul, mul_left_comm]
  have hp := multiple_apart q hd
  unfold roundDiv nearest
  rw [if_pos hn]
  generalize (2 * n + d) / (2 * d) = k at hle hlt
  generalize q * d = m at hle hlt hp
  omega

theorem roundDiv_eq_iff (n q : Int) {d : Int} (hd : 0 < d) : roundDiv n d = q ↔ nearest n d q := by
  rcases lt_or_ge n 0 with hn | hn
  · rw [roundDiv_neg hn, neg_eq_iff_eq_neg, roundDiv_eq_iff_of_nonneg _ (by omega) hd, nearest_neg]
  · exact roundDiv_eq_iff_of_nonneg q hn hd

/-! ### The count delta (R50) -/

theorem countDelta_range (new last : Word32) : -2147483648 ≤ countDelta new last ∧ countDelta new last ≤ 2147483647 := by
  have hl := (new - last).isLt
  have h := BitVec.toInt_eq_toNat_cond (new - last)
  unfold countDelta
  generalize (new - last).toInt = x at h ⊢
  split at h <;> omega

theorem countDelta_mod (new last : Word32) : (countDelta new last - ((new.toNat : Int) - last.toNat)) % 4294967296 = 0 := by
  unfold countDelta
  have h := BitVec.toInt_eq_toNat_cond (new - last)
  rw [BitVec.toNat_sub] at h
  have hn := new.isLt
  have hl := last.isLt
  split at h <;> omega

/-- Settles O50: the bounds a quotient lies within decide it, and the delta is read as signed. -/
theorem roundingIsToNearest : Obligations.RoundingIsToNearest :=
  ⟨fun n _ q hd => roundDiv_eq_iff n q hd,
    fun new last => ⟨(countDelta_range new last).1, (countDelta_range new last).2, countDelta_mod new last⟩, by decide, by decide⟩

/-! ### The ROAD step (R32 to R37) -/

theorem limited_v {l : Int} (h : 0 ≤ l) (v road grade net : Int) : (limited l v road grade net).v = max (-l) (min l v) :=
  limitMag_eq l v h

theorem limited_overspeed (l v road grade net : Int) : (limited l v road grade net).overspeed = true ↔ l < (v.natAbs : Int) :=
  decide_eq_true_iff

theorem roadStep_rests (p : Params) (T limit grade f : Int) (h : ((f - gradeForce p.mass grade).natAbs : Int) ≤ p.a) :
    roadStep p T limit 0 grade f =
      { v := 0, road := 0, grade := gradeForce p.mass grade, net := 0, overspeed := false } := by
  unfold roadStep
  dsimp only
  rw [if_pos rfl, if_pos h]

theorem roadStep_starts (p : Params) (T limit grade f : Int) (h : ¬((f - gradeForce p.mass grade).natAbs : Int) ≤ p.a) :
    let drive := f - gradeForce p.mass grade
    roadStep p T limit 0 grade f = limited limit (speedChange (drive - drive.sign * p.a) T p.mass) (drive.sign * p.a)
      (gradeForce p.mass grade) (drive - drive.sign * p.a) := by
  unfold roadStep
  dsimp only
  rw [if_pos rfl, if_neg h]

theorem roadStep_moving (p : Params) (T limit grade f : Int) {v : Int} (h : v ≠ 0) :
    let fg := gradeForce p.mass grade
    let road := roadForce p.a p.b p.c v (displaySpeed v T)
    let v' := v + speedChange (f - road - fg) T p.mass
    roadStep p T limit v grade f =
      if v' = 0 ∨ v'.sign = -v.sign then { v := 0, road := road, grade := fg, net := f - road - fg, overspeed := false }
      else limited limit v' road fg (f - road - fg) := by
  unfold roadStep
  dsimp only
  rw [if_neg h]

/-- A speed of the other sign. -/
theorem sign_crosses {v w : Int} (h : v ≠ 0) : (w = 0 ∨ w.sign = -v.sign) ↔ w = 0 ∨ (0 < v ∧ w < 0) ∨ (v < 0 ∧ 0 < w) := by
  rcases lt_or_gt_of_ne h with hv | hv
  · rw [Int.sign_eq_neg_one_of_neg hv, neg_neg, Int.sign_eq_one_iff_pos]
    omega
  · rw [Int.sign_eq_one_of_pos hv, Int.sign_eq_neg_one_iff_neg]
    omega

/-- Settles O49, by the three cases of the step: held at rest, moved from rest, moving. -/
theorem roadStepFollowsTheForces : Obligations.RoadStepFollowsTheForces := by
  intro p T limit v grade f hl
  have hfg : roundDiv ((p.mass : Int) * grade * 980665) 100000000 = gradeForce p.mass grade := rfl
  dsimp only
  rw [hfg]
  by_cases hv : v = 0
  · subst hv
    by_cases hd : ((f - gradeForce p.mass grade).natAbs : Int) ≤ p.a
    · rw [roadStep_rests p T limit grade f hd]
      refine ⟨rfl, fun _ _ _ => ⟨rfl, rfl, rfl, rfl⟩, fun _ h => by omega, fun _ h => by omega, fun h => absurd rfl h⟩
    · rw [roadStep_starts p T limit grade f hd]
      refine ⟨rfl, fun _ h1 h2 => by omega, fun _ h => ?_, fun _ h => ?_, fun h => absurd rfl h⟩
      · have hs : (f - gradeForce p.mass grade).sign = 1 := Int.sign_eq_one_of_pos (by omega)
        rw [hs]
        exact ⟨by simp [limited], by simp [limited], limited_v hl _ _ _ _, limited_overspeed _ _ _ _ _⟩
      · have hs : (f - gradeForce p.mass grade).sign = -1 := Int.sign_eq_neg_one_of_neg (by omega)
        rw [hs]
        exact ⟨by simp [limited], by simp [limited], limited_v hl _ _ _ _, limited_overspeed _ _ _ _ _⟩
  · rw [roadStep_moving p T limit grade f hv]
    split
    · rename_i h
      have hcross := (sign_crosses hv).mp h
      unfold speedChange at hcross
      refine ⟨rfl, fun h => absurd h hv, fun h => absurd h hv, fun h => absurd h hv, fun _ =>
        ⟨rfl, rfl, fun _ => ⟨rfl, rfl⟩, fun hsame => ?_⟩⟩
      dsimp only at hsame
      omega
    · rename_i h
      have hcross := mt (sign_crosses hv).mpr h
      refine ⟨rfl, fun h => absurd h hv, fun h => absurd h hv, fun h => absurd h hv, fun _ =>
        ⟨rfl, rfl, fun hstop => absurd hstop hcross, fun _ => ⟨limited_v hl _ _ _ _, limited_overspeed _ _ _ _ _⟩⟩⟩

end Sys2Proof.Machine
end

section
/-! SUPPORT. What GET_STATION shows of stations that move while a computation is in progress, and what their reports show. -/

namespace Sys2Proof.Machine

/-- The record GET_STATION shows of a station after the move by g of those p chooses (R79; log 7). -/
def movedSeen (s : State) (p : Station → StationRec → Bool) (g : StationRec → StationRec → StationRec) (k : Computation)
    (n : Station) : Option StationRec :=
  match s.stations[n] with
  | some r => if p n r then (k.recordsBefore[n]).map (g r) else k.recordsBefore[n]
  | none => k.recordsBefore[n]

theorem movedSeen_of_some {s : State} {p : Station → StationRec → Bool} {g : StationRec → StationRec → StationRec}
    {k : Computation} {n : Station} {r : StationRec} (h : s.stations[n] = some r) :
    movedSeen s p g k n = if p n r then (k.recordsBefore[n]).map (g r) else k.recordsBefore[n] := by
  rw [movedSeen, h]

theorem movedSeen_of_none {s : State} {p : Station → StationRec → Bool} {g : StationRec → StationRec → StationRec}
    {k : Computation} {n : Station} (h : s.stations[n] = none) : movedSeen s p g k n = k.recordsBefore[n] := by
  rw [movedSeen, h]

theorem seenAfter_some {s : State} {k : Computation} (h : s.comp = some k) (p : Station → StationRec → Bool)
    (g : StationRec → StationRec → StationRec) :
    seenAfter s p g = some { k with recordsBefore := Vector.ofFn (movedSeen s p g k) } := by
  rw [seenAfter, h]
  refine congrArg (fun v => some { k with recordsBefore := Vector.ofFn v }) (funext fun n => ?_)
  unfold movedSeen
  cases s.stations[n] <;> rfl

theorem seenAfter_none {s : State} (h : s.comp = none) (p : Station → StationRec → Bool)
    (g : StationRec → StationRec → StationRec) : seenAfter s p g = none := by
  rw [seenAfter, h]
  rfl

theorem moveStation_comp (n : Station) (r : StationRec) (f : StationRec → StationRec) (reason : StationReason) (s : State) :
    (moveStation n r f reason s).comp = s.comp.map fun k => { k with
      recordsBefore := k.recordsBefore.set n (k.recordsBefore[n].map fun b => { f b with demand := (f r).demand }) } := by
  unfold moveStation submitStation
  rw [submit_tell]
  rfl

theorem moveStation_stations (n : Station) (r : StationRec) (f : StationRec → StationRec) (reason : StationReason) (s : State) :
    (moveStation n r f reason s).stations = s.stations.set n (some (f r)) := by
  unfold moveStation submitStation
  rw [submit_tell]
  rfl

/-- What a move by f makes of the record that GET_STATION shows: f, with the demand of the moved record. -/
def shownMove (f : StationRec → StationRec) (r x : StationRec) : StationRec := { f x with demand := (f r).demand }

/-- The records GET_STATION shows with the listed stations moved, half way. -/
def shownUpTo (p : Station → StationRec → Bool) (f : StationRec → StationRec) (s : State) (l : List Station) (k : Computation)
    (m : Station) : Option StationRec :=
  if m ∈ l then movedSeen s p (shownMove f) k m else k.recordsBefore[m]

/-- The moving half way: the stations not listed are as they were, the listed ones shown as moved. -/
def MovedUpTo (p : Station → StationRec → Bool) (f : StationRec → StationRec) (s : State) (l : List Station) (t : State) : Prop :=
  (∀ m : Station, m ∉ l → t.stations[m] = s.stations[m]) ∧
    t.comp = s.comp.map fun k => { k with recordsBefore := Vector.ofFn (shownUpTo p f s l k) }

/-- Stations moved where p holds: what GET_STATION shows of them (R79; log 7). -/
theorem eachStation_seen (p : Station → StationRec → Bool) (f : StationRec → StationRec) (reason : StationReason) (s : State) :
    (eachStation (fun n r s => if p n r = true then moveStation n r f reason s else s) s).comp =
      seenAfter s p fun r x => { f x with demand := (f r).demand } := by
  show _ = seenAfter s p (shownMove f)
  have hself : ∀ k : Computation, Vector.ofFn (shownUpTo p f s [] k) = k.recordsBefore := fun k => by
    ext1 i hi
    simp [shownUpTo]
  have h : MovedUpTo p f s stationList (eachStation (fun n r s => if p n r = true then moveStation n r f reason s else s) s) := by
    refine eachStation_progress (Q := MovedUpTo p f s) ⟨fun _ _ => rfl, ?_⟩ fun l n t hn ⟨hst, hc⟩ => ?_
    · simp only [hself]
      cases s.comp <;> rfl
    · have hsame : (∀ k : Computation, movedSeen s p (shownMove f) k n = k.recordsBefore[n]) →
          ∀ k : Computation, shownUpTo p f s (l ++ [n]) k = shownUpTo p f s l k := fun hk k => by
        funext m
        by_cases hm : m = n
        · subst hm
          simp [shownUpTo, hn, hk k]
        · simp [shownUpTo, hm]
      have hlater : ∀ m : Station, m ∉ l ++ [n] → m ∉ l ∧ n ≠ m := fun m hm =>
        ⟨fun h => hm (List.mem_append_left _ h), fun h => hm (by simp [h])⟩
      unfold stationTurn
      rw [hst n hn]
      cases hr : s.stations[n] with
      | none =>
        refine ⟨fun m hm => hst m (hlater m hm).1, hc.trans ?_⟩
        simp only [hsame fun k => movedSeen_of_none hr]
      | some r =>
        dsimp only
        by_cases hp : p n r = true
        · rw [if_pos hp]
          refine ⟨fun m hm => ?_, ?_⟩
          · rw [moveStation_stations, Vector.set_get, if_neg (hlater m hm).2]
            exact hst m (hlater m hm).1
          · rw [moveStation_comp, hc, Option.map_map]
            refine congrArg (fun F => Option.map F s.comp) (funext fun k => ?_)
            dsimp only [Function.comp]
            congr 1
            ext1 i hi
            by_cases hm : (⟨i, hi⟩ : Station) = n
            · subst hm
              simp [shownUpTo, hn, movedSeen_of_some hr, hp]
              rfl
            · have hne : (n : Nat) ≠ i := fun e => hm (Fin.ext e.symm)
              simp [shownUpTo, hm, Vector.getElem_set_ne _ _ hne]
        · rw [if_neg hp]
          refine ⟨fun m hm => hst m (hlater m hm).1, hc.trans ?_⟩
          simp only [hsame fun k => by rw [movedSeen_of_some hr, if_neg hp]]
  have hall : ∀ k : Computation, shownUpTo p f s stationList k = movedSeen s p (shownMove f) k := fun k =>
    funext fun m => if_pos (mem_stationList m)
  have hcomp := h.2
  simp only [hall] at hcomp
  rw [hcomp]
  cases hc : s.comp with
  | none => exact (seenAfter_none hc _ _).symm
  | some k => exact (seenAfter_some hc _ _).symm

/-! ### The stations of a mask (R63, R64, R73, R74) -/

section
variable {s : State} {p p' : Station → StationRec → Bool} (h : ∀ (n : Station) r, s.stations[n] = some r → p n r = p' n r)
include h

/-- Only the choice among the stations with a record counts. -/
theorem stationsBecome_congr {t : State} {f : StationRec → StationRec} (hb : stationsBecome s t p f) :
    stationsBecome s t p' f := by
  intro n
  rw [hb n]
  cases hr : s.stations[n] with
  | none => rfl
  | some r => simp only [Option.map_some, h n r hr]

theorem stationReports_congr (op : OpState) (v : Int) (m : Monitor) (reason : StationReason) (f : StationRec → StationRec)
    (count : Word32) : stationReports s op v m reason p f count = stationReports s op v m reason p' f count := by
  rw [stationReports_eq, stationReports_eq]
  refine congrArg (fun g => List.filterMap g stationList) (funext fun n => ?_)
  unfold stationTold
  cases hr : s.stations[n] with
  | none => rfl
  | some r => simp only [h n r hr]

theorem seenAfter_congr (g : StationRec → StationRec → StationRec) : seenAfter s p g = seenAfter s p' g := by
  cases hc : s.comp with
  | none => rw [seenAfter_none hc, seenAfter_none hc]
  | some k =>
    rw [seenAfter_some hc, seenAfter_some hc]
    refine congrArg (fun v => some { k with recordsBefore := Vector.ofFn v }) (funext fun n => ?_)
    cases hr : s.stations[n] with
    | none => rw [movedSeen_of_none hr, movedSeen_of_none hr]
    | some r => rw [movedSeen_of_some hr, movedSeen_of_some hr, h n r hr]
end

theorem inMask_pick (s : State) (m : Mask) (p : StationRec → Bool) (n : Station) :
    inMask (s.pick m p) n = true ↔ inMask m n = true ∧ ∃ r, s.stations[n] = some r ∧ p r = true := by
  unfold State.pick
  rw [inMask_maskOf, Bool.and_eq_true]
  cases s.stations[n] <;> simp

theorem inMask_pick_some {s : State} (m : Mask) (p : StationRec → Bool) {n : Station} {r : StationRec}
    (h : s.stations[n] = some r) : inMask (s.pick m p) n = (inMask m n && p r) := by
  rw [Bool.eq_iff_iff, inMask_pick, Bool.and_eq_true, h]
  simp

/-- The stations of a mask that p chooses, moved by f to a state other than FAULTED. -/
theorem moveMask_told (m : Mask) (p : StationRec → Bool) (f : StationRec → StationRec) (reason : StationReason) (s : State)
    (hf : ∀ r, (f r).state ≠ .faulted) (hb : ∀ r, (f r).block = r.block) :
    stationsBecome s (moveMask (s.pick m p) f reason s) (fun n r => inMask m n && p r) f ∧
      (moveMask (s.pick m p) f reason s).port = s.port.tellAll s.params.reportLevel
        (stationReports s s.run.op s.axleSeen.v (s.reportMonitor reason) reason (fun n r => inMask m n && p r) f s.run.count) ∧
      (moveMask (s.pick m p) f reason s).comp =
        seenAfter s (fun n r => inMask m n && p r) fun r x => { f x with demand := (f r).demand } := by
  have hpick : ∀ (n : Station) r, s.stations[n] = some r → inMask (s.pick m p) n = (inMask m n && p r) :=
    fun _ _ => inMask_pick_some m p
  obtain ⟨hst, hport, _⟩ := eachStation_move (fun n _ => inMask (s.pick m p) n) f reason s hf hb
  have hcomp := eachStation_seen (fun n _ => inMask (s.pick m p) n) f reason s
  refine ⟨stationsBecome_congr hpick hst, ?_, ?_⟩
  · rw [← stationReports_congr hpick]
    exact hport
  · rw [← seenAfter_congr hpick]
    exact hcomp

/-- The virtual speed the replies and the reports show is one (R26). -/
theorem axleSeen_speed (s : State) : s.axleSeen.v = shownSpeed s s.axle.v := by
  unfold shownSpeed
  cases hc : s.comp with
  | none => rw [(seen_none hc).1]
  | some k =>
    rw [axleSeen_some hc]
    cases hk : k.void <;> by_cases hb : k.began = .run ∨ k.began = .stopping <;> simp [hb, hk]

theorem reportMonitor_byRequest (s : State) {reason : StationReason} (h : reason.byRequest = true) :
    s.reportMonitor reason = shownMonitor s := by
  unfold State.reportMonitor shownMonitor State.monitorSeen
  rw [if_pos h]

/-- A mask of stations with records names none without. -/
theorem namesUnknown_of_known {s : State} {m : Mask} (h : ∀ n : Station, inMask m n = true → s.stations[n] ≠ none) :
    s.namesUnknown m = false := by
  unfold State.namesUnknown State.has
  rw [List.any_eq_false]
  intro n _
  cases hm : inMask m n with
  | false => simp
  | true => simpa [Option.isSome_iff_ne_none] using h n hm

end Sys2Proof.Machine
end

section
/-! O43: ENGAGE, RECAPTURE and RELEASE. -/

namespace Sys2Proof.Machine

/-- A request whose block moves the stations of m that p chooses: the move, the reports, the reply. -/
theorem request_moves {s : State} {kind tag : Byte} {r : Request} {m : Mask} {p : StationRec → Bool}
    {f : StationRec → StationRec} {reason : StationReason} (h : s.takes) (hk : kind.toNat < 128) (hbad : r ≠ .badKind)
    (hlen : r ≠ .badLength) (hreq : reason.byRequest = true)
    (htake : takeBlock r (s.taking ⟨kind, tag, r⟩) =
      now (moveAnswer ((s.taking ⟨kind, tag, r⟩).pick m p) f reason (s.taking ⟨kind, tag, r⟩)))
    (hf : ∀ r, (f r).state ≠ .faulted) (hb : ∀ r, (f r).block = r.block) :
    ∃ t w, request kind tag r s = .next t ∧
      (∀ n : Station, inMask w n = true ↔ inMask m n = true ∧ ∃ r, s.stations[n] = some r ∧ p r = true) ∧
      stationsBecome s t (fun n r => inMask m n && p r) f ∧
      submits s t (stationReports s s.run.op (shownSpeed s s.axle.v) (shownMonitor s) reason (fun n r => inMask m n && p r) f
        s.run.count) ∧
      repliedBy { s with stations := t.stations, comp := seenAfter s (fun n r => inMask m n && p r) fun r x =>
        { f x with demand := (f r).demand } } t (kind + 128#8) tag .ok [.u8 w.toNat] := by
  obtain ⟨hst, hport, hcomp⟩ := moveMask_told m p f reason (s.taking ⟨kind, tag, r⟩) hf hb
  have hmoved := moveMask_moved ((s.taking ⟨kind, tag, r⟩).pick m p) f reason (s.taking ⟨kind, tag, r⟩)
  have hpick := inMask_pick (s.taking ⟨kind, tag, r⟩) m p
  unfold moveAnswer at htake
  generalize (s.taking ⟨kind, tag, r⟩).pick m p = w at *
  generalize moveMask w f reason (s.taking ⟨kind, tag, r⟩) = u at *
  rw [axleSeen_speed, reportMonitor_byRequest _ hreq] at hport
  have hleft : Left s { s with
      stations := u.stations
      comp := seenAfter s (fun n r => inMask m n && p r) fun r x => { f x with demand := (f r).demand } } ⟨kind, tag, r⟩
      (stationReports s s.run.op (shownSpeed s s.axle.v) (shownMonitor s) reason (fun n r => inMask m n && p r) f s.run.count)
      u := by
    refine ⟨?_, hport⟩
    have hc : u.comp = seenAfter s (fun n r => inMask m n && p r) fun r x => { f x with demand := (f r).demand } := hcomp
    have hp : u.port = { (s.taking ⟨kind, tag, r⟩).port with reports := u.port.reports, lost := u.port.lost } := by
      rw [hport]
      exact tellAll_frame _ _ _
    rw [← hc]
    conv_lhs => rw [hmoved.eq]
    unfold State.movedTo
    rw [← hp]
    rfl
  obtain ⟨h1, h2, h3⟩ := request_told h hk hbad hlen htake hleft rfl rfl
  exact ⟨_, w, h1, hpick, hst, h2, h3⟩

theorem takeEngage_moves {s : State} {m : Mask} (hop : s.run.op = .run) (hm : s.namesUnknown m = false) :
    takeEngage m s = moveAnswer (s.pick m fun r => r.state == .idle) StationRec.toCapture .engage s := by
  unfold takeEngage
  rw [if_neg (not_not.mpr hop), hm]
  rfl

theorem takeRecapture_moves {s : State} {m : Mask} (hop : s.run.op = .run) (hm : s.namesUnknown m = false) :
    takeRecapture m s = moveAnswer (s.pick m StationRec.recapturable) StationRec.toRecapture .recapture s := by
  unfold takeRecapture
  rw [if_neg (not_not.mpr hop), hm]
  rfl

theorem takeRelease_moves {s : State} {m : Mask} (hop : s.run.op.running = true) (hm : s.namesUnknown m = false) :
    takeRelease m s = moveAnswer (s.pick m engagedIn) StationRec.toIdle .release s := by
  unfold takeRelease
  rw [hop, hm]
  simp only [engaged_eq]
  rfl

theorem running_of_other {op : OpState} (hl : op ≠ .loading) (hc : op ≠ .config) : op.running = true := by
  cases op <;> first | rfl | exact absurd rfl hl | exact absurd rfl hc

/-- Settles O43: each of the three is a move of the stations of the mask that it may move. -/
theorem stationsMoveByRequest : Obligations.StationsMoveByRequest := by
  intro s tag m h hm
  have hknown : s.namesUnknown m = false := namesUnknown_of_known hm
  dsimp only
  refine ⟨fun hop => ?_, fun hop => ?_, fun hop => ?_⟩
  · exact request_moves (kind := 0x0F#8) (r := .engage m) h (by decide) (by simp) (by simp) rfl
      (congrArg now (takeEngage_moves (s := s.taking ⟨0x0F#8, tag, .engage m⟩) hop hknown)) (fun _ hf => by cases hf)
      fun _ => rfl
  · exact request_moves (kind := 0x11#8) (r := .recapture m) h (by decide) (by simp) (by simp) rfl
      (congrArg now (takeRecapture_moves (s := s.taking ⟨0x11#8, tag, .recapture m⟩) hop hknown))
      (fun _ hf => by cases hf) fun _ => rfl
  · have hrun := running_of_other h.2 hop
    exact request_moves (kind := 0x10#8) (r := .release m) h (by decide) (by simp) (by simp) rfl
      (congrArg now (takeRelease_moves (s := s.taking ⟨0x10#8, tag, .release m⟩) hrun hknown))
      (fun _ hf => by cases hf) fun _ => rfl

end Sys2Proof.Machine
end

section
/-! O37: START_RUN, its player's first segment, the stations it engages, and its reports. -/

namespace Sys2Proof.Machine

/-! ### The event table (R158) -/

theorem rebaseEvents_get (v : Vector (Option EventEntry) 16) (i : Fin 16) :
    (rebaseEvents v)[i] = v[i].map EventEntry.rebase := by
  unfold rebaseEvents
  fin_cases i <;> rfl

/-! ### The player's start (R99, R101, R102) -/

/-- The player at the start of a run whose first segment is g. -/
def firstSegment (g : Segment) (rest : List Segment) : Player :=
  { active := some g, waiting := rest, mode := .playing, point := 0, elapsed := 0, start := 0, speed := 0, clock := 0,
    phase := g.phase, phaseTol := 0, excursion := 0, raised := false, ended := none, lastTag := some g.tag }

theorem playerStart_empty {s : State} (h : s.player.waiting = []) : playerStart s = { s with player := s.player.started } := by
  have h' : s.player.started.waiting = [] := h
  unfold playerStart
  dsimp only
  rw [h']

theorem openPhase_tell (p : Nat) (s : State) : openPhase p s = { s with
    player := { s.player with phase := some p, phaseTol := 0 }
    events := { s.events with markPending := true }
    port := s.port.tell s.params.reportLevel
      (s.run.count, s.run.op, .phase p s.player.phase s.player.phaseTol s.player.clock) } := by
  unfold openPhase
  rw [submit_tell]
  rfl

/-- A segment start before its phase opens (R101). -/
def segmentBegun (g : Segment) (rest : List Segment) (s : State) : State :=
  { s with
    player := { s.player with
      active := some g, waiting := rest, mode := .playing, point := 0, elapsed := 0, start := s.player.speed, lastTag := some g.tag }
    axle := { s.axle with grade := g.grade }
    port := s.port.tell s.params.reportLevel (s.run.count, s.run.op, .segmentStarted g.tag s.player.clock rest.length) }

theorem startSegment_none {g : Segment} (h : g.phase = none) (rest : List Segment) (s : State) :
    startSegment g rest s = segmentBegun g rest s := by
  unfold startSegment segmentBegun
  dsimp only
  rw [submit_tell, h]

theorem startSegment_some {g : Segment} {p : Nat} (h : g.phase = some p) (rest : List Segment) (s : State) :
    startSegment g rest s = openPhase p (segmentBegun g rest s) := by
  unfold startSegment segmentBegun
  dsimp only
  rw [submit_tell, h]

theorem playerStart_segment {s : State} {g : Segment} {rest : List Segment} (h : s.player.waiting = g :: rest) :
    playerStart s = { s with
      player := firstSegment g rest
      axle := { s.axle with grade := g.grade }
      events := { s.events with markPending := s.events.markPending || g.phase.isSome }
      port := s.port.tellAll s.params.reportLevel (startReports s.run.count s.run.op g rest.length 0 none 0) } := by
  have h' : s.player.started.waiting = g :: rest := h
  unfold playerStart
  dsimp only
  rw [h']
  dsimp only
  unfold firstSegment startReports
  cases hp : g.phase with
  | none =>
    rw [startSegment_none hp, segmentBegun, Option.isSome_none, Bool.or_false]
    rfl
  | some p =>
    rw [startSegment_some hp, segmentBegun, openPhase_tell, Option.isSome_some, Bool.or_true]
    rfl

/-! ### Only the stations and the set decide what the moved stations show -/

section
variable {s u : State} (hst : u.stations = s.stations)
include hst

theorem stationReports_of_stations (hcell : u.cell = s.cell) (op : OpState) (v : Int) (m : Monitor) (reason : StationReason)
    (p : Station → StationRec → Bool) (f : StationRec → StationRec) (count : Word32) :
    stationReports u op v m reason p f count = stationReports s op v m reason p f count := by
  unfold stationReports
  rw [hst, hcell]

theorem seenAfter_of_stations (hc : u.comp = s.comp) (p : Station → StationRec → Bool)
    (g : StationRec → StationRec → StationRec) : seenAfter u p g = seenAfter s p g := by
  unfold seenAfter
  rw [hst, hc]

theorem pick_of_stations (m : Mask) (p : StationRec → Bool) : u.pick m p = s.pick m p := by
  unfold State.pick
  rw [hst]

theorem stationsBecome_of_stations {t t' : State} {p : Station → StationRec → Bool} {f : StationRec → StationRec}
    (ht : t'.stations = t.stations) (h : stationsBecome u t p f) : stationsBecome s t' p f := by
  unfold stationsBecome at h ⊢
  rw [ht, ← hst]
  exact h
end

theorem shownSpeed_of_comp {s u : State} (h : u.comp = s.comp) (v : Int) : shownSpeed u v = shownSpeed s v := by
  unfold shownSpeed
  rw [h]

theorem shownMonitor_of_comp {s u : State} (h : u.comp = s.comp) (hm : u.monitor = s.monitor) :
    shownMonitor u = shownMonitor s := by
  unfold shownMonitor
  rw [h, hm]

/-! ### The run begun (R125) -/

/-- The run controller in a run that has just begun. -/
def Run.begun (r : Run) (mode : RunMode) (tag : Nat) (count : Bool) : Run :=
  { r with op := .run, tag := tag, mode := mode, count := 0, countEnable := count, fresh := true }

/-- START_RUN before the player's part: run count, tag, mode, the axle at rest, the events re-based. -/
def runOpened (mode : RunMode) (tag : Nat) (count : Bool) (s : State) : State :=
  let s := { s with run := { s.run with count := 0, tag := tag, mode := mode, countEnable := count, fresh := true } }
  { s with axle := s.axle.started, events := { s.events with entries := rebaseEvents s.events.entries } }

/-- RUN entered from READY. -/
def runEntered (s : State) : State := { s with run := { s.run with op := .run } }

theorem startRun_eq (mode : RunMode) (tag : Nat) (w : Mask) (count : Bool) (s : State) :
    startRun mode tag w count s = submitState .ready .startRun none false (runEntered
      (moveMask w StationRec.toCapture .startRun (playerStart (runOpened mode tag count s)))) := by
  unfold startRun runEntered runOpened
  dsimp only

/-- The blocks a run begins with: the player y, its grade, its phase mark or none. -/
def runBegun (mode : RunMode) (tag : Nat) (count : Bool) (m : Mask) (y : Player) (grade : Int) (mark : Bool)
    (st : Vector (Option StationRec) 8) (s : State) : State :=
  { s with
    run := s.run.begun mode tag count
    axle := { s.axle.started with grade := grade }
    stations := st
    player := y
    events := { entries := rebaseEvents s.events.entries, markPending := s.events.markPending || mark }
    comp := seenAfter s (fun n r => inMask m n && r.state == .idle) fun r x => { x.toCapture with demand := r.ff } }

/-- START_RUN, the player's part given: the stations engaged, and the reports after the player's. -/
theorem startRun_left {s : State} {q : Queued} {mode : RunMode} {tag : Nat} {count : Bool} {y : Player} {grade : Int} {mark : Bool}
    {l : List Told} (m : Mask) (hop : s.run.op = .ready)
    (hy : playerStart (runOpened mode tag count (s.taking q)) = { runOpened mode tag count (s.taking q) with
      player := y
      axle := { s.axle.started with grade := grade }
      events := { entries := rebaseEvents s.events.entries, markPending := s.events.markPending || mark }
      port := (s.taking q).port.tellAll s.params.reportLevel l }) :
    let u := startRun mode tag (s.engaging m) count (s.taking q)
    stationsBecome s u (fun n r => inMask m n && r.state == .idle) StationRec.toCapture ∧
      Left s (runBegun mode tag count m y grade mark u.stations s) q
        (l ++ stationReports s .ready (shownSpeed s 0) (shownMonitor s) .startRun (fun n r => inMask m n && r.state == .idle)
          StationRec.toCapture 0 ++ [stateReport (s.run.begun mode tag count) .ready .run .startRun]) u := by
  dsimp only
  rw [startRun_eq]
  generalize playerStart (runOpened mode tag count (s.taking q)) = v at hy ⊢
  have hvst : v.stations = s.stations := by rw [hy]; rfl
  have hvcomp : v.comp = s.comp := by rw [hy]; rfl
  have hvmonitor : v.monitor = s.monitor := by rw [hy]; rfl
  have hvcell : v.cell = s.cell := by rw [hy]; rfl
  have hvparams : v.params = s.params := by rw [hy]; rfl
  have hvcount : v.run.count = 0 := by rw [hy]; rfl
  have hvop : v.run.op = .ready := by rw [hy]; exact hop
  have hvspeed : v.axle.v = 0 := by rw [hy]; rfl
  have hvport : v.port = (s.taking q).port.tellAll s.params.reportLevel l := by rw [hy]
  obtain ⟨hst, hport, hcomp⟩ := moveMask_told m (fun r => r.state == .idle) StationRec.toCapture .startRun v
    (fun _ hf => by cases hf) fun _ => rfl
  have hw : v.pick m (fun r => r.state == .idle) = s.engaging m := pick_of_stations hvst m _
  rw [hw] at hst hport hcomp
  have hmoved := moveMask_moved (s.engaging m) StationRec.toCapture .startRun v
  generalize moveMask (s.engaging m) StationRec.toCapture .startRun v = u at hst hport hcomp hmoved ⊢
  have hrun : (runEntered u).run = s.run.begun mode tag count := by
    show { u.run with op := .run } = _
    rw [hmoved.run, hy]
    rfl
  have hspeed : v.axleSeen.v = shownSpeed s 0 := by rw [axleSeen_speed, hvspeed, shownSpeed_of_comp hvcomp]
  have hmonitor : v.reportMonitor .startRun = shownMonitor s := by
    rw [reportMonitor_byRequest v rfl, shownMonitor_of_comp hvcomp hvmonitor]
  rw [stationReports_of_stations hvst hvcell, hspeed, hmonitor, hvcount, hvop, hvparams, hvport, ← tellAll_append] at hport
  rw [seenAfter_of_stations hvst hvcomp] at hcomp
  rw [submitState_eq, submit_tell]
  refine ⟨stationsBecome_of_stations hvst rfl hst, ?_, ?_⟩
  · have hu : runEntered u = { runBegun mode tag count m y grade mark u.stations s with port := u.port } := by
      have hport' : u.port = { v.port with reports := u.port.reports, lost := u.port.lost } := by rw [hmoved.eq]; rfl
      unfold runEntered runBegun
      rw [hport']
      conv_lhs => rw [hmoved.eq]
      unfold State.movedTo
      rw [hcomp, hy]
      rfl
    rw [hu]
    rfl
  · rw [tellAll_append, ← hport, hrun]
    have hp : (runEntered u).params = s.params := hmoved.params.trans hvparams
    rw [hp]
    rfl

/-! ### The request (R124) -/

theorem takeStartRun_begins {s : State} {mode tag count : Nat} {m : Mask} {x : RunMode} (hop : s.run.op = .ready)
    (hr : s.faults.reaction = .none) (hx : runModeOf mode = some x) (hm : s.namesUnknown m = false) (htag : tag ≤ 255)
    (hc : count ≤ 1) (hp : ¬(x = .speed ∧ s.player.waiting = [])) :
    takeStartRun mode tag m count s =
      (startRun x tag (s.engaging m) (count == 1) s, okWith [maskField (s.engaging m)]) := by
  have hflag : isFlag count = true := by
    unfold isFlag
    simp only [Bool.or_eq_true, beq_iff_eq]
    omega
  unfold takeStartRun
  rw [if_neg (not_not.mpr hop), if_neg (not_not.mpr hr), hx]
  dsimp only
  rw [hm, hflag, if_neg (by simp; omega), if_neg hp]

theorem takeBlock_startRun (mode tag : Nat) (m : Mask) (count : Nat) (s : State) :
    takeBlock (.startRun mode tag m count) s = now (takeStartRun mode tag m count s) := rfl

/-- The run mode of a mode code. -/
def modeOf (mode : Nat) : RunMode := if mode = 0 then .road else .speed

theorem runModeOf_eq {mode : Nat} (h : mode = 0 ∨ mode = 1) : runModeOf mode = some (modeOf mode) := by
  rcases h with rfl | rfl <;> rfl

/-- An accepted START_RUN, the player's part given. -/
theorem request_starts {s : State} {tag : Byte} {mode runTag count : Nat} {m : Mask} {y : Player} {grade : Int} {mark : Bool}
    {l : List Told} (h : s.takes) (hop : s.run.op = .ready) (hr : s.faults.reaction = .none) (htag : runTag ≤ 255)
    (hc : count ≤ 1) (hm : ∀ n : Station, inMask m n = true → s.stations[n] ≠ none)
    (hmode : mode = 0 ∨ (mode = 1 ∧ s.player.waiting ≠ []))
    (hy : ∀ q, playerStart (runOpened (modeOf mode) runTag (count == 1) (s.taking q)) =
      { runOpened (modeOf mode) runTag (count == 1) (s.taking q) with
        player := y
        axle := { s.axle.started with grade := grade }
        events := { entries := rebaseEvents s.events.entries, markPending := s.events.markPending || mark }
        port := (s.taking q).port.tellAll s.params.reportLevel l }) :
    ∃ t w, exec (.startRun tag mode runTag m count) s = .next t ∧
      (∀ n : Station, inMask w n = true ↔ inMask m n = true ∧ ∃ r, s.stations[n] = some r ∧ (r.state == .idle) = true) ∧
      t.run = s.run.begun (modeOf mode) runTag (count == 1) ∧ t.axle = { s.axle.started with grade := grade } ∧
      stationsBecome s t (fun n r => inMask m n && r.state == .idle) StationRec.toCapture ∧ t.player = y ∧
      t.events = { entries := rebaseEvents s.events.entries, markPending := s.events.markPending || mark } ∧
      submits s t (l ++ stationReports s .ready (shownSpeed s 0) (shownMonitor s) .startRun
        (fun n r => inMask m n && r.state == .idle) StationRec.toCapture 0 ++
          [stateReport (s.run.begun (modeOf mode) runTag (count == 1)) .ready .run .startRun]) ∧
      repliedBy { s with
        run := t.run, axle := t.axle, stations := t.stations, player := t.player, events := t.events
        comp := seenAfter s (fun n r => inMask m n && r.state == .idle) fun r x => { x.toCapture with demand := r.ff } } t
        0x8C#8 tag .ok [.u8 w.toNat] := by
  generalize hq : (⟨0x0C#8, tag, .startRun mode runTag m count⟩ : Queued) = q
  have hx : runModeOf mode = some (modeOf mode) := runModeOf_eq (hmode.imp id And.left)
  have hprofile : ¬(modeOf mode = .speed ∧ s.player.waiting = []) := by
    rintro ⟨hs, hw⟩
    rcases hmode with rfl | ⟨rfl, hne⟩
    · cases hs
    · exact hne hw
  have htake : takeBlock (.startRun mode runTag m count) (s.taking q) =
      
      now (startRun (modeOf mode) runTag (s.engaging m) (count == 1) (s.taking q), okWith [maskField (s.engaging m)]) := by
    have hbegins := takeStartRun_begins (s := s.taking q) hop hr hx (namesUnknown_of_known hm) htag hc hprofile
    rw [show (s.taking q).engaging m = s.engaging m from pick_of_stations rfl m _] at hbegins
    exact (takeBlock_startRun mode runTag m count _).trans (congrArg now hbegins)
  obtain ⟨hst, hleft⟩ := startRun_left m hop (hy q)
  generalize startRun (modeOf mode) runTag (s.engaging m) (count == 1) (s.taking q) = u at htake hst hleft
  have hrun : u.run = s.run.begun (modeOf mode) runTag (count == 1) := by rw [hleft.frame]; rfl
  have haxle : u.axle = { s.axle.started with grade := grade } := by rw [hleft.frame]; rfl
  have hplayer : u.player = y := by rw [hleft.frame]; rfl
  have hevents : u.events = { entries := rebaseEvents s.events.entries, markPending := s.events.markPending || mark } := by
    rw [hleft.frame]; rfl
  have hleft' : Left s { s with
      run := u.run, axle := u.axle, stations := u.stations, player := u.player, events := u.events
      comp := seenAfter s (fun n r => inMask m n && r.state == .idle) fun r x => { x.toCapture with demand := r.ff } } q _ u :=
    ⟨by rw [hrun, haxle, hplayer, hevents]; exact hleft.frame, hleft.port⟩
  subst hq
  obtain ⟨h1, h2, h3⟩ := request_told h (by decide) (by simp) (by simp) htake hleft' rfl rfl
  exact ⟨_, s.engaging m, h1, inMask_pick s m _, hrun, haxle, hst, hplayer, hevents, h2, h3⟩

/-- Settles O37, by the first waiting segment or none. -/
theorem startRunBeginsARun : Obligations.StartRunBeginsARun := by
  intro s tag mode runTag count m h hop hr htag hc hm hmode
  have hcount : (count == 1) = decide (count = 1) := by by_cases hone : count = 1 <;> simp [hone]
  have hentries : ∀ t : State, t.events.entries = rebaseEvents s.events.entries →
      ∀ i : Fin 16, t.events.entries[i] = s.events.entries[i].map EventEntry.rebase := fun t ht i => by
    rw [ht, rebaseEvents_get]
  cases hw : s.player.waiting with
  | nil =>
    obtain ⟨t, w, h1, h2, h3, h4, h5, h6, h7, h8, h9⟩ := request_starts (tag := tag) (y := s.player.started) (grade := 0)
      (mark := false) (l := []) h hop hr htag hc hm hmode fun q => by
        rw [playerStart_empty (by exact hw), Bool.or_false]
        rfl
    rw [hcount] at h3 h8
    refine ⟨t, w, h1, fun n => (h2 n).trans (by simp), h3, h4, h5, fun _ => h6, fun g rest hcons => (by cases hcons),
      hentries t (by rw [h7]), by rw [h7], ?_, h9⟩
    rw [h3, List.flatten_cons, List.flatten_cons, List.flatten_singleton, ← List.append_assoc]
    exact h8
  | cons g rest =>
    obtain ⟨t, w, h1, h2, h3, h4, h5, h6, h7, h8, h9⟩ := request_starts (tag := tag) (y := firstSegment g rest)
      (grade := g.grade) (mark := g.phase.isSome) (l := startReports 0 .ready g rest.length 0 none 0) h hop hr htag hc hm
      hmode fun q => by
        rw [playerStart_segment (by exact hw), ← hop]
        rfl
    rw [hcount] at h3 h8
    refine ⟨t, w, h1, fun n => (h2 n).trans (by simp), h3, h4, h5, fun hnil => (by cases hnil), fun g' rest' hcons => ?_,
      hentries t (by rw [h7]), by rw [h7], ?_, h9⟩
    · cases hcons
      exact h6
    · rw [h3, List.flatten_cons, List.flatten_cons, List.flatten_singleton, ← List.append_assoc]
      exact h8

end Sys2Proof.Machine
end

section
/-! O13: the ESTOP line and the end of the MARKER pulse; what an entry to SAFE makes of a computation in progress. -/

namespace Sys2Proof.Machine

/-! ### The event table (R158) -/

theorem keepEvents_get (p : EventEntry → Bool) (v : Vector (Option EventEntry) 16) (i : Fin 16) :
    (keepEvents p v)[i] = v[i].filter p := by
  have h : (keepEvents p v)[i] = v[i].bind fun e => if p e then some e else none := by
    unfold keepEvents
    fin_cases i <;> rfl
  rw [h]
  cases v[i] with
  | none => rfl
  | some e => cases hp : p e <;> simp [Option.filter_some, hp]

/-! ### SAFE entered within a computation (R29) -/

/-- SAFE entered with no computation of a run in progress: the speed alone is taken back. -/
theorem enteringSafe_outside {s : State} (h : ∀ c, s.comp = some c → c.began.inRun = false) : enteringSafe s = { s with
    run := { s.run with op := .safe }, pins := { s.pins with driveEnable := false }, axle := { s.axle with v := 0 } } := by
  unfold enteringSafe
  rw [voidComputation_outside { s with run := { s.run with op := .safe }, pins := { s.pins with driveEnable := false } } h]

/-- SAFE entered within a computation of a run: its advance is taken back. -/
theorem enteringSafe_inRun {s : State} {c : Computation} (hc : s.comp = some c) (h : c.began.inRun = true) :
    enteringSafe s = { s with
      run := { s.run with op := .safe }, pins := { s.pins with driveEnable := false }, comp := some { c with void := true }
      axle := { s.axle with v := 0, whole := c.axleBefore.whole, frac := c.axleBefore.frac, adv := 0 } } := by
  unfold enteringSafe
  rw [voidComputation_inRun { s with run := { s.run with op := .safe }, pins := { s.pins with driveEnable := false } } c hc h]

theorem runAbandoned_entries {prev : OpState} (h : prev.inRun = true) (s : State) : (runAbandoned prev s).events =
    { s.events with entries := keepEvents (fun e => e.persistent || e.runTag != s.run.tag) s.events.entries } := by
  unfold runAbandoned
  rw [h]
  rfl

/-- What an entry to SAFE leaves of the axle, the computation and the events. -/
theorem enterSafe_stands (k : FaultKind) (s : State) :
    (enterSafe k s).axle = (enteringSafe s).axle ∧
      (enterSafe k s).comp = seenAfter (enteringSafe s) (fun _ r => engagedIn r) (fun _ => idled) ∧
      (s.run.op.inRun = true → (enterSafe k s).events = { s.events with
        entries := keepEvents (fun e => e.persistent || e.runTag != s.run.tag) s.events.entries }) := by
  obtain ⟨erun, _, _, _, _, _, eev⟩ := enteringSafe_stays s
  have hmoved := idleEngaged_moved .safe (enteringSafe s)
  have hseen : (idleEngaged .safe (enteringSafe s)).comp =
      seenAfter (enteringSafe s) (fun _ r => engagedIn r) (fun _ => idled) := by
    have h := eachStation_seen (fun _ r => engagedIn r) idled .safe (enteringSafe s)
    simp only [← engaged_eq] at h
    refine Eq.trans ?_ (h.trans ?_)
    · rfl
    · simp only [engaged_eq]
      rfl
  obtain ⟨_, _, _, _, _, _, wcomp, waxle, _⟩ := runAbandoned_stays s.run.op (idleEngaged .safe (enteringSafe s))
  have wev := fun h => runAbandoned_entries (prev := s.run.op) h (idleEngaged .safe (enteringSafe s))
  rw [enterSafe_eq, submitState_eq, submit_tell]
  generalize runAbandoned s.run.op (idleEngaged .safe (enteringSafe s)) = w at *
  generalize idleEngaged .safe (enteringSafe s) = v at *
  refine ⟨waxle.trans hmoved.axle, wcomp.trans hseen, fun h => (wev h).trans ?_⟩
  rw [hmoved.events, hmoved.run, erun, eev]

/-- A computation in progress as a raise leaves what GET_STATUS shows of the faults. -/
theorem raised_comp (f : Raise) (s : State) : (raised f s).comp =
    s.comp.map fun k => { k with faultsBefore := Faults.take f s.run.count s.run.op k.faultsBefore } := rfl

/-- What GET_STATION shows after a move hangs on the records and the computation's own alone. -/
theorem seenAfter_of_comp {s u : State} {k k' : Computation} (hs : s.comp = some k) (hu : u.comp = some k')
    (hst : u.stations = s.stations) (hrec : k'.recordsBefore = k.recordsBefore) (p : Station → StationRec → Bool)
    (g : StationRec → StationRec → StationRec) :
    seenAfter u p g = (seenAfter s p g).map fun x => { k' with recordsBefore := x.recordsBefore } := by
  rw [seenAfter_some hs, seenAfter_some hu]
  refine congrArg (fun v => some { k' with recordsBefore := Vector.ofFn v }) (funext fun n => ?_)
  unfold movedSeen
  rw [hst, hrec]

/-- What a raise of level 1 makes of a computation that began in RUN or STOPPING. -/
theorem raiseFault_voids (f : Raise) {s : State} {k : Computation} (h1 : f.kind.level = 1)
    (hop : s.run.op.watchesEstop = true) (hk : s.comp = some k) (hb : k.began.inRun = true) :
    (raiseFault f s).comp = (seenAfter s (fun _ r => engagedIn r) fun _ => idled).map (fun k => { k with
      void := true, faultsBefore := Faults.take f s.run.count s.run.op k.faultsBefore }) ∧
    (raiseFault f s).axle =
      { s.axle with v := 0, whole := k.axleBefore.whole, frac := k.axleBefore.frac, adv := 0 } := by
  have he : raiseFault f s = enterSafe f.kind (raised f s) := by
    rw [raiseFault_eq, h1, accepts_one, if_pos rfl, react_one f.kind (raised f s) h1 hop]
  have hr : (raised f s).comp = some { k with faultsBefore := Faults.take f s.run.count s.run.op k.faultsBefore } := by
    rw [raised_comp, hk]
    rfl
  obtain ⟨haxle, hcomp, _⟩ := enterSafe_stands f.kind (raised f s)
  have hin := enteringSafe_inRun hr hb
  rw [he, haxle, hcomp, seenAfter_of_comp hk (congrArg State.comp hin) (by rw [hin]; rfl) rfl, hin]
  refine ⟨?_, rfl⟩
  rw [seenAfter_some hk]
  rfl

/-- What a raise of level 1 makes of another computation. -/
theorem raiseFault_spares (f : Raise) {s : State} {k : Computation} (h1 : f.kind.level = 1)
    (hop : s.run.op.watchesEstop = true) (hk : s.comp = some k) (hb : k.began.inRun = false) :
    (raiseFault f s).comp = (seenAfter s (fun _ r => engagedIn r) fun _ => idled).map (fun k => { k with
      faultsBefore := Faults.take f s.run.count s.run.op k.faultsBefore }) ∧
    (raiseFault f s).axle = { s.axle with v := 0 } := by
  have he : raiseFault f s = enterSafe f.kind (raised f s) := by
    rw [raiseFault_eq, h1, accepts_one, if_pos rfl, react_one f.kind (raised f s) h1 hop]
  have hr : (raised f s).comp = some { k with faultsBefore := Faults.take f s.run.count s.run.op k.faultsBefore } := by
    rw [raised_comp, hk]
    rfl
  obtain ⟨haxle, hcomp, _⟩ := enterSafe_stands f.kind (raised f s)
  have hin := enteringSafe_outside (s := raised f s) fun c hc => by
    rw [hr] at hc
    cases hc
    exact hb
  rw [he, haxle, hcomp, seenAfter_of_comp hk ((congrArg State.comp hin).trans hr) (by rw [hin]; rfl) rfl, hin]
  refine ⟨?_, rfl⟩
  rw [seenAfter_some hk]
  rfl

/-- The run's own events go with a raise of level 1 in RUN or STOPPING (R129, R158). -/
theorem raiseFault_entries (f : Raise) {s : State} (h1 : f.kind.level = 1) (hop : s.run.op.inRun = true) :
    (raiseFault f s).events = { s.events with
      entries := keepEvents (fun e => e.persistent || e.runTag != s.run.tag) s.events.entries } := by
  have hwatch : s.run.op.watchesEstop = true := by
    rcases (inRun_iff _).mp hop with h | h <;> rw [h] <;> rfl
  rw [raiseFault_eq, h1, accepts_one, if_pos rfl, react_one f.kind (raised f s) h1 hwatch]
  exact (enterSafe_stands f.kind (raised f s)).2.2 hop

/-! ### The line -/

theorem watchesEstop_iff (op : OpState) :
    op.watchesEstop = true ↔ op = .settle ∨ op = .ready ∨ op = .run ∨ op = .stopping := by
  cases op <;> simp [OpState.watchesEstop]

theorem watchesEstop_of_quiet {op : OpState} (h : op = .loading ∨ op = .config ∨ op = .safe) : op.watchesEstop = false := by
  rcases h with h | h | h <;> rw [h] <;> rfl

theorem take_reaction_one {f : Raise} (h1 : f.kind.level = 1) (now : Word32) (op : OpState) (m : Faults) :
    (Faults.take f now op m).reaction = .one := by
  unfold Faults.take
  rw [h1, accepts_one]
  rfl

/-- Settles O13. -/
theorem linesAct : Obligations.LinesAct := by
  refine ⟨fun s => ⟨rfl, rfl, fun hop => ?_⟩, fun s hop => ?_⟩
  · have hquiet : checkEstop { s with pins := { s.pins with estop := true } } = { s with pins := { s.pins with estop := true } } := by
      unfold checkEstop
      rw [show ({ s with pins := { s.pins with estop := true } } : State).run.op.watchesEstop = false from
        watchesEstop_of_quiet hop, Bool.and_false]
      rfl
    show done _ = _
    rw [hquiet]
    rfl
  · have hwatch : s.run.op.watchesEstop = true := (watchesEstop_iff _).mpr hop
    generalize hv : ({ s with pins := { s.pins with estop := true } } : State) = v
    have hrun : v.run = s.run := by rw [← hv]
    have hwatch' : v.run.op.watchesEstop = true := by rw [hrun]; exact hwatch
    have hestop : v.pins.estop = true := by rw [← hv]
    have hc : checkEstop v = raiseFault { kind := .estop } v := by
      unfold checkEstop
      rw [hestop, hwatch']
      rfl
    have hsafe := checkEstop_safe v hestop hwatch'
    have hvoids := fun k hk => raiseFault_voids { kind := .estop } (s := v) (k := k) rfl hwatch' hk
    have hspares := fun k hk => raiseFault_spares { kind := .estop } (s := v) (k := k) rfl hwatch' hk
    have hentries := raiseFault_entries { kind := .estop } (s := v) rfl
    rw [← hc] at hvoids hspares hentries
    have hexec : exec .estopAsserted s = .next (pumpTx (checkEstop v)) := by rw [← hv]; rfl
    rw [hexec]
    generalize checkEstop v = u at hsafe hvoids hspares hentries
    subst hv
    have hport : u.port = s.port.tellAll s.params.reportLevel (safeReports s s.run.op { kind := .estop }) := hsafe.port
    refine ⟨pumpTx u, rfl, ?_, ?_, ?_, ?_, ?_, ?_, ?_, ?_, ?_, ?_, ?_, ?_, ?_⟩
    · rw [pumpTx_run]; exact hsafe.run
    · rw [pumpTx_pins]; exact hsafe.pins
    · intro n
      rw [pumpTx_stations]
      exact hsafe.stations n
    · rw [pumpTx_player]; exact hsafe.player
    · intro h
      rw [pumpTx_events]
      exact hsafe.events (by rcases h with h | h <;> (show s.run.op.inRun = false) <;> rw [h] <;> rfl)
    · intro h
      have hev := hentries ((inRun_iff _).mpr h)
      rw [pumpTx_events, hev]
      refine ⟨rfl, fun i => ?_⟩
      rw [pumpTx_events, hev]
      exact keepEvents_get _ _ i
    · rw [pumpTx_faults]; exact hsafe.faults
    · rw [pumpTx_faults, hsafe.faults]
      exact take_reaction_one rfl _ _ _
    · intro h
      rw [pumpTx_comp, pumpTx_axle]
      exact hsafe.resting h
    · intro k hk hb
      rw [pumpTx_comp, pumpTx_axle]
      exact hvoids k hk ((inRun_iff _).mpr hb)
    · intro k hk h1 h2
      rw [pumpTx_comp, pumpTx_axle]
      exact hspares k hk (Bool.eq_false_iff.mpr fun hb => ((inRun_iff _).mp hb).elim h1 h2)
    · exact emits_of_tellAll hport hsafe.reacted.resetHeld
    · have hf := hsafe.reacted.frame
      rw [pumpTx_told hport]
      generalize (pumpTx u).port = q
      conv_lhs => rw [hf]

end Sys2Proof.Machine
end

section
/-! SUPPORT. What the stages of a cycle computation leave of the axle and of the parts they do not touch, and how the axle moves
in each operating state. -/

namespace Sys2Proof.Machine

/-! ### A raise of level 2 to 4 within a computation -/

/-- Only what a raise of level 2 to 4 can reach differs: operating state, stop cause, faults, player, reports, and what is shown
of the faults. -/
def Braked (s t : State) : Prop := t = { s with
  run := { s.run with op := t.run.op, stopCause := t.run.stopCause }, faults := t.faults, comp := t.comp, player := t.player
  port := t.port }

theorem Braked.refl (s : State) : Braked s s := rfl

theorem Braked.trans {s t u : State} (h : Braked s t) (k : Braked t u) : Braked s u := by
  unfold Braked at h k ⊢
  rw [h] at k
  exact k

theorem enterStopping_braked (k : FaultKind) (s : State) : Braked s (enterStopping .fault (some k) s) := by
  by_cases h : s.run.op = .run
  · rw [enterStopping_run k s h]
    rfl
  · rw [enterStopping_other k s h]
    exact Braked.refl s

theorem raiseFault_braked {f : Raise} (h : 2 ≤ f.kind.level) (s : State) : Braked s (raiseFault f s) := by
  have hr : Braked s (raised f s) := rfl
  by_cases h3 : 3 ≤ f.kind.level
  · rw [raiseFault_raised h3]
    exact hr
  · have h2 : f.kind.level = 2 := by omega
    rw [raiseFault_eq, react_two _ _ h2]
    split
    · exact hr.trans (enterStopping_braked _ _)
    · exact hr

theorem raiseIf_braked {f : Raise} (h : 2 ≤ f.kind.level) (c : Prop) [Decidable c] (s : State) :
    Braked s (if c then raiseFault f s else s) := by
  split
  · exact raiseFault_braked h s
  · exact Braked.refl s

/-! ### The stages (R48) -/

/-- The axle after the axle stage (R28). -/
def axleMoved (s : State) : Axle :=
  if s.run.op.inRun then s.axle.advance s.forceSum s.axleResult else { s.axle with v := 0, adv := 0 }

theorem axleStage_braked (s : State) : Braked { s with axle := axleMoved s } (axleStage s) := by
  unfold axleStage axleMoved
  cases s.run.op.inRun with
  | true => exact raiseIf_braked (f := { kind := .overspeed }) (by decide) (s.axleResult.overspeed = true) _
  | false => exact Braked.refl _

theorem windupStage_braked (s : State) : Braked (monitored s) (windupStage s) := by
  rw [windupStage_eq]
  exact (raiseIf_braked (f := { kind := .windup, detail := spreadDetail s.monitorNext }) (by show 2 ≤ 2; omega)
    (s.windsUp s.monitorNext = true) (monitored s)).trans
    (raiseIf_braked (by show 2 ≤ 4; omega) (s.warns s.monitorNext = true) (winding s))

/-- What the stages may change: the axle alone as given, the records, the monitor, the counters, and what raises reach. -/
def StagesLeave (x : Axle) (s t : State) : Prop := t = { s with
  run := { s.run with op := t.run.op, stopCause := t.run.stopCause }, axle := x, faults := t.faults, comp := t.comp
  player := t.player, port := t.port, stations := t.stations, monitor := t.monitor, stats := t.stats }

/-- The stages, the judged state first: where the axle goes, and all that stays. -/
theorem stages_leave (w : State) (hc : w.comp = none) : StagesLeave (axleMoved (judgeStage w)) w (stages w) := by
  unfold stages StagesLeave
  have j := (judgeStage_told w hc).2
  generalize judgeStage w = a at j ⊢
  have b := axleStage_braked a
  generalize axleMoved a = y at b ⊢
  generalize axleStage a = b' at b ⊢
  have d := windupStage_braked (gearStage b')
  generalize hc' : gearStage b' = c at d ⊢
  have g := gearStage_recorded b'
  rw [hc'] at g
  generalize windupStage c = d' at d ⊢
  have g' := assembleStage_recorded d'
  generalize assembleStage d' = e at g' ⊢
  have n := (countLocks_told e).2
  generalize countLocks e = t at n ⊢
  unfold Judged at j
  unfold Braked at b d
  unfold monitored at d
  unfold Recorded at g g'
  unfold Counted at n
  rw [j] at b
  rw [b] at g
  rw [g] at d
  rw [d] at g'
  rw [g'] at n
  rw [n]

/-- The state the axle stage finds in a computation from x, the drive link's work and the checks done. -/
def judgedFrom (x : State) : State := judgeStage (computeBegun x)

/-- What a computation leaves: the axle as its stage moves it, and all that stays (R28). -/
def ComputeLeaves (x t : State) : Prop := t = { x with
  run := { x.run with op := t.run.op, stopCause := t.run.stopCause, fresh := false }
  axle := axleMoved (judgedFrom x), faults := t.faults, comp := t.comp, player := t.player, port := t.port
  stations := t.stations, monitor := t.monitor, stats := t.stats, inForce := x.params.inForce
  trace := { x.trace with waiting := false } }

theorem compute_leaves (x : State) (hc : x.comp = none) : ComputeLeaves x (compute x) := by
  have h := stages_leave (computeBegun x) hc
  unfold ComputeLeaves
  rw [compute_eq, judgedFrom]
  generalize stages (computeBegun x) = t at h ⊢
  generalize axleMoved (judgeStage (computeBegun x)) = y at h ⊢
  unfold StagesLeave computeBegun at h
  unfold computed
  rw [h]

/-! ### The axle after the axle stage -/

theorem judgedFrom_judged {x : State} (hc : x.comp = none) : Judged (computeBegun x) (judgedFrom x) :=
  (judgeStage_told (computeBegun x) hc).2

theorem ComputeLeaves.axle {x t : State} (h : ComputeLeaves x t) : t.axle = axleMoved (judgedFrom x) := by
  rw [h]

theorem axleMoved_outside {s : State} (h : s.run.op.inRun = false) : axleMoved s = { s.axle with v := 0, adv := 0 } := by
  unfold axleMoved
  rw [h]
  rfl

theorem axleMoved_inRun {s : State} (h : s.run.op.inRun = true) : axleMoved s = s.axle.advance s.forceSum s.axleResult := by
  unfold axleMoved
  rw [h]
  rfl

/-- Outside RUN and STOPPING a computation leaves the axle at rest where it is (R28). -/
theorem compute_rests {x : State} (hc : x.comp = none) (h : x.run.op.inRun = false) :
    (compute x).axle = { x.axle with v := 0, adv := 0 } := by
  have hj := judgedFrom_judged hc
  have hop : (judgedFrom x).run.op.inRun = false := by rw [hj]; exact h
  have haxle : (judgedFrom x).axle = x.axle := by rw [hj]; rfl
  rw [(compute_leaves x hc).axle, axleMoved_outside hop, haxle]

/-- In RUN and STOPPING a computation moves the axle by its step, the force sum and the step those of the judged state. -/
theorem compute_moves {x : State} (hc : x.comp = none) (h : x.run.op.inRun = true) :
    (compute x).axle = x.axle.advance (judgedFrom x).forceSum (judgedFrom x).axleResult := by
  have hj := judgedFrom_judged hc
  have hop : (judgedFrom x).run.op.inRun = true := by rw [hj]; exact h
  have haxle : (judgedFrom x).axle = x.axle := by rw [hj]; rfl
  rw [(compute_leaves x hc).axle, axleMoved_inRun hop, haxle]

theorem advance_v (x : Axle) (f : Int) (r : AxleResult) : (x.advance f r).v = r.v := rfl

/-- One stop step of a cell's set (R41). -/
def stopStepOf (k : CellBlock) : Int := roundDiv ((k.stopDecel : Int) * k.period * k.period * 65536) 100000

/-- A speed one stop step on (R41). -/
def stopped (k : CellBlock) (v : Int) : Int :=
  if (v.natAbs : Int) ≤ stopStepOf k then 0 else v - v.sign * stopStepOf k

theorem stopStepOf_nonneg (k : CellBlock) : 0 ≤ stopStepOf k := roundDiv_nonneg (by positivity) (by norm_num)

theorem stopStep_v (k : CellBlock) (v : Int) : (stopStep k.stopDecel k.period v).v = stopped k v := by
  have hstep := stopStepOf_nonneg k
  have heq : accelStep k.stopDecel k.period = stopStepOf k := rfl
  unfold stopStep stopped
  dsimp only
  rw [heq, moveToward_eq _ _ _ hstep, sub_zero]
  split_ifs with h1 h2
  · rfl
  · rw [Int.sign_eq_neg_one_of_neg h2]
    ring
  · rw [Int.sign_eq_one_of_pos (by omega)]
    ring

/-- The step in STOPPING (R41). -/
theorem axleResult_stopping {s : State} (h : s.run.op = .stopping) : s.axleResult.v = stopped s.cell s.axle.v := by
  unfold State.axleResult
  rw [if_pos h]
  exact stopStep_v s.cell s.axle.v

theorem compute_stops {x : State} (hc : x.comp = none) (h : x.run.op = .stopping) :
    (compute x).axle.v = stopped x.cell x.axle.v := by
  have hj := judgedFrom_judged hc
  have hop : (judgedFrom x).run.op = .stopping := by rw [hj]; exact h
  have hv : (judgedFrom x).axle.v = x.axle.v := by rw [hj]; rfl
  have hcell : (judgedFrom x).cell = x.cell := cell_of_store (by rw [hj]; rfl)
  rw [compute_moves hc (by rw [h]; rfl), advance_v, axleResult_stopping hop, hcell, hv]

end Sys2Proof.Machine
end

section
/-! O51: closes one after the other from STOPPING. -/

namespace Sys2Proof.Machine

/-! ### What every close leaves alone -/

/-- The waiting commands and the link's running stand as they did. -/
def Holds (s t : State) : Prop := t.pending = s.pending ∧ t.link.running = s.link.running

theorem Holds.trans {s t u : State} (h : Holds s t) (k : Holds t u) : Holds s u := ⟨k.1.trans h.1, k.2.trans h.2⟩

theorem Reacted.holds {s t : State} (h : Reacted s t) : Holds s t := by
  rw [h.eq]
  exact ⟨rfl, rfl⟩

theorem Ticked.holds {s t : State} (h : Ticked s t) : Holds s t := by
  rw [h]
  exact ⟨rfl, rfl⟩

theorem closeLink_holds (s : State) : Holds s (closeLink s) := by
  rw [(closeLink_told s).2.1]
  exact ⟨rfl, rfl⟩

theorem silenceUpdate_holds (s : State) : Holds s (silenceUpdate s) := by
  unfold silenceUpdate
  exact (raiseIf_reacted { kind := .linkLost } (s.losesLink = true)
    { s with faults := { s.faults with silence := s.nextSilence } }).holds

theorem settleUpdate_holds (s : State) : Holds s (settleUpdate s) := by
  rw [settleUpdate_eq]
  split
  · split
    · rw [settledReady_eq]
      exact ⟨rfl, rfl⟩
    · exact (raiseIf_reacted _ _ { s with run := s.settleCounted }).holds
  · exact ⟨rfl, rfl⟩

theorem closeChecks_holds (o : CountOrder) (s : State) : Holds s (closeChecks o s) := by
  have tick := fun u => (countCycle_ticked u).holds
  cases o with
  | beforeLink =>
    exact (((tick s).trans (closeLink_holds _)).trans (silenceUpdate_holds _)).trans (settleUpdate_holds _)
  | beforeSilence =>
    exact (((closeLink_holds s).trans (tick _)).trans (silenceUpdate_holds _)).trans (settleUpdate_holds _)
  | afterSilence =>
    exact (((closeLink_holds s).trans (silenceUpdate_holds _)).trans (tick _)).trans (settleUpdate_holds _)

theorem compute_holds {x : State} (hc : x.comp = none) : Holds x (compute x) := by
  have h := compute_leaves x hc
  generalize compute x = t at h
  rw [h]
  exact ⟨rfl, rfl⟩

/-- A close while the link runs: the checks' outcome, the computation, and the waiting commands and the link as they were. -/
theorem cycleClose_holds (s : State) (h : s.link.running = true) : ∃ (c d : Word32) (x : State),
    exec .cycleClose s = .next (pumpTx (compute x)) ∧ ChecksOut s c d x ∧ Holds s (pumpTx (compute x)) := by
  obtain ⟨c, d, x, hexec, _, _, hout⟩ := cycleClose_out s h
  have hx : Holds s (cycleCloseWith Config.countOrder s) := by
    have go : ∀ (o : CountOrder) (k : Nat), (s.run.op.inRun = false → o = .beforeLink) →
        Holds s (compute (closeChecks o { s with comp := none, free := k })) := fun o k ho => by
      obtain ⟨_, _, y, hy, _, _, hyout⟩ := closeChecks_out o s k ho
      have hc := hyout.checked.comp
      have hs : Holds s (closeChecks o { s with comp := none, free := k }) :=
        closeChecks_holds o { s with comp := none, free := k }
      rw [hy] at hs ⊢
      exact hs.trans (compute_holds hc)
    unfold cycleCloseWith
    dsimp only
    split
    · rename_i hin
      exact go _ _ fun hn => by rw [hin] at hn; cases hn
    · exact go _ _ fun _ => rfl
  have hsame : pumpTx (cycleCloseWith Config.countOrder s) = pumpTx (compute x) := by
    have hdone : exec .cycleClose s = .next (pumpTx (cycleCloseWith Config.countOrder s)) := by
      show done _ = _
      rw [if_pos h]
      rfl
    exact Host.Outcome.next.inj (hdone.symm.trans hexec)
  refine ⟨c, d, x, hexec, hout, ?_⟩
  rw [← hsame]
  exact ⟨(pumpTx_pending _).trans hx.1, (congrArg Link.running (pumpTx_link _)).trans hx.2⟩

/-! ### The ramp (R41) -/

/-- The axle n closes or fewer from standstill: in STOPPING within n stop steps of it, otherwise outside a run and at rest. -/
def Ramps (n : Nat) (s : State) : Prop :=
  (s.run.op = .stopping ∧ (s.axle.v.natAbs : Int) ≤ n * stopStepOf s.cell) ∨ (s.run.op.inRun = false ∧ s.axle.v = 0)

theorem Ramps.rests {s : State} (h : Ramps 0 s) : s.axle.v = 0 := by
  rcases h with ⟨_, h⟩ | ⟨_, h⟩
  · simp only [Nat.cast_zero, zero_mul] at h
    omega
  · exact h

theorem stopped_within {k : CellBlock} {v : Int} {n : Nat} (h : (v.natAbs : Int) ≤ (n + 1 : Nat) * stopStepOf k) :
    ((stopped k v).natAbs : Int) ≤ n * stopStepOf k := by
  have hstep := stopStepOf_nonneg k
  have hn : 0 ≤ (n : Int) * stopStepOf k := by positivity
  rw [Nat.cast_add_one, add_one_mul] at h
  unfold stopped
  generalize stopStepOf k = step at *
  generalize (n : Int) * step = m at *
  split_ifs with hv
  · exact hn
  · rcases lt_trichotomy v 0 with hs | hs | hs
    · rw [Int.sign_eq_neg_one_of_neg hs]
      omega
    · omega
    · rw [Int.sign_eq_one_of_pos hs]
      omega

/-- Outside RUN and STOPPING before, or in SAFE or READY by the checks: a computation leaves the part so, at rest. -/
theorem compute_ramps_rest {x : State} (n : Nat) (hc : x.comp = none) (h : x.run.op.inRun = false) : Ramps n (compute x) := by
  have hop := (compute_told x hc).1.op_other (by rintro hrun; rw [hrun] at h; cases h)
  exact .inr ⟨by rw [hop]; exact h, by rw [compute_rests hc h]⟩

/-- One close takes the axle one stop step on, or to rest. -/
theorem ChecksOut.ramps {s x : State} {c d : Word32} {n : Nat} (h : ChecksOut s c d x) (hs : Ramps (n + 1) s) :
    Ramps n (compute x) := by
  have hc := h.checked.comp
  have hstore : (compute x).cell = s.cell := by
    have hl := compute_leaves x hc
    generalize compute x = t at hl
    exact cell_of_store (by rw [hl]; exact h.checked.store)
  cases h with
  | quiet op hx =>
    rcases hs with ⟨hop, hv⟩ | ⟨hop, _⟩
    · have hxop : x.run.op = .stopping := op.trans hop
      refine .inl ⟨((compute_told x hc).1.op_other (by rw [hxop]; simp)).trans hxop, ?_⟩
      rw [hstore, compute_stops hc hxop, cell_of_store hx.store, hx.axle]
      exact stopped_within hv
    · exact compute_ramps_rest n hc (by rw [op]; exact hop)
  | settled before op hx => exact compute_ramps_rest n hc (by rw [op]; rfl)
  | lost before hx => exact compute_ramps_rest n hc (by rw [hx.op]; rfl)

theorem closes_reach_rest (n : Nat) (s : State) (hl : s.link.running = true) (hp : s.pending = List.replicate n .cycleClose)
    (hs : Ramps n s) : ∃ t, runSteps n s = some t ∧ t.axle.v = 0 ∧ t.pending = [] := by
  induction n generalizing s with
  | zero => exact ⟨s, rfl, hs.rests, hp⟩
  | succ n ih =>
    have hstep : step s = exec .cycleClose { s with pending := List.replicate n .cycleClose } := by
      unfold step
      rw [hp, List.replicate_succ]
    obtain ⟨c, d, x, hexec, hout, hpending, hlink⟩ := cycleClose_holds { s with pending := List.replicate n .cycleClose } hl
    have hramps : Ramps n (pumpTx (compute x)) := by
      have hr := hout.ramps (n := n) hs
      unfold Ramps State.cell at hr ⊢
      rw [pumpTx_run, pumpTx_axle, pumpTx_store]
      exact hr
    obtain ⟨t, ht, hv, he⟩ := ih (pumpTx (compute x)) (hlink.trans hl) hpending hramps
    refine ⟨t, ?_, hv, he⟩
    rw [runSteps, hstep, hexec]
    exact ht

/-- Settles O51, by induction on the closes. -/
theorem stopRampReachesStandstill : Obligations.StopRampReachesStandstill :=
  fun s n hl hop hv hp => closes_reach_rest n s hl hp (.inl ⟨hop, hv⟩)

end Sys2Proof.Machine
end

section
/-! SUPPORT. What the judging and the later stages leave of a station's share of the force sum. -/

namespace Sys2Proof.Machine

/-! ### The command of a faulted station (R71, R72) -/

/-- A faulted record has the command of its cause, or is one that was faulted already and kept its command. -/
def Commanded (q : StationRec) (op : OpState) (r : StationRec) : Prop :=
  r.state = .faulted →
    r.faultCommand = faultCommandOf op r.cause ∨ (q.state = .faulted ∧ r.faultCommand = q.faultCommand)

section
variable {q : StationRec} {op : OpState}

theorem Commanded.refl (q : StationRec) (op : OpState) : Commanded q op q := fun h => .inr ⟨h, rfl⟩

/-- State, cause and command alone count. -/
theorem Commanded.congr {r r' : StationRec} (h : Commanded q op r) (hs : r'.state = r.state) (hc : r'.cause = r.cause)
    (hf : r'.faultCommand = r.faultCommand) : Commanded q op r' := by
  unfold Commanded at h ⊢
  rw [hs, hc, hf]
  exact h

theorem Commanded.of_ne {r : StationRec} (h : r.state ≠ .faulted) : Commanded q op r := fun hs => absurd hs h

theorem fault_commanded (j : Judging) (n : Station) (c : StationCause) : Commanded q op (j.fault n op c).r := fun _ => .inl rfl

theorem trimChange_commanded (ppm : Int) : Commanded q op (trimChange ppm q).r := by
  unfold trimChange
  dsimp only
  split
  · exact Commanded.refl q op
  · cases hs : q.state with
    | idle => exact (Commanded.refl q op).congr hs.symm rfl rfl
    | faulted => exact (Commanded.refl q op).congr hs.symm rfl rfl
    | capture => exact (Commanded.refl q op).congr hs.symm rfl rfl
    | locked => exact Commanded.of_ne (by simp [Judging.move])
    | slip => exact Commanded.of_ne (by simp [Judging.move])

theorem missed_commanded {j : Judging} (hj : Commanded q op j.r) (n : Station) (limit : Nat) (c : MissCause) :
    Commanded q op (j.missed n op limit c).r := by
  unfold Judging.missed
  dsimp only
  split
  · split
    · exact fault_commanded _ n _
    · exact hj.congr rfl rfl rfl
  · exact hj.congr rfl rfl rfl

theorem formError_commanded {j : Judging} (hj : Commanded q op j.r) (n : Station) : Commanded q op (j.formError n op).r := by
  unfold Judging.formError
  dsimp only
  split
  · split
    · exact fault_commanded _ n _
    · exact hj.congr rfl rfl rfl
  · exact hj

theorem tripped_commanded {j : Judging} (hj : Commanded q op j.r) (n : Station) (drive : DriveState) :
    Commanded q op (j.tripped n op drive).r := by
  unfold Judging.tripped
  split
  · exact fault_commanded _ n _
  · exact hj

theorem accept_commanded {j : Judging} (hj : Commanded q op j.r) (n : Station) (now count : Word32) (force : Int)
    (drive : DriveState) (trip : Nat) : Commanded q op (j.accept n op now count force drive trip).r :=
  tripped_commanded (formError_commanded (j := j.put (j.r.take now count force drive trip)) (hj.congr rfl rfl rfl) n) n _

theorem captureStep_commanded {j : Judging} (hj : Commanded q op j.r) (n : Station) (p : Params) (speed : Option Int) :
    Commanded q op (j.captureStep n p op speed).r := by
  unfold Judging.captureStep
  dsimp only
  split
  · split
    · exact Commanded.of_ne (by simp [Judging.move, StationRec.toLocked])
    · split
      · exact fault_commanded _ n _
      · exact hj.congr rfl rfl rfl
  · exact hj

theorem windows_commanded {j : Judging} (hj : Commanded q op j.r) (p : Params) : Commanded q op (j.windows p).r := by
  unfold Judging.windows
  split
  · split
    · exact Commanded.of_ne (by simp [Judging.move])
    · exact hj
  · split
    · exact Commanded.of_ne (by simp [Judging.move])
    · exact hj
  · exact hj

theorem slipStep_commanded {j : Judging} (hj : Commanded q op j.r) (n : Station) (p : Params) (began : LockState) :
    Commanded q op (j.slipStep n p op began).r := by
  unfold Judging.slipStep
  dsimp only
  split
  · split
    · exact fault_commanded _ n _
    · exact hj.congr rfl rfl rfl
  · exact hj

theorem observe_commanded {j : Judging} (hj : Commanded q op j.r) (n : Station) (p : Params) (now : Word32) (obs : Observation) :
    Commanded q op (j.observe n p op now obs).r := by
  have hrest : ∀ (k : Judging) speed began, Commanded q op k.r →
      Commanded q op (((k.captureStep n p op speed).windows p).slipStep n p op began).r := fun k speed began hk =>
    slipStep_commanded (windows_commanded (captureStep_commanded hk n p speed) p) n p began
  unfold Judging.observe
  cases obs with
  | silent => exact hrest _ _ _ (missed_commanded hj n _ _)
  | disagree => exact hrest _ _ _ (missed_commanded hj n _ _)
  | valid count force drive trip resp =>
    dsimp only
    split
    · exact hrest _ _ _ (accept_commanded hj n now count force drive trip)
    · exact hrest _ _ _ (missed_commanded hj n _ _)
end

theorem judge_commanded (n : Station) (p : Params) (op : OpState) (now : Word32) (obs : Observation) (q : StationRec) :
    Commanded q op (judge n p op now obs q).r :=
  observe_commanded (j := (trimChange p.circTrim[n] q).put (trimChange p.circTrim[n] q).r.beginStage)
    ((trimChange_commanded _).congr rfl rfl rfl) n p now obs

/-! ### The later stages (R58 to R61, R72) -/

/-- Gearing, feedforward and assembly of one record. -/
def geared (adv v : Int) (p : Params) (op : OpState) (cross : Int) (r : StationRec) : StationRec :=
  ((r.gear adv).feed v).assemble p op cross

theorem gear_keeps (r : StationRec) (adv : Int) : (r.gear adv).state = r.state ∧ (r.gear adv).force = r.force ∧
    (r.gear adv).cause = r.cause := by
  unfold StationRec.gear
  dsimp only
  split <;> exact ⟨rfl, rfl, rfl⟩

theorem assemble_keeps (r : StationRec) (p : Params) (op : OpState) (cross : Int) :
    (r.assemble p op cross).state = r.state ∧ (r.assemble p op cross).force = r.force ∧
      (r.state = .faulted → (r.assemble p op cross).faultCommand = faultCommandOf op r.cause) := by
  unfold StationRec.assemble
  dsimp only
  cases hs : r.state with
  | idle => exact ⟨rfl, rfl, fun h => by cases h⟩
  | capture => exact ⟨rfl, rfl, fun h => by cases h⟩
  | locked => exact ⟨rfl, rfl, fun h => by cases h⟩
  | slip => exact ⟨rfl, rfl, fun h => by cases h⟩
  | faulted =>
    dsimp only
    cases hc : faultCommandOf op r.cause with
    | follow => exact ⟨rfl, rfl, fun _ => rfl⟩
    | torqueOff => exact ⟨rfl, rfl, fun _ => rfl⟩

theorem geared_keeps (adv v : Int) (p : Params) (op : OpState) (cross : Int) (r : StationRec) :
    (geared adv v p op cross r).state = r.state ∧ (geared adv v p op cross r).force = r.force ∧
      (r.state = .faulted → (geared adv v p op cross r).faultCommand = faultCommandOf op r.cause) := by
  obtain ⟨g1, g2, g3⟩ := gear_keeps r adv
  obtain ⟨a1, a2, a3⟩ := assemble_keeps ((r.gear adv).feed v) p op cross
  have f1 : ((r.gear adv).feed v).state = r.state := g1
  have f2 : ((r.gear adv).feed v).force = r.force := g2
  have f3 : ((r.gear adv).feed v).cause = r.cause := g3
  rw [f1] at a1 a3
  rw [f2] at a2
  rw [f3] at a3
  exact ⟨a1, a2, a3⟩

theorem mapStations_get (f : Station → StationRec → StationRec) (s : State) (n : Station) :
    (mapStations f s).stations[n] = s.stations[n].map (f n) := by
  unfold mapStations
  rw [ofEight_get]

/-- The records after the stages are the judged ones, geared and assembled in an operating state of the run or the one before. -/
theorem stages_stations (w : State) (hc : w.comp = none) (n : Station) : ∃ adv v p op cross,
    (stages w).stations[n] = (judgeStage w).stations[n].map (geared adv v p op cross) ∧
      (op = w.run.op ∨ (w.run.op = .run ∧ op = .stopping)) := by
  obtain ⟨hf, hj⟩ := judgeStage_told w hc
  unfold stages
  generalize judgeStage w = a at hf hj ⊢
  have ha := axleStage_braked a
  have hfa := (axleStage_told a).1
  have hast : (axleStage a).stations = a.stations := by rw [ha]
  generalize axleStage a = b at ha hfa hast ⊢
  have hw := windupStage_braked (gearStage b)
  have hfw := (windupStage_told (gearStage b)).1
  have hwst : (windupStage (gearStage b)).stations = (gearStage b).stations := by rw [hw]; rfl
  have hgop : (gearStage b).run.op = b.run.op := rfl
  generalize hd : windupStage (gearStage b) = d at hw hfw hwst ⊢
  have hn := (countLocks_told (assembleStage d)).2
  have hnst : (countLocks (assembleStage d)).stations = (assembleStage d).stations := by rw [hn]
  have haop : a.run.op = w.run.op := by rw [hj]
  refine ⟨b.axle.adv, b.axle.v, d.params, d.run.op, d.monitor.cross[n].getD 0, ?_, ?_⟩
  · rw [hnst]
    unfold assembleStage
    rw [mapStations_get, hwst]
    unfold gearStage
    rw [mapStations_get, hast, Option.map_map]
    rfl
  · have h1 := hfa.op_cases
    have h2 := hfw.op_cases
    rw [hgop] at h2
    rw [haop] at h1
    rcases h1 with h1 | ⟨h1, h1'⟩
    · rw [h1] at h2
      exact h2
    · rcases h2 with h2 | ⟨h2, _⟩
      · exact .inr ⟨h1, h2.trans h1'⟩
      · rw [h1'] at h2
        cases h2

/-- The judging half way: the listed stations' records are judged, the others as they were. -/
def JudgedUpTo (s : State) (l : List Station) (t : State) : Prop := Judged s t ∧
  ∀ m : Station, t.stations[m] = if m ∈ l then s.stations[m].map (fun r => (s.judging m r).r) else s.stations[m]

/-- The judged record of each station. -/
theorem judgeStage_stations (s : State) (hc : s.comp = none) (n : Station) :
    (judgeStage s).stations[n] = s.stations[n].map fun r => (s.judging n r).r := by
  have h : JudgedUpTo s stationList (judgeStage s) := by
    unfold judgeStage
    refine eachStation_progress (Q := JudgedUpTo s) ⟨Judged.refl s, fun m => by simp⟩ fun l n t hn ⟨hj, hst⟩ => ?_
    have hsn : t.stations[n] = s.stations[n] := by rw [hst n, if_neg hn]
    have stay : ∀ m, m ≠ n → (m ∈ l ++ [n] ↔ m ∈ l) := fun m hne => by simp [hne]
    unfold stationTurn
    rw [hsn]
    cases hr : s.stations[n] with
    | none =>
      refine ⟨hj, fun m => ?_⟩
      by_cases hm : m = n
      · subst hm
        rw [hsn, hr]
        simp
      · simp only [stay m hm]
        exact hst m
    | some r =>
      have hjudging : t.judging n r = s.judging n r := by
        unfold State.judging
        rw [hj]
      obtain ⟨_, h2, h3⟩ := applyJudging_told n (t.judging n r) t (judge_sound n t.params t.run.op t.run.count _ r)
        (by rw [hj]; exact hc)
      dsimp only
      refine ⟨hj.trans h2, fun m => ?_⟩
      rw [h3, Vector.set_get, hjudging]
      by_cases hm : n = m
      · subst hm
        simp [hr]
      · simp only [if_neg hm, stay m (Ne.symm hm)]
        exact hst m
  rw [h.2 n, if_pos (mem_stationList n)]

/-! ### The force sum (R31) -/

theorem forceSum_eq (s : State) :
    s.forceSum = (stationList.map fun n => (s.stations[n].map StationRec.forceShare).getD 0).sum := by
  have hshare : ∀ n : Station, (match s.stations[n] with | some r => r.forceShare | none => 0) =
      (s.stations[n].map StationRec.forceShare).getD 0 := fun n => by cases s.stations[n] <;> rfl
  unfold State.forceSum
  rw [List.sum_eq_foldl, List.foldl_map]
  refine congrArg (fun f => List.foldl f 0 stationList) (funext fun f => funext fun n => ?_)
  exact congrArg (f + ·) (hshare n)

/-- A share is the one of the judged record, where a station faulted before keeps its command. -/
theorem forceShare_geared {q : StationRec} {op op' : OpState} {r : StationRec} (hr : Commanded q op r) (ho : op.inRun = true)
    (ho' : op'.inRun = true) (adv v : Int) (p : Params) (cross : Int)
    (hq : q.state = .faulted → q.faultCommand = (geared adv v p op' cross r).faultCommand) :
    (geared adv v p op' cross r).forceShare = r.forceShare := by
  obtain ⟨hs, hf, hc⟩ := geared_keeps adv v p op' cross r
  unfold StationRec.forceShare
  rw [hs, hf]
  by_cases h : r.state = .faulted
  · have hcmd : (geared adv v p op' cross r).faultCommand = r.faultCommand := by
      rcases hr h with hr | ⟨hqs, hr⟩
      · rw [hc h, hr, faultCommandOf_inRun op _ ho, faultCommandOf_inRun op' _ ho']
      · rw [hr, hq hqs]
    rw [hcmd]
  · simp only [h, false_and, if_false]

end Sys2Proof.Machine
end

section
/-! SUPPORT. The checks of a close that leave RUN and STOPPING alone, and those of a close outside them. -/

namespace Sys2Proof.Machine

/-! ### No LINK_LOST (R149) -/

theorem course_silence (s : State) (count : Word32) (m : Faults) (op : OpState) (l : List (Raise ⊕ ReportBody)) :
    (course s count m op l).1.silence = m.silence := by
  have h := course_silenced s count m op m.silence l
  exact congrArg (fun x => Faults.silence x.1) h

theorem Follows.silence {acts : List (Raise ⊕ ReportBody)} {s t : State} (h : Follows acts s t) :
    t.faults.silence = s.faults.silence := by
  rw [h.faults, course_silence]

/-- A valid observation is formed, or the silence count does not come to the limit: LINK_LOST is not due. -/
def NotLost (s : State) : Prop := s.faults.silence + 1 ≠ s.cell.linkLostLimit ∨ hearsOne s

theorem LinkDone.hears {s u : State} {c : Word32} (h : LinkDone s c u) (hs : hearsOne s) : u.noneValid = false := by
  obtain ⟨n, r, hr, k, f, d, x, y, hm⟩ := hs
  have hst : u.stations = s.stations := by rw [h.frame]
  have hobs : u.link.st[n].obs = some (.valid k f d x y) := by
    rw [h.closed n, closedStation, hr]
    exact (closed_obs r _).trans (congrArg some hm)
  unfold State.noneValid
  rw [List.all_eq_false]
  refine ⟨n, mem_stationList n, ?_⟩
  unfold State.has State.lastValid
  rw [hst, hr, hobs]
  simp [Observation.isValid]

theorem LinkDone.not_losesLink {s u : State} {c : Word32} (h : LinkDone s c u) (hsil : u.faults.silence = s.faults.silence)
    (hs : NotLost s) : u.losesLink = false := by
  have hcell : u.cell = s.cell := cell_of_store h.checked.store
  rcases hs with hs | hs
  · unfold State.losesLink State.nextSilence satAdd
    rw [hsil, hcell]
    cases u.run.op.enables <;> cases u.noneValid <;> simp
    omega
  · unfold State.losesLink
    rw [h.hears hs, Bool.and_false]
    rfl

theorem silenceUpdate_quiet {u : State} (h : u.losesLink = false) :
    silenceUpdate u = { u with faults := { u.faults with silence := u.nextSilence } } := by
  unfold silenceUpdate
  rw [h]
  rfl

theorem countCycle_inRun {u : State} (h : u.run.op.inRun = true) :
    countCycle u = { u with run := { u.run with count := u.run.count + 1 } } := by
  unfold countCycle
  rw [h]
  rfl

/-! ### The checks in RUN and STOPPING -/

/-- The drive link controller's work from a state with that run cycle count: the silence count stays. -/
theorem closeLink_begun {s v : State} {k : Nat} {c : Word32}
    (hv : v = { s with comp := none, free := k, run := { s.run with count := c } }) :
    LinkDone s c (closeLink v) ∧ (closeLink v).run.count = c ∧ (closeLink v).faults.silence = s.faults.silence := by
  obtain ⟨hd, hc⟩ := closeLink_done hv
  refine ⟨hd, hc, ?_⟩
  have hsil : v.faults = s.faults := by rw [hv]
  rw [(closeLink_told v).1.silence, hsil]

/-- After the silence count's work and the settle's: in RUN and STOPPING neither has come to anything. -/
theorem LinkDone.checks {s u : State} {c : Word32} (h : LinkDone s c u) (hin : s.run.op.inRun = true)
    (hsil : u.faults.silence = s.faults.silence) (hs : NotLost s) :
    LinkDone s c (silenceUpdate u) ∧ (silenceUpdate u).run = u.run ∧ (silenceUpdate u).run.op ≠ .settle := by
  rw [silenceUpdate_quiet (h.not_losesLink hsil hs)]
  refine ⟨h.silenced u.nextSilence, rfl, ?_⟩
  show u.run.op ≠ .settle
  rw [h.op]
  rintro hop
  rw [hop] at hin
  cases hin

/-- A cycle close in RUN or STOPPING up to its computation, LINK_LOST not due (R4, R123, R149). -/
theorem closeChecks_quiet (order : CountOrder) (s : State) (k : Nat) (hin : s.run.op.inRun = true) (hs : NotLost s) :
    ∃ c x, closeChecks order { s with comp := none, free := k } = x ∧ (c = s.run.count ∨ c = x.run.count) ∧
      LinkDone s c x ∧ x.run.count = s.run.count + 1 := by
  cases order with
  | beforeLink =>
    have hcount : countCycle { s with comp := none, free := k } =
        { s with comp := none, free := k, run := { s.run with count := s.run.count + 1 } } := countCycle_inRun hin
    obtain ⟨hd, hc, hsil⟩ := closeLink_begun hcount
    unfold closeChecks
    dsimp only
    generalize closeLink (countCycle { s with comp := none, free := k }) = u at hd hc hsil ⊢
    obtain ⟨h1, h2, h3⟩ := hd.checks hin hsil hs
    rw [settleUpdate_other h3]
    have hx : (silenceUpdate u).run.count = s.run.count + 1 := by rw [h2, hc]
    exact ⟨s.run.count + 1, _, rfl, .inr hx.symm, h1, hx⟩
  | beforeSilence =>
    obtain ⟨hd, hc, hsil⟩ := closeLink_begun (s := s) (v := { s with comp := none, free := k }) rfl
    unfold closeChecks
    dsimp only
    generalize closeLink { s with comp := none, free := k } = u at hd hc hsil ⊢
    have ht := hd.ticked (countCycle_ticked u)
    have hcount := countCycle_inRun (u := u) (by rw [hd.op]; exact hin)
    have hsil' : (countCycle u).faults.silence = s.faults.silence := by rw [hcount]; exact hsil
    obtain ⟨h1, h2, h3⟩ := ht.checks hin hsil' hs
    rw [settleUpdate_other h3]
    refine ⟨s.run.count, _, rfl, .inl rfl, h1, ?_⟩
    rw [h2, hcount]
    exact congrArg (· + 1) hc
  | afterSilence =>
    obtain ⟨hd, hc, hsil⟩ := closeLink_begun (s := s) (v := { s with comp := none, free := k }) rfl
    unfold closeChecks
    dsimp only
    generalize closeLink { s with comp := none, free := k } = u at hd hc hsil ⊢
    obtain ⟨h1, h2, _⟩ := hd.checks hin hsil hs
    generalize silenceUpdate u = v at h1 h2 ⊢
    have ht := h1.ticked (countCycle_ticked v)
    have hcount := countCycle_inRun (u := v) (by rw [h1.op]; exact hin)
    rw [settleUpdate_other (u := countCycle v) (by
      rw [ht.op]
      rintro hop
      rw [hop] at hin
      cases hin)]
    refine ⟨s.run.count, _, rfl, .inl rfl, ht, ?_⟩
    rw [hcount]
    show v.run.count + 1 = _
    rw [h2, hc]

/-- A cycle close in RUN or STOPPING, LINK_LOST not due. -/
theorem cycleClose_quiet (s : State) (h : s.link.running = true) (hin : s.run.op.inRun = true) (hs : NotLost s) :
    ∃ c x, exec .cycleClose s = .next (pumpTx (compute x)) ∧ (c = s.run.count ∨ c = x.run.count) ∧
      LinkDone s c x ∧ x.run.count = s.run.count + 1 := by
  obtain ⟨c, x, hx, hc, hd, hcount⟩ := closeChecks_quiet (Config.countOrder s.free) s (s.free + 1) hin hs
  refine ⟨c, x, ?_, hc, hd, hcount⟩
  rw [← hx]
  show done _ = _
  rw [if_pos h]
  unfold cycleCloseWith
  dsimp only
  rw [hin]
  rfl

/-! ### The checks outside a run -/

/-- What the checks of a close outside RUN and STOPPING leave alone: all of the axle but its speed, the count, the set, the events,
the lines and the link's own counters. -/
structure Stands (s x : State) : Prop where
  comp : x.comp = none
  axle : ∃ v, x.axle = { s.axle with v := v }
  count : x.run.count = s.run.count
  params : x.params = s.params
  store : x.store = s.store
  mem : x.mem = s.mem
  events : x.events = s.events
  estop : x.pins.estop = s.pins.estop
  marker : x.pins.marker = s.pins.marker
  counter : x.link.counter = s.link.counter
  sync : x.link.sync = s.link.sync

theorem LinkDone.stands {s u : State} {c : Word32} (h : LinkDone s c u) (hc : u.run.count = s.run.count) : Stands s u := by
  have hf := h.frame
  exact ⟨by rw [hf], ⟨s.axle.v, by rw [hf]⟩, hc, by rw [hf], by rw [hf], by rw [hf], by rw [hf], by rw [hf], by rw [hf], by rw [hf],
    by rw [hf]⟩

/-- A raise of level 1 outside RUN and STOPPING. -/
theorem Stands.safe {s u : State} (h : Stands s u) {f : Raise} (hf : f.kind.level = 1) (hop : u.run.op.watchesEstop = true)
    (hout : u.run.op.inRun = false) : Stands s (raiseFault f u) := by
  have hs := raiseFault_safe f u hf hop
  obtain ⟨hcomp, haxle⟩ := hs.resting h.comp
  obtain ⟨v, hv⟩ := h.axle
  have hlink := hs.reacted.link
  refine ⟨hcomp, ⟨0, by rw [haxle, hv]⟩, ?_, hs.reacted.params.trans h.params, hs.reacted.store.trans h.store,
    hs.reacted.mem.trans h.mem, (hs.events hout).trans h.events, hs.reacted.estop.trans h.estop, ?_, by rw [hlink, h.counter],
    by rw [hlink, h.sync]⟩
  · rw [hs.run]; exact h.count
  · rw [hs.pins]; exact h.marker

/-- The operating states a close outside RUN and STOPPING leads to. -/
def Leads (s x : State) : Prop := x.run.op = s.run.op ∨ x.run.op = .ready ∨ x.run.op = .safe

/-- The settle's work outside RUN and STOPPING. -/
theorem LinkDone.settle_stands {s u : State} {c : Word32} (h : LinkDone s c u) (hc : u.run.count = s.run.count) :
    Stands s (settleUpdate u) ∧ Leads s (settleUpdate u) := by
  rw [settleUpdate_eq, h.op]
  by_cases hop : s.run.op = .settle
  · rw [if_pos hop]
    have ht := (h.ticked (settleCounted_ticked u)).stands hc
    have htop : ({ u with run := u.settleCounted } : State).run.op = .settle := h.op.trans hop
    split
    · rw [settledReady_eq]
      exact ⟨⟨ht.comp, ht.axle, ht.count, ht.params, ht.store, ht.mem, ht.events, ht.estop, ht.marker, ht.counter, ht.sync⟩,
        .inr (.inl rfl)⟩
    · split
      · refine ⟨ht.safe rfl (by rw [htop]; rfl) (by rw [htop]; rfl), .inr (.inr ?_)⟩
        rw [(raiseFault_safe _ _ rfl (by rw [htop]; rfl)).run]
      · exact ⟨ht, .inl h.op⟩
  · rw [if_neg hop]
    exact ⟨h.stands hc, .inl h.op⟩

/-- Outside RUN and STOPPING the drives are enabled in READY alone (R117). -/
theorem ready_of_enables {op : OpState} (hen : op.enables = true) (hout : op.inRun = false) : op = .ready := by
  cases op with
  | ready => rfl
  | loading => cases hen
  | config => cases hen
  | safe => cases hen
  | settle => cases hen
  | run => cases hout
  | stopping => cases hout

/-- The silence count's work and the settle's outside RUN and STOPPING. -/
theorem LinkDone.check_stands {s u : State} {c : Word32} (h : LinkDone s c u) (hc : u.run.count = s.run.count)
    (hout : s.run.op.inRun = false) :
    Stands s (settleUpdate (silenceUpdate u)) ∧ Leads s (settleUpdate (silenceUpdate u)) := by
  by_cases hl : u.losesLink = true
  · have hready : u.run.op = .ready := by
      unfold State.losesLink at hl
      simp only [Bool.and_eq_true] at hl
      have hen := hl.1.1.1
      rw [← h.op] at hout
      exact ready_of_enables hen hout
    have hraise : silenceUpdate u = raiseFault { kind := .linkLost } { u with faults := { u.faults with silence := u.nextSilence } } := by
      unfold silenceUpdate
      rw [hl]
      rfl
    have hv : Stands s { u with faults := { u.faults with silence := u.nextSilence } } := (h.silenced u.nextSilence).stands hc
    have hwatch : ({ u with faults := { u.faults with silence := u.nextSilence } } : State).run.op.watchesEstop = true := by
      show u.run.op.watchesEstop = true
      rw [hready]
      rfl
    have hstands := hv.safe (f := { kind := .linkLost }) rfl hwatch (by show u.run.op.inRun = false; rw [hready]; rfl)
    have hsafe : (silenceUpdate u).run.op = .safe := by rw [hraise, (raiseFault_safe _ _ rfl hwatch).run]
    rw [← hraise] at hstands
    rw [settleUpdate_other (by rw [hsafe]; simp)]
    exact ⟨hstands, .inr (.inr hsafe)⟩
  · rw [silenceUpdate_quiet (Bool.eq_false_iff.mpr hl)]
    exact (h.silenced u.nextSilence).settle_stands hc

/-- A cycle close outside RUN and STOPPING. -/
theorem cycleClose_stands (s : State) (h : s.link.running = true) (hout : s.run.op.inRun = false) :
    ∃ x, exec .cycleClose s = .next (pumpTx (compute x)) ∧ Stands s x ∧ Leads s x := by
  obtain ⟨hd, hc, _⟩ := closeLink_begun (s := s) (v := { s with comp := none }) rfl
  have hcount : countCycle { s with comp := none } = { s with comp := none } := countCycle_other hout
  obtain ⟨h1, h2⟩ := hd.check_stands hc hout
  refine ⟨_, ?_, h1, h2⟩
  show done _ = _
  rw [if_pos h]
  unfold cycleCloseWith closeChecks
  dsimp only
  rw [hout, if_neg (by simp), hcount]
  rfl

end Sys2Proof.Machine
end

section
/-! SUPPORT. The raises of a cycle computation: OVERSPEED among the others, and the reaction it brings. -/

namespace Sys2Proof.Machine

/-! ### Reactions along a course (R140) -/

/-- No reaction above level 3 stands. -/
def Mild (r : Reaction) : Prop := r = .none ∨ r = .three

theorem take_reaction (f : Raise) (now : Word32) (op : OpState) (m : Faults) : (m.take f now op).reaction =
    if m.reaction.accepts f.kind.level then Reaction.ofLevel f.kind.level else m.reaction := rfl

theorem Mild.accepts_two {r : Reaction} (h : Mild r) : r.accepts 2 = true := by
  rcases h with rfl | rfl <;> rfl

/-- A raise of level 3 sets no higher reaction, one of level 4 none at all. -/
theorem Mild.take {m : Faults} (h : Mild m.reaction) {f : Raise} (hf : 3 ≤ f.kind.level) (now : Word32) (op : OpState) :
    Mild (m.take f now op).reaction := by
  rw [take_reaction]
  obtain h3 | h4 : f.kind.level = 3 ∨ 3 < f.kind.level := by omega
  · rw [h3]
    split
    · exact .inr rfl
    · exact h
  · have hacc : m.reaction.accepts f.kind.level = false := by
      unfold Reaction.accepts
      split
      · omega
      · omega
      · omega
      · rfl
    rw [hacc]
    exact h

/-- Raises of level 3 and 4 leave the operating state. -/
theorem course_mild (s : State) (count : Word32) {m : Faults} (op : OpState) {l : List (Raise ⊕ ReportBody)}
    (hl : ∀ f, .inl f ∈ l → 3 ≤ f.kind.level) (h : Mild m.reaction) :
    Mild (course s count m op l).1.reaction ∧ (course s count m op l).2.1 = op := by
  induction l generalizing m with
  | nil => exact ⟨h, rfl⟩
  | cons x rest ih =>
    have hrest : ∀ f, .inl f ∈ rest → 3 ≤ f.kind.level := fun f hf => hl f (List.mem_cons_of_mem _ hf)
    cases x with
    | inl f =>
      have hf := hl f List.mem_cons_self
      have hstop : stopsRun m op f = false := by
        unfold stopsRun
        rw [show (f.kind.level == 2) = false from by rw [beq_eq_false_iff_ne]; omega]
        rfl
      rw [course_raise, hstop]
      exact ih hrest (h.take hf count op)
    | inr b =>
      rw [course_report]
      exact ih hrest h

/-- Under reaction level 2 raises of level 2 to 4 set no other. -/
theorem course_two (s : State) (count : Word32) {m : Faults} (op : OpState) {l : List (Raise ⊕ ReportBody)}
    (hl : ∀ f, .inl f ∈ l → 2 ≤ f.kind.level) (h : m.reaction = .two) : (course s count m op l).1.reaction = .two := by
  induction l generalizing m op with
  | nil => exact h
  | cons x rest ih =>
    have hrest : ∀ f, .inl f ∈ rest → 2 ≤ f.kind.level := fun f hf => hl f (List.mem_cons_of_mem _ hf)
    cases x with
    | inl f =>
      have hf := hl f List.mem_cons_self
      have hacc : m.reaction.accepts f.kind.level = false := by
        rw [h]
        unfold Reaction.accepts
        split
        · omega
        · rfl
        · rfl
        · rfl
      rw [course_raise]
      refine ih _ hrest ?_
      rw [take_reaction, hacc]
      exact h
    | inr b =>
      rw [course_report]
      exact ih _ hrest h

/-- A raise of level 2 in RUN, raises of level 3 and 4 before it and of level 2 to 4 after it, no reaction above level 3 standing:
the part is in STOPPING, under reaction level 2. -/
theorem course_stops (s : State) (count : Word32) {m : Faults} {a b : List (Raise ⊕ ReportBody)} {f : Raise}
    (ha : ∀ g, .inl g ∈ a → 3 ≤ g.kind.level) (hb : ∀ g, .inl g ∈ b → 2 ≤ g.kind.level) (hf : f.kind.level = 2)
    (h : Mild m.reaction) : (course s count m .run (a ++ .inl f :: b)).1.reaction = .two ∧
      (course s count m .run (a ++ .inl f :: b)).2.1 = .stopping := by
  obtain ⟨hmild, hop⟩ := course_mild s count .run ha h
  rw [course_append]
  dsimp only
  rw [hop]
  generalize (course s count m .run a).1 = m' at hmild ⊢
  have hstop : stopsRun m' .run f = true := by
    unfold stopsRun
    rw [hf, hmild.accepts_two]
    rfl
  have htwo : (m'.take f count .run).reaction = .two := by
    rw [take_reaction, hf, hmild.accepts_two]
    rfl
  rw [course_raise, hstop]
  refine ⟨course_two s count .stopping hb htwo, ?_⟩
  exact (course_op s count (m'.take f count .run) .stopping b).resolve_right (by simp)

/-! ### The raises of a computation (R37, R71, R86, R87) -/

/-- The raises of the judging are of level 3. -/
theorem judgeActs_level {w : State} {f : Raise} (h : .inl f ∈ stationList.flatMap (judgeActs w)) : f.kind.level = 3 := by
  obtain ⟨n, _, h⟩ := List.mem_flatMap.mp h
  unfold judgeActs at h
  split at h
  · obtain ⟨e, he, hf⟩ := List.mem_map.mp h
    have hsound := judge_sound _ _ _ _ _ _ e he
    cases e with
    | fault g =>
      cases hf
      exact hsound
    | changed old x reason => cases hf
  · cases h

/-- What a computation raises and reports after OVERSPEED. -/
def monitorActs (w t : State) : List (Raise ⊕ ReportBody) :=
  List.flatten [
    if w.monitor.timer = w.cell.windupTime ∧ t.monitor.timer = w.cell.windupTime + 1 then
      [.inl { kind := .windup, detail := spreadDetail t.monitor }] else [],
    if w.monitor.warn = false ∧ t.monitor.warn = true then [.inl { kind := .windupWarn, detail := spreadDetail t.monitor }] else [],
    (firstCuts w t).map .inr]

theorem monitorActs_kind {w t : State} {f : Raise} (h : .inl f ∈ monitorActs w t) : f.kind = .windup ∨ f.kind = .windupWarn := by
  unfold monitorActs at h
  simp only [List.flatten_cons, List.flatten_nil, List.append_nil, List.mem_append] at h
  rcases h with h | h | h
  · split at h
    · cases List.mem_singleton.mp h
      exact .inl rfl
    · cases h
  · split at h
    · cases List.mem_singleton.mp h
      exact .inr rfl
    · cases h
  · obtain ⟨b, _, hb⟩ := List.mem_map.mp h
    cases hb

/-- A computation whose step V_LIMIT holds: the judging, OVERSPEED, the monitor and the counters. -/
theorem computeActs_overspeed {w t : State} (hop : w.run.op = .run) (h : overspeeds w t.axle.fSum = true) :
    computeActs w t = stationList.flatMap (judgeActs w) ++ .inl { kind := .overspeed } :: monitorActs w t := by
  unfold computeActs monitorActs
  rw [if_pos (⟨hop, h⟩ : w.run.op = .run ∧ overspeeds w t.axle.fSum = true)]
  simp only [List.flatten_cons, List.singleton_append]

/-- OVERSPEED is recorded; no reaction above level 3 standing, the part is in STOPPING under reaction level 2 (R37, R126). -/
theorem Follows.overspeed {w t : State} (hf : Follows (computeActs w t) w t) (hop : w.run.op = .run)
    (h : overspeeds w t.axle.fSum = true) : listed t.faults .overspeed none none none ∧
      (Mild w.faults.reaction → t.run.op = .stopping ∧ t.run.stopCause = some .fault ∧ t.faults.reaction = .two) := by
  have hfaults := hf.faults
  have hopen := hf.op
  have hstops := hf.stops hop
  rw [hop, computeActs_overspeed hop h] at hfaults hopen
  have hone : OneDetail (stationList.flatMap (judgeActs w) ++ .inl { kind := .overspeed } :: monitorActs w t) .overspeed none := by
    intro f hmem hk
    rcases List.mem_append.mp hmem with hj | hw
    · have hl := judgeActs_level hj
      rw [hk] at hl
      cases hl
    rcases List.mem_cons.mp hw with hf | hw
    · cases hf
      rfl
    · rcases monitorActs_kind hw with h | h <;> rw [hk] at h <;> cases h
  refine ⟨?_, fun hm => ?_⟩
  · rw [hfaults]
    exact course_listed w w.run.count (f := { kind := .overspeed }) hone (by simp) w.faults .run
  · obtain ⟨htwo, hstop⟩ := course_stops w w.run.count (f := { kind := .overspeed })
      (fun g hg => (judgeActs_level hg).ge) (fun g hg => by rcases monitorActs_kind hg with h | h <;> rw [h] <;> decide) rfl hm
    rw [← hopen] at hstop
    exact ⟨hstop, (hstops hstop).2, by rw [hfaults, htwo]⟩

end Sys2Proof.Machine
end

section
/-! O23: the axle and the computation of a close. -/

namespace Sys2Proof.Machine

/-! ### The axle of a computation in RUN and STOPPING (R28, R38 to R40) -/

theorem narrow64_within {x : Int} (h1 : -9223372036854775808 ≤ x) (h2 : x ≤ 9223372036854775807) : narrow64 x = x :=
  if_pos ⟨h1, h2⟩

/-- The SPEED step: the moved speed within V_LIMIT. -/
theorem speedStep_v (s : State) (h : 0 ≤ s.axle.vLimit) :
    (speedStep s.params s.period s.axle.vLimit s.axle.v s.traceSpeed).v =
      max (-s.axle.vLimit) (min s.axle.vLimit (speedMoved s)) := by
  have hp : 0 ≤ s.period := Int.natCast_nonneg _
  have hstep : 0 ≤ accelStep s.params.accelLimit s.period := roundDiv_nonneg (by positivity) (by norm_num)
  unfold speedStep limited
  dsimp only
  rw [moveToward_eq _ _ _ hstep, limitMag_eq _ _ h]
  rfl

theorem axleResult_speed {s : State} (hop : s.run.op = .run) (hm : s.run.mode = .speed) :
    s.axleResult = speedStep s.params s.period s.axle.vLimit s.axle.v s.traceSpeed := by
  unfold State.axleResult
  rw [hop, hm]
  rfl

theorem axleResult_road {s : State} (hop : s.run.op = .run) (hm : s.run.mode = .road) :
    s.axleResult = roadStep s.params s.cell.period s.axle.vLimit s.axle.v s.axle.grade s.forceSum := by
  unfold State.axleResult
  rw [hop, hm]
  rfl

/-- The judging leaves all a step reads, the records apart. -/
theorem speedMoved_judged {s t : State} (h : Judged s t) : speedMoved t = speedMoved s := by
  rw [h]
  rfl

theorem speedMoved_begun (x : State) : speedMoved (computeBegun x) = speedMoved x := rfl

theorem Unlost.speedMoved {s x : State} {c : Word32} {l : List Told} (h : Unlost s c l x) : speedMoved x = speedMoved s := by
  have hcell := cell_of_store h.store
  unfold Machine.speedMoved
  rw [h.params, hcell, h.axle, h.fresh, h.player]

theorem compute_fSum {x : State} (hc : x.comp = none) (h : x.run.op.inRun = true) :
    (compute x).axle.fSum = (judgedFrom x).forceSum := by
  rw [compute_moves hc h]
  rfl

theorem compute_speed {x : State} (hc : x.comp = none) (hop : x.run.op = .run) (hm : x.run.mode = .speed)
    (hl : 0 ≤ x.axle.vLimit) : (compute x).axle.v = max (-x.axle.vLimit) (min x.axle.vLimit (speedMoved x)) := by
  have hj := judgedFrom_judged hc
  have hop' : (judgedFrom x).run.op = .run := by rw [hj]; exact hop
  have hm' : (judgedFrom x).run.mode = .speed := by rw [hj]; exact hm
  have haxle : (judgedFrom x).axle = x.axle := by rw [hj]; rfl
  have hmoved : speedMoved (judgedFrom x) = speedMoved x := (speedMoved_judged hj).trans (speedMoved_begun x)
  rw [compute_moves hc (by rw [hop]; rfl), advance_v, axleResult_speed hop' hm', speedStep_v _ (by rw [haxle]; exact hl), haxle,
    hmoved]

theorem compute_road {x : State} (hc : x.comp = none) (hop : x.run.op = .run) (hm : x.run.mode = .road) : (compute x).axle.v =
    (roadStep x.params x.cell.period x.axle.vLimit x.axle.v x.axle.grade (compute x).axle.fSum).v := by
  have hj := judgedFrom_judged hc
  have hop' : (judgedFrom x).run.op = .run := by rw [hj]; exact hop
  have hm' : (judgedFrom x).run.mode = .road := by rw [hj]; exact hm
  have haxle : (judgedFrom x).axle = x.axle := by rw [hj]; rfl
  have hparams : (judgedFrom x).params = x.params := by rw [hj]; rfl
  have hcell : (judgedFrom x).cell = x.cell := cell_of_store (by rw [hj]; rfl)
  have hin : x.run.op.inRun = true := by rw [hop]; rfl
  rw [compute_fSum hc hin, compute_moves hc hin, advance_v, axleResult_road hop' hm', haxle, hparams, hcell]

/-- The distance advances with V', whole part and fraction together; grade and V_LIMIT stay. -/
structure Travels (a b : Axle) : Prop where
  exact : 65536 * b.adv + b.frac = a.frac + b.v
  low : 0 ≤ b.frac
  high : b.frac < 65536
  whole : -9223372036854775808 ≤ a.whole + b.adv → a.whole + b.adv ≤ 9223372036854775807 → b.whole = a.whole + b.adv
  grade : b.grade = a.grade
  vLimit : b.vLimit = a.vLimit

theorem advance_travels (a : Axle) (f : Int) (r : AxleResult) : Travels a (a.advance f r) := by
  unfold Axle.advance
  exact ⟨by dsimp only; omega, by dsimp only; omega, by dsimp only; omega, narrow64_within, rfl, rfl⟩

theorem compute_travels {x : State} (hc : x.comp = none) (h : x.run.op.inRun = true) : Travels x.axle (compute x).axle := by
  rw [compute_moves hc h]
  exact advance_travels _ _ _

/-! ### The force sum of a computation (R31) -/

theorem compute_stations (x : State) : (compute x).stations = (stages (computeBegun x)).stations := by
  rw [compute_eq]
  generalize stages (computeBegun x) = t
  rfl

/-- The force sum, over the records the computation leaves, where no faulted station's command has changed. -/
theorem compute_shares {x : State} (hc : x.comp = none) (hin : x.run.op.inRun = true)
    (h : ∀ (n : Station) (q r : StationRec), x.stations[n] = some q → q.state = .faulted → (compute x).stations[n] = some r →
      q.faultCommand = r.faultCommand) :
    (compute x).axle.fSum = (stationList.map fun n => ((compute x).stations[n].map StationRec.forceShare).getD 0).sum := by
  rw [compute_fSum hc hin, forceSum_eq]
  refine congrArg List.sum (List.map_congr_left fun n _ => ?_)
  obtain ⟨adv, v, p, op, cross, hst, hop⟩ := stages_stations (computeBegun x) hc n
  have hj : (judgedFrom x).stations[n] = x.stations[n].map fun r => ((computeBegun x).judging n r).r :=
    judgeStage_stations (computeBegun x) hc n
  have hst' : (compute x).stations[n] = (judgedFrom x).stations[n].map (geared adv v p op cross) := by
    rw [compute_stations]
    exact hst
  have hin' : op.inRun = true := by
    rcases hop with hop | ⟨_, hop⟩
    · rw [hop]; exact hin
    · rw [hop]; rfl
  rw [hj] at hst' ⊢
  have hn := h n
  rw [hst'] at hn ⊢
  cases hr : x.stations[n] with
  | none => rfl
  | some q =>
    rw [hr] at hn
    have hcmd : Commanded q x.run.op ((computeBegun x).judging n q).r := judge_commanded n _ _ _ _ q
    exact (forceShare_geared hcmd hin hin' adv v p cross fun hq => hn q _ rfl hq rfl).symm

/-! ### The computation a close leaves (R28, R206) -/

theorem compute_comp (x : State) : (compute x).comp = some
    { began := x.run.op, void := false, standstill := x.run.op == .stopping && (compute x).axle.v == 0
      capture := x.trace.waiting, records := (compute x).stations, axleBefore := x.axle, monitorBefore := x.monitor
      faultsBefore := x.faults, recordsBefore := x.stations
      stopped := if x.run.op = .run ∧ (compute x).run.op = .stopping then some x.player else none } := by
  rw [compute_eq]
  generalize stages (computeBegun x) = t
  rfl

end Sys2Proof.Machine
end

section
/-! O23: CYCLE_CLOSE in each operating state. -/

namespace Sys2Proof.Machine

/-! ### In RUN and STOPPING, seen from the state before the close -/

section
variable {s x : State} {c : Word32} (hd : LinkDone s c x)
include hd

theorem LinkDone.axle : x.axle = s.axle := hd.unlost.axle

theorem LinkDone.stops (hop : s.run.op = .stopping) : (compute x).axle.v = stopped s.cell s.axle.v := by
  rw [compute_stops hd.unlost.comp (hd.op.trans hop), cell_of_store hd.unlost.store, hd.axle]

theorem LinkDone.speeds (hop : s.run.op = .run) (hm : s.run.mode = .speed) (hl : 0 ≤ s.axle.vLimit) :
    (compute x).axle.v = max (-s.axle.vLimit) (min s.axle.vLimit (speedMoved s)) := by
  have hk := hd.unlost
  rw [compute_speed hk.comp (hd.op.trans hop) (hk.mode.trans hm) (by rw [hd.axle]; exact hl), hd.axle, hk.speedMoved]

theorem LinkDone.rolls (hop : s.run.op = .run) (hm : s.run.mode = .road) : (compute x).axle.v =
    (roadStep s.params s.cell.period s.axle.vLimit s.axle.v s.axle.grade (compute x).axle.fSum).v := by
  have hk := hd.unlost
  have h := compute_road hk.comp (hd.op.trans hop) (hk.mode.trans hm)
  generalize compute x = u at h ⊢
  rwa [hk.params, cell_of_store hk.store, hd.axle] at h

/-- The raises of the link's work set no reaction above level 3. -/
theorem LinkDone.mild (h : Mild s.faults.reaction) : Mild x.faults.reaction := by
  rw [hd.faults]
  exact (course_mild s c s.run.op (closeActs_low s) h).1

theorem LinkDone.overspeed (hop : s.run.op = .run) (h : overspeeds s (compute x).axle.fSum = true) :
    listed (compute x).faults .overspeed none none none ∧ (Mild s.faults.reaction →
      (compute x).run.op = .stopping ∧ (compute x).run.stopCause = some .fault ∧ (compute x).faults.reaction = .two) := by
  have hf := (compute_told x hd.unlost.comp).1
  generalize compute x = u at hf h ⊢
  obtain ⟨hlisted, hstop⟩ := hf.overspeed (hd.op.trans hop) (by rw [hd.unlost.overspeeds]; exact h)
  exact ⟨hlisted, fun hm => hstop (hd.mild hm)⟩

theorem LinkDone.travels (hin : s.run.op.inRun = true) : Travels s.axle (compute x).axle := by
  have h := compute_travels hd.unlost.comp (by rw [hd.op]; exact hin)
  rwa [hd.axle] at h

theorem LinkDone.shares (hin : s.run.op.inRun = true)
    (h : ∀ (n : Station) (q r : StationRec), s.stations[n] = some q → q.state = .faulted → (compute x).stations[n] = some r →
      q.faultCommand = r.faultCommand) :
    (compute x).axle.fSum = (stationList.map fun n => ((compute x).stations[n].map StationRec.forceShare).getD 0).sum :=
  compute_shares hd.unlost.comp (by rw [hd.op]; exact hin) fun n q r hq => h n q r (by rw [← hd.unlost.stations]; exact hq)

/-- The computation keeps the state before the close, its faults with the raises of the link's work. -/
theorem LinkDone.kept : ∃ f : Faults,
    f = { (closeCourse s c).1 with silence := (compute x).faults.silence } ∧
    (compute x).comp = some
      { began := s.run.op, void := false, standstill := decide (s.run.op = .stopping ∧ (compute x).axle.v = 0)
        capture := s.trace.waiting, records := (compute x).stations, axleBefore := s.axle, monitorBefore := s.monitor
        faultsBefore := f, recordsBefore := s.stations
        stopped := if (compute x).run.op = s.run.op then none else some s.player } := by
  have hk := hd.unlost
  have htrace : x.trace = s.trace := by rw [hd.frame]
  have hcomp := compute_comp x
  have hf := (compute_told x hk.comp).1
  generalize compute x = u at hcomp hf ⊢
  refine ⟨x.faults, ?_, ?_⟩
  · rw [hf.silence]
    exact hd.faults
  · have hstand : (s.run.op == .stopping && u.axle.v == 0) = decide (s.run.op = .stopping ∧ u.axle.v = 0) := by
      rw [Bool.eq_iff_iff]
      simp
    have hplayer : (if s.run.op = .run ∧ u.run.op = .stopping then some s.player else none) =
        if u.run.op = s.run.op then none else some s.player := by
      rcases hf.op_cases with hsame | ⟨hrun, hstop⟩
      · rw [hd.op] at hsame
        rw [if_pos hsame, if_neg]
        rintro ⟨h1, h2⟩
        rw [hsame, h1] at h2
        cases h2
      · rw [hd.op] at hrun
        rw [if_pos ⟨hrun, hstop⟩, if_neg (by rw [hstop, hrun]; simp)]
    rw [hd.op, htrace, hd.axle, hk.monitor, hk.stations, hk.player, hstand, hplayer] at hcomp
    exact hcomp

end

/-- What a close leaves beside the axle and the records: count, parameters, set, memory, lines and events. -/
theorem LinkDone.rest {s x : State} {c : Word32} (hd : LinkDone s c x) {u : State} (hl : ComputeLeaves x u) :
    u.inForce = s.params.inForce ∧ u.params = s.params ∧ u.store = s.store ∧ u.mem = s.mem ∧ u.pins = s.pins ∧
      u.events = s.events ∧ u.run.fresh = false := by
  have hf := hd.frame
  rw [hl]
  refine ⟨?_, ?_, ?_, ?_, ?_, ?_, rfl⟩ <;> rw [hf]

/-- Outside RUN and STOPPING the axle rests, and what the checks leave alone the computation leaves alone too. -/
theorem Stands.rests {s x u : State} (h : Stands s x) (hout : x.run.op.inRun = false) (hu : compute x = u) :
    u.axle = { s.axle with v := 0, adv := 0 } ∧ u.run.count = s.run.count ∧ u.run.op = x.run.op ∧ u.params = s.params ∧
      u.store = s.store ∧ u.mem = s.mem ∧ u.events = s.events ∧ u.pins.estop = s.pins.estop ∧ u.pins.marker = s.pins.marker ∧
      u.link.counter = s.link.counter ∧ u.link.sync = s.link.sync := by
  have haxle := compute_rests h.comp hout
  have hl := compute_leaves x h.comp
  have hf := (compute_told x h.comp).1
  rw [hu] at haxle hl hf
  obtain ⟨v, hv⟩ := h.axle
  refine ⟨?_, hf.count.trans h.count, hf.op_other ?_, ?_⟩
  · rw [haxle, hv]
  · rintro hrun
    rw [hrun] at hout
    cases hout
  · rw [hl]
    exact ⟨h.params, h.store, h.mem, h.events, h.estop, h.marker, h.counter, h.sync⟩

/-- Settles O23: in RUN and STOPPING by the checks that leave all of it alone and the stages of the computation; outside them by
what checks and computation leave alone. -/
theorem cycleCloseMovesTheAxle : Obligations.CycleCloseMovesTheAxle := by
  refine ⟨fun s h hs hrun => ?_, fun s h hout => ?_⟩
  · have hin := (inRun_iff s.run.op).mpr hrun
    obtain ⟨c, x, hexec, hc, hd, hcount⟩ := cycleClose_quiet s h hin hs
    have hk := hd.unlost
    obtain ⟨hf, hlink⟩ := compute_told x hk.comp
    have hrest := hd.rest (compute_leaves x hk.comp)
    have hstops := hd.stops
    have hspeeds := hd.speeds
    have hrolls := hd.rolls
    have hover := hd.overspeed
    have hshares := hd.shares hin
    have htravels := hd.travels hin
    obtain ⟨f, hfaults, hcomp⟩ := hd.kept
    generalize compute x = u at *
    obtain ⟨tx, q, ht⟩ := pumpTx_port u
    rw [ht] at hexec
    have hucount := hf.count
    have hacts : linkActs s { u with port := { u.port with tx := tx, reports := q } } = closeActs s :=
      linkActs_eq fun n => (congrArg (fun l : Link => l.st[n]) hlink).trans (hk.closed n)
    obtain ⟨hinForce, hparams, hstore, hmem, hpins, hevents, hfresh⟩ := hrest
    refine ⟨_, hexec, hucount.trans hcount, hfresh, ?_, hstops, hspeeds, hrolls, hover, ?_, ⟨htravels.exact, htravels.low,
      htravels.high⟩, htravels.whole, htravels.grade, htravels.vLimit, ⟨f, c, ?_, ?_, hcomp⟩, hinForce, hparams, hstore, hmem,
      hpins, hevents⟩
    · rcases hf.op_cases with hop | ⟨_, hop⟩
      · exact .inl (hop.trans hd.op)
      · exact .inr hop
    · intro hq
      refine (hshares hq).trans (congrArg List.sum (List.map_congr_left fun n _ => ?_))
      dsimp only
      cases u.stations[n] <;> rfl
    · exact hc.imp_right fun hc => hc.trans hucount.symm
    · rw [hacts]
      exact hfaults
  · have hin : s.run.op.inRun = false := by rcases hout with h | h | h <;> rw [h] <;> rfl
    obtain ⟨x, hexec, hstands, hleads⟩ := cycleClose_stands s h hin
    have hxin : x.run.op.inRun = false := by
      rcases hleads with h | h | h <;> rw [h]
      · exact hin
      · rfl
      · rfl
    obtain ⟨haxle, hcount, hop, hrest⟩ := hstands.rests hxin rfl
    generalize compute x = u at *
    obtain ⟨tx, q, ht⟩ := pumpTx_port u
    rw [ht] at hexec
    unfold Leads at hleads
    rw [← hop] at hleads
    exact ⟨_, hexec, haxle, hcount, hleads, hrest⟩

end Sys2Proof.Machine
end

section
/-! SUPPORT. What the lock engine keeps of one station record: its block, the ranges of position error and residue, and that no
station becomes engaged by itself. -/

namespace Sys2Proof.Machine

/-! ### The record (R54, R58, R77) -/

theorem StationRec.sound_iff (r : StationRec) :
    r.sound = true ↔ r.e.natAbs ≤ 16777215 ∧ 0 < r.cnm ∧ (r.state.geared = true → 0 ≤ r.residue ∧ r.residue < r.cnm) := by
  unfold StationRec.sound
  cases r.state.geared <;> simp [and_assoc]

/-- A circumference and its trim lie within their ranges (R46, R47, 10.4). -/
def rolls (circ : Nat) (trim : Int) : Prop := within 400000 5000000 circ = true ∧ -5000 ≤ trim ∧ trim ≤ 5000

/-- A station record goes on to another: its block stays, with circumference and trim in range it stays sound, and it becomes
engaged only where stations may. -/
structure StationRec.KeepsTo (trim : Int) (may : Bool) (q r : StationRec) : Prop where
  block : r.block = q.block
  sound : rolls q.block.circ trim → q.sound = true → r.sound = true
  engaged : r.state.engaged = true → q.state.engaged = true ∨ may = true

theorem StationRec.KeepsTo.refl (trim : Int) (may : Bool) (q : StationRec) : q.KeepsTo trim may q := ⟨rfl, fun _ h => h, .inl⟩

theorem StationRec.KeepsTo.trans {trim : Int} {may : Bool} {p q r : StationRec} (h : p.KeepsTo trim may q)
    (k : q.KeepsTo trim may r) : p.KeepsTo trim may r :=
  ⟨k.block.trans h.block, fun hr hp => k.sound (by rw [h.block]; exact hr) (h.sound hr hp),
    fun he => (k.engaged he).elim h.engaged .inr⟩

theorem StationRec.KeepsTo.mono {trim : Int} {q r : StationRec} (h : q.KeepsTo trim false r) (may : Bool) : q.KeepsTo trim may r :=
  ⟨h.block, h.sound, fun he => (h.engaged he).imp_right nofun⟩

/-- Block, error, circumference, residue and lock state decide. -/
theorem StationRec.KeepsTo.of_eq {trim : Int} {may : Bool} {q r : StationRec} (hb : r.block = q.block) (he : r.e = q.e)
    (hc : r.cnm = q.cnm) (hr : r.residue = q.residue) (hs : r.state = q.state) : q.KeepsTo trim may r :=
  ⟨hb, fun _ h => by rw [sound_iff] at h ⊢; rw [he, hc, hr, hs]; exact h, fun h => .inl (by rw [← hs]; exact h)⟩

/-- A record that is neither geared nor engaged, its error in range. -/
theorem StationRec.KeepsTo.of_loose {trim : Int} {may : Bool} {q r : StationRec} (hb : r.block = q.block)
    (he : q.e.natAbs ≤ 16777215 → r.e.natAbs ≤ 16777215) (hc : r.cnm = q.cnm) (hs : r.state.engaged = false) :
    q.KeepsTo trim may r := by
  refine ⟨hb, fun _ h => ?_, fun h => by rw [hs] at h; cases h⟩
  rw [sound_iff] at h ⊢
  have hg : r.state.geared = false := by revert hs; cases r.state <;> simp [LockState.engaged, LockState.geared]
  exact ⟨he h.1, hc ▸ h.2.1, fun hx => by rw [hg] at hx; cases hx⟩

/-! ### The moves of a station -/

theorem toIdle_keeps (trim : Int) (may : Bool) (q : StationRec) : q.KeepsTo trim may q.toIdle :=
  .of_loose rfl (fun _ => by simp [StationRec.toIdle]) rfl rfl

theorem toCleared_keeps (trim : Int) (may : Bool) (q : StationRec) : q.KeepsTo trim may q.toCleared :=
  .of_loose rfl (fun _ => by simp [StationRec.toCleared]) rfl rfl

theorem toReset_keeps (trim : Int) (may : Bool) (q : StationRec) : q.KeepsTo trim may q.toReset :=
  .of_loose rfl (fun _ => by simp [StationRec.toReset]) rfl rfl

theorem toCapture_keeps (trim : Int) (q : StationRec) : q.KeepsTo trim true q.toCapture := by
  refine ⟨rfl, fun _ h => ?_, fun _ => .inr rfl⟩
  rw [StationRec.sound_iff] at h ⊢
  exact ⟨by simp [StationRec.toCapture], h.2.1, fun hg => by cases hg⟩

theorem toRecapture_keeps (trim : Int) (q : StationRec) : q.KeepsTo trim true q.toRecapture :=
  (toCapture_keeps trim q).trans (.of_eq rfl rfl rfl rfl rfl)

/-! ### The judging (R49 to R56, R65 to R71, R76) -/

theorem effectiveCirc_pos {circ : Nat} {trim : Int} (h : rolls circ trim) : 0 < effectiveCirc circ trim := by
  obtain ⟨hc, hlow, _⟩ := h
  simp only [within, Bool.and_eq_true, decide_eq_true_eq] at hc
  have hprod : (400000 : Int) * 995000 ≤ (circ : Int) * (1000000 + trim) :=
    Int.mul_le_mul (by omega) (by omega) (by omega) (by omega)
  unfold effectiveCirc roundDiv
  rw [if_pos (by omega)]
  omega

theorem limitMag_bounded {m : Int} (hm : 0 ≤ m) (x : Int) : ((limitMag m x).natAbs : Int) ≤ m := by
  rw [limitMag_eq m x hm]
  omega

/-- A judging's record goes on to that of another. -/
def Judging.KeepsTo (trim : Int) (j k : Judging) : Prop := j.r.KeepsTo trim false k.r

variable {trim : Int} {n : Station} {op : OpState}

theorem fault_keeps {j k : Judging} (hb : k.r.block = j.r.block) (he : k.r.e = j.r.e) (hc : k.r.cnm = j.r.cnm) (c : StationCause) :
    j.KeepsTo trim (k.fault n op c) :=
  .of_loose hb (fun h => by rw [← he] at h; exact h) hc rfl

theorem trimChange_keeps (q : StationRec) : q.KeepsTo trim false (trimChange trim q).r := by
  by_cases h : trim = q.trimPpm
  · simp only [trimChange, if_pos h]
    exact .refl _ _ q
  · have hpos : rolls q.block.circ trim → 0 < effectiveCirc q.block.circ trim := effectiveCirc_pos
    unfold trimChange
    simp only [if_neg h]
    cases hs : q.state with
    | locked =>
      exact ⟨rfl, fun hr _ => (StationRec.sound_iff _).mpr ⟨by simp [Judging.move], hpos hr, nofun⟩, fun _ => .inl (by rw [hs]; rfl)⟩
    | slip =>
      exact ⟨rfl, fun hr _ => (StationRec.sound_iff _).mpr ⟨by simp [Judging.move], hpos hr, nofun⟩, fun _ => .inl (by rw [hs]; rfl)⟩
    | capture =>
      refine ⟨rfl, fun hr hq => (StationRec.sound_iff _).mpr ⟨((StationRec.sound_iff q).mp hq).1, hpos hr, fun hg => ?_⟩,
        fun _ => .inl (by rw [hs]; rfl)⟩
      simp [Judging.put, LockState.geared] at hg
    | idle =>
      refine ⟨rfl, fun hr hq => (StationRec.sound_iff _).mpr ⟨((StationRec.sound_iff q).mp hq).1, hpos hr, fun hg => ?_⟩,
        fun he => ?_⟩
      · simp [Judging.put, LockState.geared] at hg
      · simp [Judging.put, LockState.engaged] at he
    | faulted =>
      refine ⟨rfl, fun hr hq => (StationRec.sound_iff _).mpr ⟨((StationRec.sound_iff q).mp hq).1, hpos hr, fun hg => ?_⟩,
        fun he => ?_⟩
      · simp [Judging.put, LockState.geared] at hg
      · simp [Judging.put, LockState.engaged] at he

theorem formError_keeps (j : Judging) : j.KeepsTo trim (j.formError n op) := by
  have hput : j.KeepsTo trim (j.put { j.r with e := limitMag errorLimit (j.r.tLast - j.r.measured), tAccept := j.r.tLast }) := by
    refine ⟨rfl, fun _ h => ?_, .inl⟩
    rw [StationRec.sound_iff] at h ⊢
    have he := limitMag_bounded (m := errorLimit) (by decide) (j.r.tLast - j.r.measured)
    exact ⟨by
      rw [show errorLimit = 16777215 from rfl] at he
      show (limitMag 16777215 (j.r.tLast - j.r.measured)).natAbs ≤ 16777215
      omega, h.2⟩
  unfold Judging.formError
  split
  · dsimp only
    split
    · exact hput.trans (fault_keeps rfl rfl rfl _)
    · exact hput
  · exact .refl _ _ _

theorem tripped_keeps (j : Judging) (drive : DriveState) : j.KeepsTo trim (j.tripped n op drive) := by
  unfold Judging.tripped
  split
  · exact fault_keeps rfl rfl rfl _
  · exact .refl _ _ _

theorem missed_keeps (j : Judging) (limit : Nat) (c : MissCause) : j.KeepsTo trim (j.missed n op limit c) := by
  unfold Judging.missed
  dsimp only
  split
  · split
    · refine fault_keeps ?_ ?_ ?_ _ <;> rfl
    · exact .of_eq rfl rfl rfl rfl rfl
  · exact .of_eq rfl rfl rfl rfl rfl

theorem accept_keeps (j : Judging) (now count : Word32) (force : Int) (drive : DriveState) (trip : Nat) :
    j.KeepsTo trim (j.accept n op now count force drive trip) := by
  have htake : j.KeepsTo trim (j.put (j.r.take now count force drive trip)) := .of_eq rfl rfl rfl rfl rfl
  exact (htake.trans (formError_keeps _)).trans (tripped_keeps _ drive)

theorem captureStep_keeps (j : Judging) (p : Params) (speed : Option Int) : j.KeepsTo trim (j.captureStep n p op speed) := by
  unfold Judging.captureStep
  split
  · rename_i hs
    dsimp only
    split
    · refine ⟨rfl, fun _ h => ?_, fun _ => .inl (by rw [hs]; rfl)⟩
      have hcnm : 0 < j.r.cnm := ((StationRec.sound_iff j.r).mp h).2.1
      exact (StationRec.sound_iff _).mpr ⟨by simp [Judging.move, StationRec.toLocked], hcnm, fun _ => ⟨le_refl _, hcnm⟩⟩
    · split
      · exact fault_keeps rfl rfl rfl _
      · exact .of_eq rfl rfl rfl rfl rfl
  · exact .refl _ _ _

/-- Between LOCKED and SLIP a record stays sound. -/
theorem geared_keeps_to {q r : StationRec} (hq : q.state.geared = true) (hb : r.block = q.block) (he : r.e = q.e)
    (hc : r.cnm = q.cnm) (hr : r.residue = q.residue) : q.KeepsTo trim false r := by
  refine ⟨hb, fun _ h => ?_, fun _ => .inl (by revert hq; cases q.state <;> simp [LockState.geared, LockState.engaged])⟩
  rw [StationRec.sound_iff] at h ⊢
  rw [he, hc, hr]
  exact ⟨h.1, h.2.1, fun _ => h.2.2 hq⟩

theorem windows_keeps (j : Judging) (p : Params) : j.KeepsTo trim (j.windows p) := by
  unfold Judging.windows
  split
  · rename_i hs
    split
    · exact geared_keeps_to (by rw [hs]; rfl) rfl rfl rfl rfl
    · exact .refl _ _ _
  · rename_i hs
    split
    · exact geared_keeps_to (by rw [hs]; rfl) rfl rfl rfl rfl
    · exact .refl _ _ _
  · exact .refl _ _ _

theorem slipStep_keeps (j : Judging) (p : Params) (began : LockState) : j.KeepsTo trim (j.slipStep n p op began) := by
  unfold Judging.slipStep
  split
  · dsimp only
    split
    · exact fault_keeps rfl rfl rfl _
    · exact .of_eq rfl rfl rfl rfl rfl
  · exact .refl _ _ _

theorem observe_keeps (j : Judging) (p : Params) (now : Word32) (obs : Observation) :
    j.KeepsTo trim (j.observe n p op now obs) := by
  have rest : ∀ (k : Judging) (speed : Option Int) (began : LockState),
      k.KeepsTo trim (((k.captureStep n p op speed).windows p).slipStep n p op began) := fun k speed began =>
    ((captureStep_keeps k p speed).trans (windows_keeps _ p)).trans (slipStep_keeps _ p began)
  unfold Judging.observe
  cases obs with
  | silent => exact (missed_keeps j _ _).trans (rest _ _ _)
  | disagree => exact (missed_keeps j _ _).trans (rest _ _ _)
  | valid count force drive trip resp =>
    dsimp only
    split
    · exact (accept_keeps j now count force drive trip).trans (rest _ _ _)
    · exact (missed_keeps j _ _).trans (rest _ _ _)

/-- A station's judging keeps its record, with the trim in force within its range. -/
theorem judge_keeps (n : Station) (p : Params) (op : OpState) (now : Word32) (obs : Observation) (q : StationRec) :
    q.KeepsTo p.circTrim[n] false (judge n p op now obs q).r := by
  have hbegin : q.KeepsTo p.circTrim[n] false ((trimChange p.circTrim[n] q).put (trimChange p.circTrim[n] q).r.beginStage).r :=
    (trimChange_keeps q).trans (.of_eq rfl rfl rfl rfl rfl)
  exact hbegin.trans (observe_keeps _ p now obs)

/-! ### The later stages (R58 to R61, R72) -/

theorem gear_keeps_to (q : StationRec) (adv : Int) (may : Bool) : q.KeepsTo trim may (q.gear adv) := by
  unfold StationRec.gear
  split
  · refine ⟨rfl, fun _ h => ?_, .inl⟩
    rw [StationRec.sound_iff] at h ⊢
    exact ⟨h.1, h.2.1, fun _ => ⟨Int.emod_nonneg _ (ne_of_gt h.2.1), Int.emod_lt_of_pos _ h.2.1⟩⟩
  · exact .refl _ _ q

theorem feed_keeps_to (q : StationRec) (v : Int) (may : Bool) : q.KeepsTo trim may (q.feed v) := .of_eq rfl rfl rfl rfl rfl

/-- The demand assembly sets the trim, the command and the demand alone. -/
theorem assemble_frame (r : StationRec) (p : Params) (op : OpState) (cross : Int) :
    ∃ (a : Int) (b : Bool) (c d : Command) (x : Int),
      r.assemble p op cross = { r with trim := a, trimSat := b, faultCommand := c, command := d, demand := x } := by
  unfold StationRec.assemble
  dsimp only
  split
  case h_5 => split <;> exact ⟨_, _, _, _, _, rfl⟩
  all_goals exact ⟨_, _, _, _, _, rfl⟩

theorem assemble_keeps_to (q : StationRec) (p : Params) (cross : Int) (may : Bool) : q.KeepsTo trim may (q.assemble p op cross) := by
  obtain ⟨a, b, c, d, x, h⟩ := assemble_frame q p op cross
  rw [h]
  exact .of_eq rfl rfl rfl rfl rfl

end Sys2Proof.Machine
end

section
/-! SUPPORT. What the commissioning, the operating state and the station records are to one another, and the changes of them that
keep it: the ledger of a state. -/

namespace Sys2Proof.Machine

/-- What the working set, the station table and the lock states are judged by. -/
@[ext] structure Ledger where
  op      : OpState
  running : Bool
  locked  : Bool
  cell    : Option CellBlock
  blocks  : Vector (Option StationBlock) 8
  mass    : Nat
  trim    : Station → Int
  limit   : Int
  record  : Station → Option StationRec
  shown   : Option ((Station → Bool) × (Station → Bool))

/-- The ledger of a state; of a computation in progress it tells which stations it keeps records for. -/
def State.ledger (s : State) : Ledger where
  op := s.run.op
  running := s.link.running
  locked := s.store.locked
  cell := s.store.cell
  blocks := s.store.blocks
  mass := s.params.mass
  trim n := s.params.circTrim[n]
  limit := s.axle.vLimit
  record n := s.stations[n]
  shown := s.comp.map fun k => (fun n => k.records[n].isSome, fun n => k.recordsBefore[n].isSome)

/-! ### What is judged -/

/-- The block by which the working set commissions a station (R183). -/
def Ledger.commissions (l : Ledger) (n : Station) : Option StationBlock :=
  l.cell.bind fun k => if inMask k.mask n then l.blocks[n] else none

/-- The bounds of MASS (10.4). -/
def Ledger.massBounds (l : Ledger) : Nat × Nat := (l.cell.map fun k => (k.massMin, k.massMax)).getD (400, 80000)

/-- The working set lies within its ranges (R184, R188, R194). -/
structure Ledger.SetSound (l : Ledger) : Prop where
  cell : ∀ k, l.cell = some k → cellInRange k = true
  apart : positionsDistinct l.blocks = true
  blocks : ∀ (n : Station) b, l.blocks[n] = some b → b.inRange = true
  low : l.massBounds.1 ≤ l.mass
  high : l.mass ≤ l.massBounds.2

/-- The station table follows the working set (R189). -/
structure Ledger.Follows (l : Ledger) : Prop where
  block : ∀ n, (l.record n).map StationRec.block = l.commissions n
  loading : l.op = .loading → l.cell = none

/-- The link runs over a locked set alone, and a computation in progress keeps records for the stations that have one. -/
structure Ledger.Linked (l : Ledger) : Prop where
  locked : l.running = true → l.locked = true
  op : l.running = true → l.op ≠ .loading
  shown : ∀ x, l.shown = some x → l.running = true ∧ ∀ n, x.1 n = (l.record n).isSome ∧ x.2 n = (l.record n).isSome

/-- Circumferences and trims in range, the records sound, the engaged ones in a run (R46, R54, R58, R77). -/
structure Ledger.Geared (l : Ledger) : Prop where
  blocks : ∀ (n : Station) b, l.blocks[n] = some b → within 400000 5000000 b.circ = true
  rolls : ∀ n r, l.record n = some r → within 400000 5000000 r.block.circ = true
  trim : ∀ n, -5000 ≤ l.trim n ∧ l.trim n ≤ 5000
  sound : ∀ n r, l.record n = some r → r.sound = true
  engaged : ∀ n r, l.record n = some r → r.state.engaged = true → l.op.inRun = true

/-- Out of LOADING with a locked set (R191). -/
def Ledger.Fixed (l : Ledger) : Prop := l.op ≠ .loading ∧ l.locked = true

/-- One ledger goes on to another: what is judged holds on, the link goes on running, and a locked set stays as it is. -/
structure Ledger.LeadsTo (l m : Ledger) : Prop where
  set : l.SetSound → m.SetSound
  follows : l.Follows → m.Follows
  linked : l.Linked → m.Linked
  geared : l.Geared → m.Geared
  runs : l.running = true → m.running = true
  fixed : l.Fixed → m.Fixed ∧ m.cell = l.cell ∧ m.blocks = l.blocks ∧ m.limit = l.limit ∧
    ∀ n, (m.record n).map StationRec.block = (l.record n).map StationRec.block

namespace Ledger.LeadsTo

variable {l m k : Ledger}

theorem refl (l : Ledger) : l.LeadsTo l := ⟨id, id, id, id, id, fun h => ⟨h, rfl, rfl, rfl, fun _ => rfl⟩⟩

theorem of_eq (h : m = l) : l.LeadsTo m := h ▸ refl l

theorem trans (h : l.LeadsTo m) (j : m.LeadsTo k) : l.LeadsTo k where
  set := j.set ∘ h.set
  follows := j.follows ∘ h.follows
  linked := j.linked ∘ h.linked
  geared := j.geared ∘ h.geared
  runs := j.runs ∘ h.runs
  fixed hl := by
    obtain ⟨hm, hc, hb, hv, hr⟩ := h.fixed hl
    obtain ⟨hk, jc, jb, jv, jr⟩ := j.fixed hm
    exact ⟨hk, jc.trans hc, jb.trans hb, jv.trans hv, fun n => (jr n).trans (hr n)⟩

end Ledger.LeadsTo

/-! ### The changes -/

/-- Every record changed. -/
def Ledger.mapped (l : Ledger) (f : Station → StationRec → StationRec) : Ledger :=
  { l with record := fun n => (l.record n).map (f n) }

theorem Ledger.leads_mapped {l : Ledger} {f : Station → StationRec → StationRec}
    (hf : ∀ n r, l.record n = some r → r.KeepsTo (l.trim n) l.op.inRun (f n r)) : l.LeadsTo (l.mapped f) := by
  have hblock : ∀ n, ((l.mapped f).record n).map StationRec.block = (l.record n).map StationRec.block := fun n => by
    show ((l.record n).map (f n)).map _ = _
    cases h : l.record n with
    | none => rfl
    | some r => exact congrArg some (hf n r h).block
  have hsome : ∀ n, ((l.mapped f).record n).isSome = (l.record n).isSome := fun n => Option.isSome_map
  have hof : ∀ n r', (l.mapped f).record n = some r' → ∃ r, l.record n = some r ∧ f n r = r' := fun n r' h =>
    Option.map_eq_some_iff.mp h
  refine ⟨fun h => ⟨h.cell, h.apart, h.blocks, h.low, h.high⟩, fun h => ⟨fun n => (hblock n).trans (h.block n), h.loading⟩,
    fun h => ⟨h.locked, h.op, fun x hx => ⟨(h.shown x hx).1, fun n => ?_⟩⟩, fun h => ⟨h.blocks, ?_, h.trim, ?_, ?_⟩, id,
    fun h => ⟨h, rfl, rfl, rfl, hblock⟩⟩
  · rw [hsome n]
    exact (h.shown x hx).2 n
  · intro n r' hr'
    obtain ⟨r, hr, rfl⟩ := hof n r' hr'
    rw [(hf n r hr).block]
    exact h.rolls n r hr
  · intro n r' hr'
    obtain ⟨r, hr, rfl⟩ := hof n r' hr'
    exact (hf n r hr).sound ⟨h.rolls n r hr, h.trim n⟩ (h.sound n r hr)
  · intro n r' hr' he
    obtain ⟨r, hr, rfl⟩ := hof n r' hr'
    exact ((hf n r hr).engaged he).elim (h.engaged n r hr) id

/-- The computation in progress changed. -/
theorem Ledger.leads_shown {l : Ledger} (y : Option ((Station → Bool) × (Station → Bool)))
    (hy : ∀ x, y = some x → l.running = true ∧ ∀ n, x.1 n = (l.record n).isSome ∧ x.2 n = (l.record n).isSome) :
    l.LeadsTo { l with shown := y } :=
  ⟨fun h => ⟨h.cell, h.apart, h.blocks, h.low, h.high⟩, fun h => ⟨h.block, h.loading⟩, fun h => ⟨h.locked, h.op, hy⟩,
    fun h => ⟨h.blocks, h.rolls, h.trim, h.sound, h.engaged⟩, id, fun h => ⟨h, rfl, rfl, rfl, fun _ => rfl⟩⟩

/-- The operating state changed; a run is left with no station engaged. -/
theorem Ledger.leads_op {l : Ledger} (o : OpState) (ho : o ≠ .loading)
    (he : o.inRun = true ∨ l.op.inRun = false ∨ ∀ n r, l.record n = some r → r.state.engaged = false) :
    l.LeadsTo { l with op := o } := by
  refine ⟨fun h => ⟨h.cell, h.apart, h.blocks, h.low, h.high⟩, fun h => ⟨h.block, fun h' => absurd h' ho⟩,
    fun h => ⟨h.locked, fun _ => ho, h.shown⟩, fun h => ⟨h.blocks, h.rolls, h.trim, h.sound, fun n r hr hg => ?_⟩, id,
    fun h => ⟨⟨ho, h.2⟩, rfl, rfl, rfl, fun _ => rfl⟩⟩
  rcases he with hin | hout | hnone
  · exact hin
  · exact absurd ((h.engaged n r hr hg).symm.trans hout) (by decide)
  · exact absurd (hg.symm.trans (hnone n r hr)) (by decide)

/-- The link starts and the set locks (R1, R191). -/
theorem Ledger.leads_link {l : Ledger} (ho : l.op ≠ .loading) : l.LeadsTo { l with running := true, locked := true } :=
  ⟨fun h => ⟨h.cell, h.apart, h.blocks, h.low, h.high⟩, fun h => ⟨h.block, h.loading⟩,
    fun h => ⟨fun _ => rfl, fun _ => ho, fun x hx => ⟨rfl, (h.shown x hx).2⟩⟩,
    fun h => ⟨h.blocks, h.rolls, h.trim, h.sound, h.engaged⟩, fun _ => rfl, fun h => ⟨⟨h.1, rfl⟩, rfl, rfl, rfl, fun _ => rfl⟩⟩

/-- MASS and the trims written (R192, R194). -/
theorem Ledger.leads_params {l : Ledger} (mass : Nat) (trim : Station → Int)
    (hm : l.SetSound → l.massBounds.1 ≤ mass ∧ mass ≤ l.massBounds.2)
    (ht : ∀ n, trim n = l.trim n ∨ -5000 ≤ trim n ∧ trim n ≤ 5000) : l.LeadsTo { l with mass := mass, trim := trim } :=
  ⟨fun h => ⟨h.cell, h.apart, h.blocks, (hm h).1, (hm h).2⟩, fun h => ⟨h.block, h.loading⟩, fun h => ⟨h.locked, h.op, h.shown⟩,
    fun h => ⟨h.blocks, h.rolls,
      fun n => (ht n).elim (fun e => by show -5000 ≤ trim n ∧ trim n ≤ 5000; rw [e]; exact h.trim n) id, h.sound, h.engaged⟩, id,
    fun h => ⟨h, rfl, rfl, rfl, fun _ => rfl⟩⟩

/-- The working set written by a load or a commissioning request, `w` the station written, and the station table formed after it:
a fresh record for a station newly commissioned or written (R186 to R189). -/
structure Ledger.Commissioned (w : Option Station) (l m : Ledger) : Prop where
  free : l.op = .loading ∨ l.locked = false
  op : m.op ≠ .loading
  stays : m.op = l.op ∨ l.op.inRun = false
  running : m.running = l.running
  locked : m.locked = l.locked
  shown : m.shown = l.shown
  trim : m.trim = l.trim
  set : l.SetSound → m.SetSound
  blocks : ∀ n : Station, m.blocks[n] = l.blocks[n] ∨
    (l.op = .loading ∨ w = some n ∨ m.blocks[n] = none) ∧ ∀ b, m.blocks[n] = some b → b.inRange = true
  record : ∀ n, m.record n = (m.commissions n).bind fun b =>
    if l.record n = none ∨ w = some n then some (freshRecord b (m.trim n)) else l.record n

theorem Ledger.block_of_commissions {l : Ledger} {n : Station} {b : StationBlock} (h : l.commissions n = some b) :
    l.blocks[n] = some b ∧ ∃ k, l.cell = some k := by
  unfold Ledger.commissions at h
  obtain ⟨k, hk, hb⟩ := Option.bind_eq_some_iff.mp h
  split at hb
  · exact ⟨hb, k, hk⟩
  · cases hb

theorem freshRecord_sound {b : StationBlock} {ppm : Int} (h : rolls b.circ ppm) : (freshRecord b ppm).sound = true :=
  (StationRec.sound_iff _).mpr ⟨by simp [freshRecord], effectiveCirc_pos h, nofun⟩

namespace Ledger.Commissioned

variable {w : Option Station} {l m : Ledger}

/-- A record of the new table is a fresh one of the station's block, or the one of before. -/
theorem of_record (h : Commissioned w l m) {n : Station} {r : StationRec} (hr : m.record n = some r) :
    (∃ b, m.commissions n = some b ∧ r = freshRecord b (m.trim n)) ∨
      (∃ b, m.commissions n = some b) ∧ l.record n = some r ∧ w ≠ some n := by
  rw [h.record n] at hr
  obtain ⟨b, hb, hr⟩ := Option.bind_eq_some_iff.mp hr
  split at hr
  · exact .inl ⟨b, hb, (Option.some.inj hr).symm⟩
  · rename_i hn
    exact .inr ⟨⟨b, hb⟩, hr, fun e => hn (.inr e)⟩

theorem stopped (h : Commissioned w l m) (hl : l.Linked) : l.running = false := by
  by_contra hr
  rw [Bool.not_eq_false] at hr
  exact h.free.elim (hl.op hr) fun hf => by rw [hl.locked hr] at hf; cases hf

theorem blocks_inRange (h : Commissioned w l m) (hl : l.Geared) (n : Station) (b : StationBlock) (hb : m.blocks[n] = some b) :
    within 400000 5000000 b.circ = true := by
  rcases h.blocks n with he | ⟨_, hin⟩
  · exact hl.blocks n b (he ▸ hb)
  · exact (Bool.and_eq_true _ _ ▸ hin b hb).2

/-- A record kept carries the block its station is commissioned with. -/
theorem block_kept (h : Commissioned w l m) (hl : l.Follows) {n : Station} {b : StationBlock} {r : StationRec}
    (hb : m.commissions n = some b) (hr : l.record n = some r) (hw : w ≠ some n) : r.block = b := by
  have hcom : l.commissions n = some r.block := by rw [← hl.block n, hr]; rfl
  obtain ⟨hblock, k, hcell⟩ := Ledger.block_of_commissions hcom
  obtain ⟨hnew, _⟩ := Ledger.block_of_commissions hb
  rcases h.blocks n with he | ⟨hload | hwrite | hnone, _⟩
  · exact Option.some.inj (hblock.symm.trans (he.symm.trans hnew))
  · rw [hl.loading hload] at hcell
    cases hcell
  · exact absurd hwrite hw
  · rw [hnone] at hnew
    cases hnew

theorem follows (h : Commissioned w l m) (hl : l.Follows) : m.Follows := by
  refine ⟨fun n => ?_, fun hop => absurd hop h.op⟩
  cases hb : m.commissions n with
  | none => rw [h.record n, hb]; rfl
  | some b =>
    have hrec := h.record n
    rw [hb, Option.bind_some] at hrec
    rw [hrec]
    split
    · rfl
    · rename_i hn
      rw [not_or] at hn
      obtain ⟨r, hr⟩ := Option.ne_none_iff_exists'.mp hn.1
      rw [hr]
      exact congrArg some (h.block_kept hl hb hr hn.2)

theorem geared (h : Commissioned w l m) (hl : l.Geared) : m.Geared := by
  have htrim : ∀ n, -5000 ≤ m.trim n ∧ m.trim n ≤ 5000 := by rw [h.trim]; exact hl.trim
  have hblocks := h.blocks_inRange hl
  refine ⟨hblocks, fun n r hr => ?_, htrim, fun n r hr => ?_, fun n r hr he => ?_⟩ <;>
    rcases h.of_record hr with ⟨b, hb, rfl⟩ | ⟨_, hold, _⟩
  · exact hblocks n b (Ledger.block_of_commissions hb).1
  · exact hl.rolls n r hold
  · exact freshRecord_sound ⟨hblocks n b (Ledger.block_of_commissions hb).1, htrim n⟩
  · exact hl.sound n r hold
  · cases he
  · have hin := hl.engaged n r hold he
    rcases h.stays with ho | ho
    · rw [ho]
      exact hin
    · rw [ho] at hin
      cases hin

theorem leads (h : Commissioned w l m) : l.LeadsTo m where
  set := h.set
  follows := h.follows
  linked hl := by
    have hstop : m.running = false := h.running.trans (h.stopped hl)
    refine ⟨fun hr => ?_, fun hr => ?_, fun x hx => ?_⟩
    · rw [hstop] at hr; cases hr
    · rw [hstop] at hr; cases hr
    · have hr := (hl.shown x (h.shown ▸ hx)).1
      rw [h.stopped hl] at hr
      cases hr
  geared := h.geared
  runs hr := h.running.trans hr
  fixed hl := by
    rcases h.free with hf | hf
    · exact absurd hf hl.1
    · have hlock := hl.2
      rw [hf] at hlock
      cases hlock

end Ledger.Commissioned

end Sys2Proof.Machine
end

section
/-! SUPPORT. The ledger of a state through the moves of the stations, the raises, the judging and the cycle computation. -/

namespace Sys2Proof.Machine

/-- The ledger of a state goes on to that of another. -/
def Led (s t : State) : Prop := s.ledger.LeadsTo t.ledger

theorem Led.refl (s : State) : Led s s := Ledger.LeadsTo.refl _

theorem Led.of_eq {s t : State} (h : t.ledger = s.ledger) : Led s t := Ledger.LeadsTo.of_eq h

theorem Led.trans {s t u : State} (h : Led s t) (k : Led t u) : Led s u := Ledger.LeadsTo.trans h k

theorem Led.before {s t u : State} (h : Led s t) (e : u.ledger = t.ledger) : Led s u := h.trans (.of_eq e)

theorem Led.after {s s' t : State} (h : Led s' t) (e : s'.ledger = s.ledger) : Led s t := (Led.of_eq e).trans h

theorem Led.ite {s t : State} {q : Prop} [Decidable q] (h : q → Led s t) : Led s (if q then t else s) := by
  split
  · exact h ‹_›
  · exact .refl s

/-! ### What leaves the ledger alone -/

theorem submit_ledger (b : ReportBody) (s : State) : (submit b s).ledger = s.ledger := by
  obtain ⟨q, l, h⟩ := submit_port b s
  rw [h]
  rfl

theorem submitState_ledger (o : OpState) (c : StateCause) (k : Option FaultKind) (x : Bool) (s : State) :
    (submitState o c k x s).ledger = s.ledger := submit_ledger _ s

theorem pumpTx_ledger (s : State) : (pumpTx s).ledger = s.ledger := by
  obtain ⟨x, q, h⟩ := pumpTx_port s
  rw [h]
  rfl

theorem updateFaults_ledger (g : Faults → Faults) (s : State) : (updateFaults g s).ledger = s.ledger := by
  unfold State.ledger updateFaults
  cases s.comp <;> rfl

/-- What GET_STATION shows of a station is changed, not whether it shows one. -/
theorem updateSeen_ledger (n : Station) (f : StationRec → StationRec) (s : State) : (updateSeen n f s).ledger = s.ledger := by
  have hset (v : Vector (Option StationRec) 8) (m : Station) : ((v.set n (v[n].map f))[m]).isSome = (v[m]).isSome := by
    rw [Vector.set_get]
    split
    · rename_i h
      rw [Option.isSome_map, h]
    · rfl
  unfold State.ledger updateSeen
  cases s.comp with
  | none => rfl
  | some k => simp only [Option.map_some, hset]

theorem voidComputation_ledger (s : State) : (voidComputation s).ledger = s.ledger := by
  unfold voidComputation
  split
  · rfl
  · rename_i c hc
    split
    · unfold State.ledger
      rw [hc]
      rfl
    · rfl

theorem playerEnd_ledger (e : EndReason) (s : State) : (playerEnd e s).ledger = s.ledger := submit_ledger _ _

theorem playerStop_ledger (s : State) : (playerStop s).ledger = s.ledger := by
  unfold playerStop
  split
  · exact playerEnd_ledger _ s
  · exact playerEnd_ledger _ s
  · exact playerEnd_ledger _ s
  · rfl
  · rfl

/-! ### The moves of the stations -/

/-- One station's record written. -/
theorem setStation_ledger {n : Station} {q : StationRec} {s : State} (h : s.stations[n] = some q) (f : StationRec → StationRec) :
    (setStation n (f q) s).ledger = s.ledger.mapped fun m x => if m = n then f x else x := by
  refine Ledger.ext rfl rfl rfl rfl rfl rfl rfl rfl (funext fun m => ?_) rfl
  show (s.stations.set n (some (f q)))[m] = (s.stations[m]).map _
  rw [Vector.set_get]
  split
  · rename_i e
    subst e
    rw [h]
    simp
  · rename_i e
    simp only [if_neg (Ne.symm e), Option.map_id']

theorem moveStation_ledger {n : Station} {q : StationRec} {s : State} (h : s.stations[n] = some q) (f : StationRec → StationRec)
    (reason : StationReason) :
    (moveStation n q f reason s).ledger = s.ledger.mapped fun m x => if m = n then f x else x := by
  unfold moveStation submitStation
  rw [submit_ledger, updateSeen_ledger, setStation_ledger h]

theorem Ledger.mapped_id (l : Ledger) : l.mapped (fun _ x => x) = l := by
  simp only [Ledger.mapped, Option.map_id']

/-- Every station's turn writes its own record. -/
theorem eachStation_ledger {f : Station → StationRec → State → State} {g : Station → StationRec → StationRec}
    (h : ∀ n r t, t.stations[n] = some r → (f n r t).ledger = t.ledger.mapped fun m x => if m = n then g n x else x) (s : State) :
    (eachStation f s).ledger = s.ledger.mapped g := by
  have hall := eachStation_progress (f := f) (s := s)
    (Q := fun l t => t.ledger = s.ledger.mapped fun m x => if m ∈ l then g m x else x)
    (by simp only [List.not_mem_nil, if_false]; exact s.ledger.mapped_id.symm) fun l n t hn ht => by
      have hturn : (stationTurn f n t).ledger = t.ledger.mapped fun m x => if m = n then g n x else x := by
        unfold stationTurn
        cases hr : t.stations[n] with
        | some r => exact h n r t hr
        | none =>
          refine Ledger.ext rfl rfl rfl rfl rfl rfl rfl rfl (funext fun m => ?_) rfl
          by_cases e : m = n
          · subst e
            have hnone : t.ledger.record m = none := hr
            simp [Ledger.mapped, hnone]
          · simp [Ledger.mapped, e]
      rw [hturn, ht]
      unfold Ledger.mapped
      simp only [Option.map_map, List.mem_append, List.mem_singleton]
      congr 1
      funext m
      congr 1
      funext x
      by_cases e : m = n
      · subst e
        simp [hn]
      · simp [e]
  simpa only [mem_stationList, if_true] using hall

/-- The stations that p picks moved by f. -/
theorem eachMove_ledger (p : Station → StationRec → Bool) (f : StationRec → StationRec) (reason : StationReason) (s : State) :
    (eachStation (fun n r s => if p n r = true then moveStation n r f reason s else s) s).ledger =
      s.ledger.mapped fun n r => if p n r then f r else r := by
  refine eachStation_ledger (fun n r t hr => ?_) s
  split
  · rename_i hp
    rw [moveStation_ledger hr f reason]
    unfold Ledger.mapped
    congr 1
    funext m
    by_cases e : m = n
    · subst e
      have : t.ledger.record m = some r := hr
      simp [this, hp]
    · simp [e]
  · rename_i hp
    refine Ledger.ext rfl rfl rfl rfl rfl rfl rfl rfl (funext fun m => ?_) rfl
    by_cases e : m = n
    · subst e
      have : t.ledger.record m = some r := hr
      simp [Ledger.mapped, this, hp]
    · simp [Ledger.mapped, e]

theorem idleEngaged_ledger (reason : StationReason) (s : State) :
    (idleEngaged reason s).ledger = s.ledger.mapped fun _ r => if r.state.engaged then r.toIdle else r :=
  eachMove_ledger (fun _ r => r.state.engaged) StationRec.toIdle reason s

theorem moveMask_ledger (m : Mask) (f : StationRec → StationRec) (reason : StationReason) (s : State) :
    (moveMask m f reason s).ledger = s.ledger.mapped fun n r => if inMask m n then f r else r :=
  eachMove_ledger (fun n _ => inMask m n) f reason s

theorem clearStations_ledger (s : State) :
    (clearStations s).ledger = s.ledger.mapped fun _ r => if r.state = .faulted then r.toCleared else r := by
  have h := eachMove_ledger (fun _ r => decide (r.state = .faulted)) StationRec.toCleared .clearFault s
  simp only [decide_eq_true_eq] at h
  exact h

theorem resetStations_ledger (s : State) : (resetStations s).ledger = s.ledger.mapped fun _ r => r.toReset := by
  refine eachStation_ledger (fun n r t hr => ?_) s
  split
  · exact setStation_ledger hr _
  · exact moveStation_ledger hr _ _

/-! ### The reactions -/

theorem engaged_of_toIdle (r : StationRec) : (if r.state.engaged then r.toIdle else r).state.engaged = false := by
  split
  · rfl
  · rename_i h
    exact Bool.not_eq_true _ ▸ h

theorem idled_keeps (trim : Int) (may : Bool) (r : StationRec) : r.KeepsTo trim may (if r.state.engaged then r.toIdle else r) := by
  split
  · exact toIdle_keeps trim may r
  · exact .refl _ _ r

/-- The engaged stations go idle and the part leaves the run. -/
theorem Ledger.leads_leave {l : Ledger} (o : OpState) (ho : o ≠ .loading) :
    l.LeadsTo { l.mapped (fun _ r => if r.state.engaged then r.toIdle else r) with op := o } :=
  (leads_mapped fun _ r _ => idled_keeps _ _ r).trans (leads_op o ho (.inr (.inr fun n r hr => by
    obtain ⟨q, _, rfl⟩ := Option.map_eq_some_iff.mp hr
    exact engaged_of_toIdle q)))

theorem enteringSafe_ledger (s : State) : (enteringSafe s).ledger = { s.ledger with op := .safe } :=
  (voidComputation_ledger _).trans rfl

theorem runAbandoned_ledger (prev : OpState) (s : State) : (runAbandoned prev s).ledger = s.ledger := by
  unfold runAbandoned
  dsimp only
  split <;> rfl

theorem enterSafe_led (k : FaultKind) (s : State) : Led s (enterSafe k s) := by
  have h : (enterSafe k s).ledger =
      { s.ledger.mapped (fun _ r => if r.state.engaged then r.toIdle else r) with op := .safe } := by
    rw [enterSafe_eq, submitState_ledger]
    show (runAbandoned _ _).ledger = _
    rw [runAbandoned_ledger, idleEngaged_ledger, enteringSafe_ledger]
    rfl
  unfold Led
  rw [h]
  exact Ledger.leads_leave .safe nofun

theorem enterStopping_led (c : StopCause) (k : Option FaultKind) (s : State) : Led s (enterStopping c k s) := by
  refine .ite fun _ => Led.before ?_ ((submitState_ledger _ _ _ _ _).trans (playerStop_ledger _))
  exact Ledger.leads_op .stopping nofun (.inl rfl)

theorem react_led (k : FaultKind) (s : State) : Led s (react k s) := by
  unfold react
  split
  · exact .ite fun _ => enterSafe_led k s
  · exact enterStopping_led _ _ s
  · exact .refl s

theorem raiseFault_led (f : Raise) (s : State) : Led s (raiseFault f s) := by
  unfold raiseFault
  dsimp only
  split
  · exact (react_led _ _).after ((submit_ledger _ _).trans (updateFaults_ledger _ s))
  · exact .of_eq ((submit_ledger _ _).trans (updateFaults_ledger _ s))

theorem checkEstop_led (s : State) : Led s (checkEstop s) := .ite fun _ => raiseFault_led _ s

/-! ### The drive link controller -/

theorem eachStation_led {f : Station → StationRec → State → State} (hf : ∀ n r t, t.stations[n] = some r → Led t (f n r t))
    (s : State) : Led s (eachStation f s) :=
  eachStation_induct (.refl s) fun n r t hr h => h.trans (hf n r t hr)

theorem mergeStation_led (n : Station) (r : StationRec) (s : State) : Led s (mergeStation n r s) := by
  unfold mergeStation
  dsimp only
  split
  · refine ((Led.of_eq ?_).trans (.ite fun _ => raiseFault_led _ _)).trans (.ite fun _ => raiseFault_led _ _)
    rfl
  · exact .of_eq rfl
  · exact .of_eq rfl

theorem serviceStation_ledger (n : Station) (s : State) : (serviceStation n s).ledger = s.ledger := by
  unfold serviceStation
  dsimp only
  split
  · rfl
  · split
    · rfl
    · exact submit_ledger _ _

theorem closeLink_led (s : State) : Led s (closeLink s) :=
  eachStation_led (fun n r t _ => (mergeStation_led n r t).before (serviceStation_ledger n _)) s

theorem addCount_ledger (k : Fin 4) (a : Nat) (s : State) : (addCount k a s).ledger = s.ledger := by
  unfold addCount
  dsimp only
  split
  · exact submit_ledger _ _
  · rfl

theorem countSlot_ledger (n : Station) (a b : Option LaneOutcome) (s : State) : (countSlot n a b s).ledger = s.ledger :=
  countSlot_induct (P := fun t => t.ledger = s.ledger) rfl fun k m t h => (addCount_ledger k m t).trans h

theorem watchSlot_ledger (n : Station) (a b : Option LaneOutcome) (s : State) : (watchSlot n a b s).ledger = s.ledger := rfl

theorem endSlot_ledger (n : Station) (a b : Reception) (s : State) : (endSlot n a b s).ledger = s.ledger := by
  unfold endSlot
  split
  · rfl
  · rw [watchSlot_ledger, countSlot_ledger]
    rfl

theorem cancelStation_ledger (n : Station) (s : State) : (cancelStation n s).ledger = s.ledger := by
  have hall : ∀ (l : List ServiceItem) (t : State),
      (l.foldl (fun s i => submit (.serviceDone n i .cancelled i.value) s) t).ledger = t.ledger := fun l => by
    induction l with
    | nil => exact fun _ => rfl
    | cons i rest ih => exact fun t => (ih _).trans (submit_ledger _ t)
  unfold cancelStation
  dsimp only
  rw [hall]
  rfl

theorem cancelService_ledger (s : State) : (cancelService s).ledger = s.ledger := by
  have h : (eachStation (fun n _ s => cancelStation n s) s).ledger = s.ledger :=
    eachStation_induct (P := fun t => t.ledger = s.ledger) rfl fun n _ t _ h => (cancelStation_ledger n t).trans h
  unfold cancelService
  generalize eachStation _ s = u at h ⊢
  exact h

/-! ### The cycle computation -/

/-- A record put in place of one that keeps to it. -/
theorem setStation_led {n : Station} {q r : StationRec} {s : State} (h : s.stations[n] = some q)
    (hk : q.KeepsTo s.params.circTrim[n] s.run.op.inRun r) : Led s (setStation n r s) := by
  unfold Led
  rw [setStation_ledger (f := fun _ => r) h]
  refine Ledger.leads_mapped fun m x hx => ?_
  split
  · rename_i e
    subst e
    cases h.symm.trans hx
    exact hk
  · exact .refl _ _ x

theorem applyJudging_led {n : Station} {r : StationRec} {s t : State} (h : t.stations[n] = some r)
    (hk : r.KeepsTo t.params.circTrim[n] t.run.op.inRun (s.judging n r).r) : Led t (applyJudging n (s.judging n r) t) :=
  applyJudging_induct (setStation_led h hk) fun e u hu => hu.trans (by
    cases e with
    | fault f => exact raiseFault_led f u
    | changed old q reason => exact .of_eq (submit_ledger _ u))

theorem judging_keeps (s : State) (n : Station) (r : StationRec) (may : Bool) :
    r.KeepsTo s.params.circTrim[n] may (s.judging n r).r :=
  (judge_keeps n s.params s.run.op s.run.count _ r).mono may

theorem judgeStage_led (s : State) : Led s (judgeStage s) :=
  eachStation_led (fun n r t hr => applyJudging_led hr (judging_keeps t n r _)) s

theorem windupStage_led (s : State) : Led s (windupStage s) := by
  have h : Led s { s with monitor := s.monitorNext } := .of_eq rfl
  unfold windupStage
  dsimp only
  split <;> split
  · exact (h.trans (raiseFault_led _ _)).trans (raiseFault_led _ _)
  · exact h.trans (raiseFault_led _ _)
  · exact h.trans (raiseFault_led _ _)
  · exact h

theorem axleStage_led (s : State) : Led s (axleStage s) := by
  unfold axleStage
  split
  · have h : Led s { s with axle := s.axle.advance s.forceSum s.axleResult } := .of_eq rfl
    exact h.trans (.ite fun _ => raiseFault_led _ _)
  · exact .of_eq rfl

theorem mapStations_ledger (f : Station → StationRec → StationRec) (s : State) :
    (mapStations f s).ledger = s.ledger.mapped f :=
  Ledger.ext rfl rfl rfl rfl rfl rfl rfl rfl (funext fun n => ofEight_get _ n) rfl

theorem mapStations_led {f : Station → StationRec → StationRec}
    (hf : ∀ (trim : Int) (may : Bool) (n : Station) (r : StationRec), r.KeepsTo trim may (f n r)) (s : State) :
    Led s (mapStations f s) := by
  unfold Led
  rw [mapStations_ledger]
  exact Ledger.leads_mapped fun n r _ => hf _ _ n r

theorem gearStage_led (s : State) : Led s (gearStage s) :=
  mapStations_led (fun _ may _ r => (gear_keeps_to r _ may).trans (feed_keeps_to _ _ may)) s

theorem assembleStage_led (s : State) : Led s (assembleStage s) :=
  mapStations_led (fun _ may _ r => assemble_keeps_to r _ _ may) s

theorem countLocks_ledger (s : State) : (countLocks s).ledger = s.ledger :=
  countLocks_induct (P := fun t => t.ledger = s.ledger) rfl fun k m t h => (addCount_ledger k m t).trans h

theorem stages_led (s : State) : Led s (stages s) := by
  unfold stages
  exact (((((judgeStage_led s).trans (axleStage_led _)).trans (gearStage_led _)).trans (windupStage_led _)).trans
    (assembleStage_led _)).before (countLocks_ledger _)

/-- The stages keep the stations that have a record. -/
theorem stages_has (s : State) (hc : s.comp = none) (n : Station) : ((stages s).stations[n]).isSome = (s.stations[n]).isSome := by
  obtain ⟨adv, v, p, op, cross, h, _⟩ := stages_stations s hc n
  rw [h, judgeStage_stations s hc n]
  simp only [Option.isSome_map]

theorem compute_led (s : State) (hc : s.comp = none) (hr : s.link.running = true) : Led s (compute s) := by
  have h : Led s (stages (computeBegun s)) := (stages_led _).after rfl
  have hst := stages_has (computeBegun s) hc
  rw [compute_eq]
  generalize stages (computeBegun s) = u at h hst ⊢
  refine h.trans (Ledger.leads_shown _ fun x hx => ?_)
  cases hx
  exact ⟨h.runs hr, fun n => ⟨rfl, (hst n).symm⟩⟩

end Sys2Proof.Machine
end

section
/-! SUPPORT. The commissioning store and the parameter table: what a load, a commissioning request and a parameter write make of
the ledger. -/

namespace Sys2Proof.Machine

/-! ### Blocks in range and at distinct positions (R184, R185, R188) -/

theorem cellInRange_mass {k : CellBlock} (h : cellInRange k = true) : k.massMin ≤ k.massMax := by
  simp only [cellInRange, Bool.and_eq_true, decide_eq_true_eq] at h
  exact h.1.1.1.1.2

theorem parseStation_inRange {raw : RawStation} {b : StationBlock} (h : parseStation raw = some b) : b.inRange = true := by
  unfold parseStation at h
  split at h
  · split at h
    · split at h
      · rename_i hr
        cases h
        exact hr
      · cases h
    · cases h
  · cases h

/-- Two stations share axle and side. -/
theorem duplicatePosition_iff {v : Vector (Option StationBlock) 8} {n : Station} {b : StationBlock} :
    duplicatePosition v n b = true ↔ ∃ m x, m ≠ n ∧ v[m] = some x ∧ x.axle = b.axle ∧ x.side = b.side := by
  simp only [duplicatePosition, List.any_eq_true, Bool.and_eq_true, bne_iff_ne]
  constructor
  · rintro ⟨m, _, hne, hm⟩
    split at hm
    · rename_i x hx
      simp only [Bool.and_eq_true, beq_iff_eq] at hm
      exact ⟨m, x, hne, hx, hm⟩
    · cases hm
  · rintro ⟨m, x, hne, hx, hp⟩
    refine ⟨m, mem_stationList m, hne, ?_⟩
    rw [hx]
    simpa using hp

theorem positionsDistinct_iff {v : Vector (Option StationBlock) 8} :
    positionsDistinct v = true ↔ ∀ (n : Station) b, v[n] = some b → duplicatePosition v n b = false := by
  simp only [positionsDistinct, everyStation_iff]
  refine forall_congr' fun n => ?_
  cases v[n] <;> simp

/-- A block written at a position no other station holds, or a block removed. -/
theorem positionsDistinct_set {v : Vector (Option StationBlock) 8} (h : positionsDistinct v = true) (n : Station)
    (o : Option StationBlock) (ho : ∀ b, o = some b → duplicatePosition v n b = false) : positionsDistinct (v.set n o) = true := by
  rw [positionsDistinct_iff] at h ⊢
  intro m b hb
  rw [Bool.eq_false_iff, Ne, duplicatePosition_iff]
  rintro ⟨m', x, hne, hx, ha, hs⟩
  rw [Vector.set_get] at hb hx
  split at hb <;> split at hx
  · rename_i e e'
    exact hne (e'.symm.trans e)
  · exact Bool.eq_false_iff.mp (ho b hb) (duplicatePosition_iff.mpr ⟨m', x, fun e => by simp_all, hx, ha, hs⟩)
  · rename_i e _
    exact Bool.eq_false_iff.mp (ho x hx) (duplicatePosition_iff.mpr ⟨m, b, Ne.symm e, hb, ha.symm, hs.symm⟩)
  · exact Bool.eq_false_iff.mp (h m b hb) (duplicatePosition_iff.mpr ⟨m', x, hne, hx, ha, hs⟩)

theorem imageBlock_inRange {l : List (Nat × RawStation)} {n : Station} {b : StationBlock} (h : imageBlock l n = some b) :
    b.inRange = true := by
  unfold imageBlock at h
  split at h
  · exact parseStation_inRange h
  · cases h

/-- The working set of an image lies within its ranges (R185). -/
theorem imageSet_sound {b : List Byte} {k : CellBlock} {blocks : Vector (Option StationBlock) 8} (h : imageSet b = some (k, blocks)) :
    cellInRange k = true ∧ positionsDistinct blocks = true ∧ ∀ (n : Station) x, blocks[n] = some x → x.inRange = true := by
  unfold imageSet at h
  dsimp only at h
  split at h
  · rename_i hc
    cases h
    simp only [Bool.and_eq_true] at hc
    refine ⟨hc.1.1.1.1.2, ?_, fun n x hx => ?_⟩
    · rw [positionsDistinct_iff]
      intro n x hx
      have hn := List.all_eq_true.mp hc.2 n (mem_stationList n)
      rw [hx] at hn
      simpa using hn
    · rw [ofEight_get] at hx
      exact imageBlock_inRange hx
  · cases h

theorem loadImage_set {answers cut : Bool} {m : Memory} {w : CellBlock × Vector (Option StationBlock) 8}
    (h : (loadImage answers m cut).2 = some w) : ∃ b, imageSet b = some w := by
  unfold loadImage at h
  dsimp only at h
  split at h
  · cases h
  · split at h
    · cases h
    · split at h
      · cases h
      · split at h
        · rename_i x hx
          cases h
          exact ⟨_, hx⟩
        · cases h

/-! ### The station table formed (R189) -/

theorem State.ledger_commissions (s : State) (n : Station) : s.ledger.commissions n = s.store.commissions n :=
  (commissions_eq s.store n).symm

theorem syncStations_record (w : Option Station) (v : State) (n : Station) :
    (syncStations w v).stations[n] = (v.store.commissions n).bind fun b =>
      if v.stations[n] = none ∨ w = some n then some (freshRecord b v.params.circTrim[n]) else v.stations[n] := by
  rw [syncStations_get]
  cases hc : v.store.commissions n with
  | none => rfl
  | some b =>
    have hr := renews_iff v w n
    rw [hc] at hr
    simp only [Option.bind_some, hr, ne_eq, reduceCtorEq, not_false_eq_true, true_and]

/-- The entry to SETTLE that starts the link (R1, R120, R191). -/
theorem Ledger.leads_start {l m : Ledger} (h : l.LeadsTo m) (ho : m.op ≠ .loading) (hr : m.op.inRun = false) :
    l.LeadsTo { m.mapped (fun _ r => { r with miss := 0 }) with op := .settle, running := true, locked := true } :=
  ((h.trans (leads_link ho)).trans (leads_mapped (f := fun _ r => { r with miss := 0 }) fun _ _ _ => .of_eq rfl rfl rfl rfl rfl)).trans
    (leads_op .settle nofun (.inr (.inl hr)))

theorem settleValues_ledger (s : State) :
    (settleValues s).ledger = { s.ledger.mapped (fun _ r => { r with miss := 0 }) with op := .settle } := by
  refine Ledger.ext rfl rfl rfl rfl rfl rfl rfl rfl (funext fun n => missCleared_get s.stations n) ?_
  unfold State.ledger settleValues
  cases s.comp with
  | none => rfl
  | some k =>
    simp only [Option.map_some, missCleared_get, Option.isSome_map]
    rfl

theorem startLink_ledger (s : State) : (startLink (settleValues s)).ledger =
    { s.ledger.mapped (fun _ r => { r with miss := 0 }) with op := .settle, running := true, locked := true } :=
  congrArg (fun l : Ledger => { l with running := true, locked := true }) (settleValues_ledger s)

/-! ### The load (R119, R186) -/

/-- A load's working set in place, the part out of LOADING. -/
theorem applyLoad_commissions {o : LoadOutcome} {w : Option (CellBlock × Vector (Option StationBlock) 8)} {s : State}
    (h : s.run.op = .loading) (hw : ∀ x, w = some x → ∃ b, imageSet b = some x) :
    Ledger.Commissioned none s.ledger { (applyLoad o w s).ledger with op := .config } := by
  cases w with
  | none =>
    refine ⟨.inl h, nofun, .inr (by rw [show s.ledger.op = _ from h]; rfl), rfl, rfl, rfl, rfl, fun _ => ?_,
      fun n => .inr ⟨.inl h, fun b hb => ?_⟩,
      fun n => ?_⟩
    · refine ⟨nofun, show positionsDistinct (Vector.replicate 8 none) = true by decide, fun n b hb => ?_, le_refl _,
        show (400 : Nat) ≤ 80000 by decide⟩
      exact absurd (show (Vector.replicate 8 (none : Option StationBlock))[n] = some b from hb) (by simp)
    · exact absurd (show (Vector.replicate 8 (none : Option StationBlock))[n] = some b from hb) (by simp)
    · exact (syncStations_record none _ n).trans (by rw [← State.ledger_commissions]; rfl)
  | some x =>
    obtain ⟨b, hb⟩ := hw x rfl
    obtain ⟨hcell, hapart, hblocks⟩ := imageSet_sound hb
    refine ⟨.inl h, nofun, .inr (by rw [show s.ledger.op = _ from h]; rfl), rfl, rfl, rfl, rfl, fun _ => ?_,
      fun n => .inr ⟨.inl h, hblocks n⟩,
      fun n => ?_⟩
    · exact ⟨fun k hk => by cases hk; exact hcell, hapart, hblocks, le_refl _, cellInRange_mass hcell⟩
    · exact (syncStations_record none _ n).trans (by rw [← State.ledger_commissions]; rfl)

theorem leaveLoading_leads {l : Ledger} {u : State} (h : l.LeadsTo { u.ledger with op := .config }) :
    l.LeadsTo (leaveLoading u).ledger := by
  unfold leaveLoading
  dsimp only
  split
  · have hstart : l.LeadsTo (startLink (settleValues u)).ledger := by
      rw [startLink_ledger]
      exact Ledger.leads_start (m := { u.ledger with op := .config }) h nofun rfl
    exact hstart.trans ((checkEstop_led _).after (submit_ledger _ _))
  · exact h.trans (.of_eq (submit_ledger _ _))

theorem completeLoad_led (answers : Bool) (s : State) : Led s (completeLoad answers s) := by
  unfold completeLoad
  split
  · rename_i h
    exact leaveLoading_leads (applyLoad_commissions h.1 fun x hx => loadImage_set hx).leads
  · exact .refl s

/-! ### The commissioning requests (R187, R188, R120) -/

/-- A change of an unlocked working set with the table formed after it. -/
theorem followSet_commissions {w : Option Station} {s v : State} (hl : s.store.locked = false) (ho : s.run.op ≠ .loading)
    (hv : v.ledger = { s.ledger with cell := v.store.cell, blocks := v.store.blocks, mass := v.params.mass, limit := v.axle.vLimit })
    (hset : s.ledger.SetSound → v.ledger.SetSound)
    (hb : ∀ n : Station, v.store.blocks[n] = s.store.blocks[n] ∨
      (s.run.op = .loading ∨ w = some n ∨ v.store.blocks[n] = none) ∧ ∀ b, v.store.blocks[n] = some b → b.inRange = true) :
    Ledger.Commissioned w s.ledger (followSet w v).ledger := by
  have hop : v.run.op = s.run.op := congrArg Ledger.op hv
  have hrunning : v.link.running = s.link.running := congrArg Ledger.running hv
  have hlocked : v.store.locked = s.store.locked := congrArg Ledger.locked hv
  have hshown : v.ledger.shown = s.ledger.shown := by rw [hv]
  have htrim : v.ledger.trim = s.ledger.trim := by rw [hv]
  refine ⟨.inr hl, fun h => ho (hop.symm.trans h), .inl hop, hrunning, hlocked, hshown, htrim, fun h => ?_, hb, fun n => ?_⟩
  · obtain ⟨hcell, hapart, hblocks, hlow, hhigh⟩ := hset h
    exact ⟨hcell, hapart, hblocks, hlow, hhigh⟩
  · have hrec : v.stations[n] = s.ledger.record n := congrFun (congrArg Ledger.record hv) n
    rw [← hrec]
    exact (syncStations_record w v n).trans (by rw [← State.ledger_commissions]; rfl)

theorem takeCommissionCell_led (k : CellBlock) (s : State) (ho : s.run.op ≠ .loading) : Led s (takeCommissionCell k s).1 := by
  unfold takeCommissionCell
  split
  · exact .refl s
  · rename_i hl
    split
    · exact .refl s
    · rename_i hk
      simp only [Bool.not_eq_true', Bool.not_eq_false] at hk
      have hmass := cellInRange_mass hk
      refine Ledger.Commissioned.leads (w := none) (followSet_commissions (by simpa using hl) ho ?_ ?_ ?_)
      · rfl
      · intro h
        refine ⟨fun x hx => by cases hx; exact hk, h.apart, h.blocks, le_max_left _ _, ?_⟩
        exact max_le hmass (min_le_left _ _)
      · exact fun n => .inl rfl

theorem setBlock_led (n : Station) (b : Option StationBlock) (w : Option Station) (s : State) (hl : s.store.locked = false)
    (ho : s.run.op ≠ .loading) (hb : ∀ x, b = some x → w = some n ∧ x.inRange = true ∧ duplicatePosition s.store.blocks n x = false) :
    Led s (followSet w (setBlock n b s)) := by
  have hget (m : Station) : (setBlock n b s).store.blocks[m] = if n = m then b else s.store.blocks[m] := Vector.set_get _ n m b
  have hnew : ∀ m : Station, (setBlock n b s).store.blocks[m] = s.store.blocks[m] ∨
      (w = some m ∨ (setBlock n b s).store.blocks[m] = none) ∧
        ∀ x, (setBlock n b s).store.blocks[m] = some x → x.inRange = true := fun m => by
    rw [hget]
    split
    · rename_i e
      subst e
      refine .inr ⟨?_, fun x hx => (hb x hx).2.1⟩
      cases b with
      | none => exact .inr rfl
      | some x => exact .inl (hb x rfl).1
    · exact .inl rfl
  refine Ledger.Commissioned.leads (followSet_commissions hl ho rfl ?_ fun m => (hnew m).imp_right fun ⟨hw, hin⟩ => ⟨.inr hw, hin⟩)
  intro h
  refine ⟨h.cell, positionsDistinct_set h.apart n b fun x hx => (hb x hx).2.2, fun m x hx => ?_, h.low, h.high⟩
  rcases hnew m with he | ⟨_, hin⟩
  · exact h.blocks m x (he ▸ hx)
  · exact hin x hx

theorem takeCommissionWrite_led (n : Nat) (raw : RawStation) (s : State) (ho : s.run.op ≠ .loading) :
    Led s (takeCommissionWrite n raw s).1 := by
  unfold takeCommissionWrite
  split
  · exact .refl s
  · rename_i hl
    split
    · rename_i m b _ hp
      split
      · exact .refl s
      · rename_i hd
        exact setBlock_led m (some b) (some m) s (by simpa using hl) ho fun x hx => by
          cases hx
          exact ⟨rfl, parseStation_inRange hp, by simpa using hd⟩
    · exact .refl s

theorem takeCommissionClear_led (n : Nat) (s : State) (ho : s.run.op ≠ .loading) : Led s (takeCommissionClear n s).1 := by
  unfold takeCommissionClear
  split
  · exact .refl s
  · rename_i hl
    split
    · exact setBlock_led _ none none s (by simpa using hl) ho nofun
    · exact .refl s

theorem takeLeaveConfig_led (s : State) : Led s (takeLeaveConfig s).1 := by
  unfold takeLeaveConfig
  split
  · exact .refl s
  · rename_i hop
    rw [not_not] at hop
    split
    · exact .refl s
    · refine Led.trans (t := startLink (settleValues s)) ?_ ((checkEstop_led _).after (submitState_ledger _ _ _ _ _))
      unfold Led
      rw [startLink_ledger]
      have hl : s.ledger.op = .config := hop
      exact Ledger.leads_start (.refl _) (by rw [hl]; nofun) (by rw [hl]; rfl)

theorem takeStore_ledger (s : State) : (takeStore s).1.ledger = s.ledger := by
  unfold takeStore
  split
  · rfl
  · split <;> rfl

/-! ### The run parameters (R192, R194) -/

theorem State.ledger_massBounds (s : State) : s.ledger.massBounds = s.massBounds := by
  unfold Ledger.massBounds State.massBounds
  show (s.store.cell.map _).getD _ = _
  cases s.store.cell <;> rfl

/-- The bounds of MASS are in order. -/
theorem Ledger.SetSound.bounds {l : Ledger} (h : l.SetSound) : l.massBounds.1 ≤ l.massBounds.2 := le_trans h.low h.high

theorem clampInt_within {lo hi : Int} (h : lo ≤ hi) (x : Int) : lo ≤ clampInt lo hi x ∧ clampInt lo hi x ≤ hi := by
  unfold clampInt
  split_ifs <;> omega

/-- A parameter write sets MASS under its identifier alone. -/
theorem put_mass (p : Params) (i : Nat) (v : Int) : (p.put i v).mass = p.mass ∨ i = 21 ∧ (p.put i v).mass = v.toNat := by
  unfold Params.put
  dsimp only
  split
  case h_21 => exact .inr ⟨rfl, rfl⟩
  case h_22 => cases trimStation i <;> exact .inl rfl
  all_goals exact .inl rfl

/-- A parameter write sets a circumference trim under the identifiers from 32 on alone. -/
theorem put_circTrim (p : Params) (i : Nat) (v : Int) :
    (p.put i v).circTrim = p.circTrim ∨ 32 ≤ i ∧ ∃ m : Station, (p.put i v).circTrim = p.circTrim.set m v := by
  unfold Params.put
  dsimp only
  split
  case h_22 =>
    cases hm : trimStation i with
    | none => exact .inl rfl
    | some m =>
      have hi : 32 ≤ i := by
        unfold trimStation at hm
        split at hm
        · assumption
        · cases hm
      exact .inr ⟨hi, m, rfl⟩
  all_goals exact .inl rfl

theorem fitParam_mass (s : State) (v : Int) : s.fitParam 21 v = clampInt s.massBounds.1 s.massBounds.2 v := rfl

theorem fitParam_trim (s : State) {i : Nat} (hi : 32 ≤ i) (v : Int) : s.fitParam i v = clampInt (-5000) 5000 v := by
  have hr : s.paramRange i = (-5000, 5000) := by
    unfold State.paramRange
    split <;> first | omega | rfl
  unfold State.fitParam
  rw [hr, if_neg (by omega), if_neg (by omega)]

theorem takeSetParam_led (i : Nat) (v : Int) (s : State) : Led s (takeSetParam i v s).1 := by
  unfold takeSetParam
  split
  · exact .refl s
  · split
    · exact .refl s
    · dsimp only
      refine Ledger.leads_params _ _ (fun h => ?_) fun n => ?_
      · rcases put_mass s.params i (s.fitParam i v) with he | ⟨rfl, he⟩
        · rw [he]
          exact ⟨h.low, h.high⟩
        · have hb := h.bounds
          rw [he, fitParam_mass]
          rw [s.ledger_massBounds] at hb ⊢
          have hc := clampInt_within (lo := (s.massBounds.1 : Int)) (hi := s.massBounds.2) (by omega) v
          omega
      · rcases put_circTrim s.params i (s.fitParam i v) with he | ⟨hi, m, he⟩ <;> rw [he]
        · exact .inl rfl
        · rw [Vector.set_get, fitParam_trim s hi]
          split
          · exact .inr (clampInt_within (by decide) v)
          · exact .inl rfl

theorem takeSetRoadLoad_led (a b c m : Nat) (s : State) : Led s (takeSetRoadLoad a b c m s).1 := by
  refine Ledger.leads_params _ _ (fun h => ?_) fun n => .inl rfl
  have hb := h.bounds
  rw [s.ledger_massBounds] at hb ⊢
  exact ⟨le_max_left _ _, max_le hb (min_le_left _ _)⟩

end Sys2Proof.Machine
end

section
/-! SUPPORT. The ledger of a state through the player, the run controller, the link cycle, the port and the commands. -/

namespace Sys2Proof.Machine

/-! ### The event table, the trace and the player -/

theorem traceCapture_ledger (k : Computation) (s : State) : (traceCapture k s).ledger = s.ledger := by
  unfold traceCapture storeRecord
  split
  · split
    · rfl
    · split
      · rfl
      · split
        · rfl
        · exact submit_ledger _ _
  · rfl

theorem fire_ledger (i : Fin 16) (e : EventEntry) (s : State) : (fire i e s).ledger = s.ledger := by
  have hmark : ∀ (b : Bool) (t : State), (if b = true then handMark t else t).ledger = t.ledger := fun b t => by
    split <;> rfl
  have hrep : ∀ (b : Bool) (x : ReportBody) (t : State), (if b = true then submit x t else t).ledger = t.ledger := fun b x t => by
    split
    · exact submit_ledger x t
    · rfl
  have hsnap : ∀ (b : Bool) (t : State), (if b = true then takeSnapshot i t else t).ledger = t.ledger := fun b t => by
    split <;> rfl
  have hcap : ∀ (b : Bool) (t : State),
      (if b = true then { t with trace := { t.trace with waiting := true } } else t).ledger = t.ledger := fun b t => by
    split <;> rfl
  exact (hcap _ _).trans ((hsnap _ _).trans ((hrep _ _ _).trans ((hmark _ _).trans rfl)))

theorem fireAll_ledger (test : EventEntry → Option EventEntry) (s : State) : (fireAll test s).ledger = s.ledger :=
  fireAll_induct (P := fun t => t.ledger = s.ledger) rfl fun i e t h => (fire_ledger i e t).trans h

theorem cycleTests_ledger (s : State) : (cycleTests s).ledger = s.ledger := by
  unfold cycleTests
  split
  · exact fireAll_ledger _ s
  · rfl

theorem completionTests_ledger (k : Computation) (s : State) : (completionTests k s).ledger = s.ledger := by
  unfold completionTests
  split
  · exact fireAll_ledger _ s
  · rfl

theorem startSegment_ledger (g : Segment) (rest : List Segment) (s : State) : (startSegment g rest s).ledger = s.ledger := by
  unfold startSegment
  dsimp only
  split
  · exact (submit_ledger _ _).trans (submit_ledger _ _)
  · exact submit_ledger _ _

theorem endProfile_led (e : EndReason) (s : State) : Led s (endProfile e s) := by
  unfold endProfile
  dsimp only
  split
  · exact (enterStopping_led _ _ _).after (playerEnd_ledger e s)
  · exact .of_eq (playerEnd_ledger e s)

theorem underrunTest_led (s : State) : Led s (underrunTest s) := .ite fun _ => enterStopping_led _ _ s

theorem enterUnderrun_led (s : State) : Led s (enterUnderrun s) := by
  unfold enterUnderrun
  refine Led.trans (t := raiseFault _ _) ?_ (underrunTest_led _)
  exact (raiseFault_led _ _).after rfl

theorem decideEnd_led (hold : Bool) (g : Segment) (s : State) : Led s (decideEnd hold g s) := by
  unfold decideEnd
  split
  · exact .of_eq (submit_ledger _ _)
  · split
    · exact endProfile_led _ s
    · split
      · exact .of_eq (startSegment_ledger _ _ s)
      · exact enterUnderrun_led s

theorem playerWork_led (s : State) : Led s (playerWork s) := by
  unfold playerWork
  split
  · dsimp only
    split
    · exact (decideEnd_led _ _ _).after (submit_ledger _ _)
    · exact .of_eq rfl
  · split
    · exact .of_eq (startSegment_ledger _ _ s)
    · exact underrunTest_led s
  · exact .refl s

theorem raiseTolerance_led (s : State) : Led s (raiseTolerance s) := by
  unfold raiseTolerance
  dsimp only
  have h := raiseFault_led { kind := .tolerance, detail := some (.phase s.player.phase) } s
  generalize raiseFault _ s = u at h ⊢
  exact h.before rfl

theorem bandCheck_led (s : State) : Led s (bandCheck s) := by
  unfold bandCheck
  split
  · split
    · dsimp only
      split
      · exact (raiseTolerance_led _).after rfl
      · exact .of_eq rfl
    · exact .of_eq rfl
  · exact .refl s

theorem playAndCheck_led (s : State) : Led s (playAndCheck s) := .ite fun _ => (playerWork_led s).trans (bandCheck_led _)

theorem releaseHeld_led (a : HoldAction) (g : Segment) (s : State) : Led s (releaseHeld a g s) := by
  cases a with
  | goOn => exact decideEnd_led _ g s
  | again => exact .of_eq (startSegment_ledger g _ s)
  | finish => exact endProfile_led _ s
  | other k => exact .refl s

theorem playerStart_ledger (s : State) : (playerStart s).ledger = s.ledger := by
  unfold playerStart
  dsimp only
  split
  · exact startSegment_ledger _ _ _
  · rfl

/-! ### The run controller -/

theorem startRun_led (mode : RunMode) (tag : Nat) (m : Mask) (count : Bool) (s : State) : Led s (startRun mode tag m count s) := by
  have h : (startRun mode tag m count s).ledger =
      ({ s.ledger with op := .run } : Ledger).mapped fun n r => if inMask m n then r.toCapture else r := by
    unfold startRun
    dsimp only
    rw [submitState_ledger]
    have hm := moveMask_ledger m StationRec.toCapture .startRun (playerStart { s with
      run := { s.run with count := 0, tag := tag, mode := mode, countEnable := count, fresh := true }
      axle := s.axle.started
      events := { s.events with entries := rebaseEvents s.events.entries } })
    rw [playerStart_ledger] at hm
    generalize moveMask m StationRec.toCapture .startRun _ = u at hm ⊢
    exact congrArg (fun l : Ledger => { l with op := .run }) hm
  unfold Led
  rw [h]
  refine (Ledger.leads_op .run nofun (.inl rfl)).trans (Ledger.leads_mapped fun n r _ => ?_)
  split
  · exact toCapture_keeps _ r
  · exact .refl _ _ r

theorem runEnd_led (s : State) : Led s (runEnd s) := by
  have hi := idleEngaged_ledger .runEnd s
  rw [runEnd_eq]
  generalize idleEngaged .runEnd s = u at hi ⊢
  have h : (runFinished u).ledger =
      { s.ledger.mapped (fun _ r => if r.state.engaged then r.toIdle else r) with op := .ready } :=
    congrArg (fun l : Ledger => { l with op := .ready }) hi
  refine Led.before ?_ (submitState_ledger _ _ _ _ _)
  unfold Led
  rw [h]
  exact Ledger.leads_leave .ready nofun

/-- SETTLE entered out of a run, or with no station engaged. -/
theorem resettle_led (prev : OpState) (c : StateCause) (s : State)
    (h : s.run.op.inRun = false ∨ ∀ n r, s.ledger.record n = some r → r.state.engaged = false) : Led s (resettle prev c s) := by
  have hs : Led s (settleValues s) := by
    unfold Led
    rw [settleValues_ledger]
    refine (Ledger.leads_mapped (f := fun _ r => { r with miss := 0 }) fun _ _ _ => .of_eq rfl rfl rfl rfl rfl).trans
      (Ledger.leads_op .settle nofun (.inr (h.imp_right fun hn n r hr => ?_)))
    obtain ⟨q, hq, rfl⟩ := Option.map_eq_some_iff.mp hr
    exact hn n q hq
  exact (hs.before (submitState_ledger _ _ _ _ _)).trans (checkEstop_led _)

theorem runEmptied_ledger (s : State) :
    (runEmptied s).ledger = ({ s.ledger with shown := none } : Ledger).mapped fun _ r => r.toReset := by
  have h := cancelService_ledger s
  unfold runEmptied
  generalize cancelService s = u at h ⊢
  have hr := resetStations_ledger (resetCore u)
  generalize resetStations (resetCore u) = w at hr ⊢
  refine (show (resetBlocks w).ledger = w.ledger from rfl).trans (hr.trans ?_)
  rw [← h]
  rfl

theorem runReset_led (s : State) : Led s (runReset s) := by
  have hl := runEmptied_ledger s
  have h : Led s (runEmptied s) := by
    unfold Led
    rw [hl]
    exact (Ledger.leads_shown none nofun).trans (Ledger.leads_mapped fun _ r _ => toReset_keeps _ _ r)
  rw [runReset_eq]
  split
  · refine h.trans (resettle_led _ _ _ (.inr fun n r hr => ?_))
    rw [hl] at hr
    obtain ⟨q, _, rfl⟩ := Option.map_eq_some_iff.mp hr
    rfl
  · exact h

theorem takeResetRun_led (orderly : Bool) (s : State) : Led s (takeResetRun orderly s).1 := by
  unfold takeResetRun
  split
  · exact .refl s
  · split
    · exact (enterStopping_led _ _ _).after rfl
    · split
      · exact .of_eq rfl
      · exact runReset_led s

theorem takeReset_led (l m x : Nat) (s : State) : Led s (takeReset l m x s).1 := by
  unfold takeReset
  split
  · exact .refl s
  · split
    · exact .of_eq rfl
    · exact takeResetRun_led _ s

theorem cleared_led (s : State) : Led s (clearStations (updateFaults Faults.cleared s)) := by
  unfold Led
  rw [clearStations_ledger, updateFaults_ledger]
  refine Ledger.leads_mapped fun n r _ => ?_
  split
  · exact toCleared_keeps _ _ r
  · exact .refl _ _ r

theorem cleared_op (s : State) : (clearStations (updateFaults Faults.cleared s)).run.op = s.run.op := by
  have h := clearStations_ledger (updateFaults Faults.cleared s)
  rw [updateFaults_ledger] at h
  generalize clearStations _ = u at h ⊢
  exact congrArg Ledger.op h

theorem takeClearFault_led (s : State) : Led s (takeClearFault s).1 := by
  have hc := cleared_led s
  have ho := cleared_op s
  unfold takeClearFault
  split
  · exact .refl s
  · exact .refl s
  · exact .refl s
  · exact .of_eq (updateFaults_ledger _ s)
  · split
    · exact .refl s
    · dsimp only
      split
      · rename_i hs
        exact hc.trans (resettle_led _ _ _ (.inl (by rw [ho, hs]; rfl)))
      · exact hc

theorem silenceUpdate_led (s : State) : Led s (silenceUpdate s) := by
  unfold silenceUpdate
  dsimp only
  split
  · exact (raiseFault_led _ _).after rfl
  · exact .of_eq rfl

theorem settleUpdate_led (s : State) : Led s (settleUpdate s) := by
  unfold settleUpdate
  split
  · rename_i h
    dsimp only
    split
    · refine Led.before ?_ (submitState_ledger _ _ _ _ _)
      exact Ledger.leads_op .ready nofun (.inr (.inl (by rw [show s.ledger.op = _ from h]; rfl)))
    · split
      · exact (raiseFault_led _ _).after rfl
      · exact .of_eq rfl
  · exact .refl s

theorem countCycle_ledger (s : State) : (countCycle s).ledger = s.ledger := by
  unfold countCycle
  split <;> rfl

/-! ### The link cycle -/

theorem settleReport_ledger (s : State) : (settleReport s).ledger = s.ledger := by
  unfold settleReport
  split
  · exact submit_ledger _ s
  · rfl

theorem beginPulse_ledger (s : State) : (beginPulse s).ledger = s.ledger := by
  unfold beginPulse
  split <;> rfl

theorem publish_ledger (s : State) : (publish s).ledger = s.ledger := rfl

theorem Link.grant_running (l : Link) : l.grant.1.running = l.running := by
  unfold Link.grant
  split
  · rfl
  · split <;> rfl

theorem openCycle_ledger (s : State) : (openCycle s).ledger = s.ledger :=
  Ledger.ext rfl (Link.grant_running _) rfl rfl rfl rfl rfl rfl rfl rfl

theorem roundStart_ledger (b : Bool) (s : State) : (roundStart b s).ledger = s.ledger := by
  unfold roundStart
  split
  · rw [settleReport_ledger, cycleTests_ledger, publish_ledger]
  · rw [settleReport_ledger, publish_ledger, cycleTests_ledger]

theorem cycleStartWith_ledger (f : Nat → Bool) (s : State) : (cycleStartWith f s).ledger = s.ledger := by
  have h : (beginPulse (openCycle s)).ledger = s.ledger := (beginPulse_ledger _).trans (openCycle_ledger s)
  unfold cycleStartWith
  dsimp only
  split
  · exact (roundStart_ledger _ _).trans h
  · exact (cycleTests_ledger _).trans h

theorem closeChecks_led (o : CountOrder) (s : State) : Led s (closeChecks o s) := by
  cases o with
  | beforeLink =>
    exact (((closeLink_led _).after (countCycle_ledger s)).trans (silenceUpdate_led _)).trans (settleUpdate_led _)
  | beforeSilence =>
    exact (((closeLink_led s).before (countCycle_ledger _)).trans (silenceUpdate_led _)).trans (settleUpdate_led _)
  | afterSilence =>
    exact (((closeLink_led s).trans (silenceUpdate_led _)).before (countCycle_ledger _)).trans (settleUpdate_led _)

theorem compDropped_led (s : State) (k : Nat) : Led s { s with comp := none, free := k } := Ledger.leads_shown none nofun

theorem cycleCloseWith_led (f : Nat → CountOrder) (s : State) (hr : s.link.running = true) : Led s (cycleCloseWith f s) := by
  have go : ∀ (o : CountOrder) (k : Nat), (s.run.op.inRun = false → o = .beforeLink) →
      Led s (compute (closeChecks o { s with comp := none, free := k })) := fun o k ho => by
    obtain ⟨c, d, x, hx, _, _, hout⟩ := closeChecks_out o s k ho
    have hc := hout.checked.comp
    have hl := (compDropped_led s k).trans (closeChecks_led o _)
    rw [← hx] at hc
    exact hl.trans (compute_led _ hc (hl.runs hr))
  unfold cycleCloseWith
  dsimp only
  split
  · rename_i h
    exact go _ _ fun hn => by rw [h] at hn; cases hn
  · exact go _ _ fun _ => rfl

theorem finishRun_led (b : Bool) (s : State) : Led s (finishRun b s) := by
  unfold finishRun
  split
  · split
    · exact runReset_led s
    · exact runEnd_led s
  · exact .refl s

theorem completionWork_led (o : CompletionOrder) (k : Computation) (s : State) : Led s (completionWork o k s) := by
  have e := completionTests_ledger k
  have t := traceCapture_ledger k
  have r := finishRun_led k.standstill
  cases o with
  | eventsCaptureEnd => exact (r _).after ((t _).trans (e s))
  | eventsEndCapture => exact ((r _).after (e s)).before (t _)
  | captureEventsEnd => exact (r _).after ((e _).trans (t s))
  | captureEndEvents => exact ((r _).after (t s)).before (e _)
  | endEventsCapture => exact (r s).before ((t _).trans (e _))
  | endCaptureEvents => exact (r s).before ((e _).trans (t _))

theorem completionWith_led (f : Nat → CompletionOrder) (s : State) : Led s (completionWith f s) := by
  have hdrop : ∀ (b : Bool) (k : Nat), Led s { s with comp := none, trace := { s.trace with waiting := b }, free := k } := fun b k =>
    (compDropped_led s k).before rfl
  unfold completionWith
  dsimp only
  split
  · exact ((hdrop _ _).trans (playAndCheck_led _)).trans (completionWork_led _ _ _)
  · exact ((hdrop _ _).trans (playAndCheck_led _)).before (traceCapture_ledger _ _)

/-! ### The threshold steps -/

theorem judgeIf_led (q : StationEvent → Bool) (n : Station) (s : State) : Led s (judgeIf q n s) := by
  unfold judgeIf
  split
  · exact .refl s
  · rename_i r hr
    dsimp only
    split
    · exact (applyJudging_led (t := updateSeen n _ s) hr (judging_keeps s n r _)).after (updateSeen_ledger _ _ s)
    · exact .refl s

theorem laneDegradedStep_led (n : Station) (l : Lane) (s : State) : Led s (laneDegradedStep n l s) := by
  unfold laneDegradedStep
  split
  · exact .refl s
  · exact .ite fun _ => mergeStation_led n _ s

theorem serviceTimeout_led (n : Station) (s : State) : Led s (serviceTimeout n s) := .ite fun _ => .of_eq (serviceStation_ledger n s)

/-! ### The requests -/

theorem takeAppend_ledger (g : Segment) (s : State) : (takeAppend g s).1.ledger = s.ledger := by
  unfold takeAppend
  split_ifs <;> rfl

theorem takeReleaseHold_led (a : HoldAction) (s : State) : Led s (takeReleaseHold a s).1 := by
  unfold takeReleaseHold
  split
  · exact .refl s
  · split
    · exact releaseHeld_led _ _ s
    · exact .refl s

theorem takeStartRun_led (mode tag : Nat) (m : Mask) (count : Nat) (s : State) : Led s (takeStartRun mode tag m count s).1 := by
  unfold takeStartRun
  split
  · exact .refl s
  · split
    · exact .refl s
    · split
      · exact .refl s
      · split
        · exact .refl s
        · split
          · exact .refl s
          · dsimp only
            exact startRun_led _ _ _ _ s

theorem takeStopRun_led (s : State) : Led s (takeStopRun s).1 := by
  unfold takeStopRun
  split
  · exact enterStopping_led _ _ s
  · exact .refl s
  · exact .refl s

/-- A request that moves stations. -/
theorem moveAnswer_led (m : Mask) (f : StationRec → StationRec) (reason : StationReason) (s : State)
    (hf : ∀ (trim : Int) (r : StationRec), r.KeepsTo trim s.run.op.inRun (f r)) : Led s (moveAnswer m f reason s).1 := by
  unfold moveAnswer Led
  dsimp only
  rw [moveMask_ledger]
  refine Ledger.leads_mapped fun n r _ => ?_
  split
  · exact hf _ r
  · exact .refl _ _ r

theorem takeEngage_led (m : Mask) (s : State) : Led s (takeEngage m s).1 := by
  unfold takeEngage
  split
  · exact .refl s
  · rename_i hop
    split
    · exact .refl s
    · exact moveAnswer_led _ _ _ s fun trim r => by rw [not_not.mp hop]; exact toCapture_keeps trim r

theorem takeRecapture_led (m : Mask) (s : State) : Led s (takeRecapture m s).1 := by
  unfold takeRecapture
  split
  · exact .refl s
  · rename_i hop
    split
    · exact .refl s
    · exact moveAnswer_led _ _ _ s fun trim r => by rw [not_not.mp hop]; exact toRecapture_keeps trim r

theorem takeRelease_led (m : Mask) (s : State) : Led s (takeRelease m s).1 := by
  unfold takeRelease
  split
  · exact .refl s
  · split
    · exact .refl s
    · exact moveAnswer_led _ _ _ s fun trim r => toIdle_keeps trim _ r

theorem takeAddEvent_ledger (t : TriggerArg) (a r p : Nat) (s : State) : (takeAddEvent t a r p s).1.ledger = s.ledger := by
  unfold takeAddEvent
  split
  · rfl
  · split
    · rfl
    · split <;> rfl

theorem takeModifyEvent_ledger (n : Nat) (t : TriggerArg) (s : State) : (takeModifyEvent n t s).1.ledger = s.ledger := by
  unfold takeModifyEvent
  split
  · split
    · rfl
    · split
      · rfl
      · split <;> rfl
  · rfl

theorem takeRemoveEvent_ledger (n : Nat) (s : State) : (takeRemoveEvent n s).1.ledger = s.ledger := by
  unfold takeRemoveEvent
  split
  · split <;> rfl
  · rfl

theorem takeClearEvents_ledger (x : ClearArg) (s : State) : (takeClearEvents x s).1.ledger = s.ledger := by
  unfold takeClearEvents
  split
  · rfl
  · rfl
  · split <;> rfl

theorem takeSetCounter_ledger (a : CounterArg) (s : State) : (takeSetCounter a s).1.ledger = s.ledger := by
  unfold takeSetCounter
  split <;> rfl

theorem takeSetWatch_ledger (n st : Nat) (s : State) : (takeSetWatch n st s).1.ledger = s.ledger := by
  unfold takeSetWatch
  split
  · dsimp only
    split <;> split <;> rfl
  · rfl

theorem takeSetTrace_ledger (m : Mask) (d p e : Nat) (s : State) : (takeSetTrace m d p e s).1.ledger = s.ledger := by
  unfold takeSetTrace
  split <;> rfl

theorem takeService_ledger (n op index : Nat) (v : Int) (s : State) : (takeService n op index v s).1.ledger = s.ledger := by
  unfold takeService
  split
  · rfl
  · split
    · split
      · rfl
      · split <;> rfl
    · rfl

/-- A request taken; in LOADING only the ones that are taken there. -/
theorem takeBlock_led (r : Request) (s : State) (ho : s.run.op = .loading → r.inLoading = true) : Led s (takeBlock r s).1 := by
  have hout : r.inLoading = false → s.run.op ≠ .loading := fun hr h => by rw [ho h] at hr; cases hr
  cases r with
  | badKind => exact .refl s
  | badLength => exact .refl s
  | getStatus => exact .refl s
  | getStation n => exact .of_eq (congrArg State.ledger (takeGetStation_state n s))
  | commissionCell k => exact takeCommissionCell_led k s (hout rfl)
  | commissionWrite n b => exact takeCommissionWrite_led n b s (hout rfl)
  | commissionClear n => exact takeCommissionClear_led n s (hout rfl)
  | commissionOther => exact .of_eq (congrArg State.ledger (takeCommissionOther_state s))
  | storeCommissioning => exact .of_eq (takeStore_ledger s)
  | leaveConfig => exact takeLeaveConfig_led s
  | setParam i v => exact takeSetParam_led i v s
  | getParam i => exact .of_eq (congrArg State.ledger (takeGetParam_state i s))
  | setRoadLoad a b c m => exact takeSetRoadLoad_led a b c m s
  | appendSegment g => exact .of_eq (takeAppend_ledger g s)
  | discardSegments => exact .of_eq rfl
  | startRun m t e k => exact takeStartRun_led m t e k s
  | stopRun => exact takeStopRun_led s
  | releaseHold a => exact takeReleaseHold_led a s
  | engage m => exact takeEngage_led m s
  | release m => exact takeRelease_led m s
  | recapture m => exact takeRecapture_led m s
  | addEvent t a r p => exact .of_eq (takeAddEvent_ledger t a r p s)
  | modifyEvent n t => exact .of_eq (takeModifyEvent_ledger n t s)
  | removeEvent n => exact .of_eq (takeRemoveEvent_ledger n s)
  | clearEvents x => exact .of_eq (takeClearEvents_ledger x s)
  | setCounter x => exact .of_eq (takeSetCounter_ledger x s)
  | setWatch n st => exact .of_eq (takeSetWatch_ledger n st s)
  | readCounters => exact .refl s
  | setTrace m d p e => exact .of_eq (takeSetTrace_ledger m d p e s)
  | readTrace n => exact .of_eq rfl
  | readFaults => exact .refl s
  | clearFault => exact takeClearFault_led s
  | service n o i v => exact .of_eq (takeService_ledger n o i v s)
  | reset l m x => exact takeReset_led l m x s

theorem takeRequest_led (r : Request) (s : State) : Led s (takeRequest r s).1 := by
  unfold takeRequest
  split
  · exact .refl s
  · exact .refl s
  · split
    · exact .refl s
    · rename_i h
      exact takeBlock_led _ s fun hop => by simpa [hop] using h

/-! ### The cell link port -/

theorem serveFront_led (s : State) : Led s (serveFront s) := by
  unfold serveFront
  split
  · split
    · exact .refl s
    · rename_i q _ _
      have h : Led s (takeRequest q.req s).1 := takeRequest_led q.req s
      split
      · rename_i t a ht
        rw [ht] at h
        exact h.before rfl
      · rename_i t ht
        rw [ht] at h
        exact h.before rfl
  · exact .refl s

theorem arrive_ledger (q : Queued) (s : State) : (arrive q s).ledger = s.ledger := by
  unfold arrive
  split
  · rfl
  · split <;> rfl

theorem received_led (q : Queued) (s : State) : Led s (received q s) := by
  unfold received
  split
  · exact .refl s
  · exact (serveFront_led _).after (arrive_ledger _ _)

theorem completeRecord_led (r : Record) (s : State) : Led s (completeRecord r s) := by
  unfold completeRecord
  split
  · exact .refl s
  · split
    · exact .of_eq rfl
    · exact received_led _ s

theorem discardIfReceiving_ledger (s : State) : (discardIfReceiving s).ledger = s.ledger := by
  unfold discardIfReceiving
  split <;> rfl

theorem beginRecord_ledger (s : State) : (beginRecord s).ledger = s.ledger := by
  unfold beginRecord
  split <;> rfl

theorem replySent_led (s : State) : Led s (replySent s) := by
  unfold replySent
  split
  · exact .of_eq rfl
  · dsimp only
    split
    · split <;> exact .of_eq rfl
    · exact (serveFront_led _).after rfl

theorem transmitEnd_led (s : State) : Led s (transmitEnd s) := by
  unfold transmitEnd
  split
  · exact .refl s
  · exact .of_eq rfl
  · exact replySent_led s

theorem completeStore_ledger (r : StoreResult) (s : State) : (completeStore r s).ledger = s.ledger := by
  unfold completeStore
  split
  · dsimp only
    split <;> rfl
  · rfl

/-! ### The commands -/

/-- The state is one that a full reset begins with. -/
def beginsAnew (s t : State) : Prop :=
  ∃ (reason : ResetReason) (stay held : Bool) (rate : Nat) (mem : Memory) (cut : Bool), t = s.afterReset reason stay held rate mem cut

/-- A full reset leaves the transmitter nothing to send. -/
theorem fullReset_begins {a : ResetReason} {b c : Bool} {k : Nat} {m : Memory × Bool} {s t : State}
    (h : done (fullReset a b c k m s) = .next t) : beginsAnew s t := by
  have hp : pumpTx (fullReset a b c k m s) = fullReset a b c k m s := by cases c <;> rfl
  unfold done at h
  rw [hp] at h
  cases h
  exact ⟨a, b, c, k, m.1, m.2, rfl⟩

theorem Led.done {s u t : State} (h : Led s u) (ht : done u = .next t) : Led s t := by
  cases ht
  exact h.before (pumpTx_ledger u)

theorem request_led {kind tag : Byte} {r : Request} {s t : State} (ht : request kind tag r s = .next t) : Led s t :=
  (received_led _ s).done ht

/-- Every command leads the ledger on, but for the ones that begin a full reset. -/
theorem exec_led (i : Instr) (s t : State) (h : exec i s = .next t) : beginsAnew s t ∨ Led s t := by
  cases i with
  | powerUp straps cut => exact .inl (fullReset_begins h)
  | resetLineLow cut =>
    simp only [exec, execResetLineLow] at h
    split at h
    · exact .inr ((Led.refl s).done h)
    · exact .inl (fullReset_begins h)
  | resetLineHigh straps =>
    simp only [exec, execResetLineHigh] at h
    split at h
    · exact .inl (fullReset_begins h)
    · exact .inr ((Led.refl s).done h)
  | fullReset straps =>
    simp only [exec, execFullReset, beginFullReset] at h
    split at h
    · split at h
      · exact .inl (fullReset_begins h)
      · exact .inr ((Led.refl s).done h)
    · exact .inr ((Led.refl s).done h)
  | estopAsserted =>
    refine .inr (Led.done ?_ h)
    exact (checkEstop_led _).after rfl
  | estopReleased => exact .inr (Led.done (u := { s with pins := { s.pins with estop := false } }) (.of_eq rfl) h)
  | loadCompletion answers => exact .inr ((completeLoad_led answers s).done h)
  | storeCompletion result => exact .inr ((Led.of_eq (completeStore_ledger result s)).done h)
  | cycleStart => exact .inr ((Led.ite fun _ => .of_eq (cycleStartWith_ledger _ s)).done h)
  | slotEnd n a b => exact .inr ((Led.ite fun _ => .of_eq (endSlot_ledger n a b s)).done h)
  | cycleClose => exact .inr ((Led.ite fun hr => cycleCloseWith_led _ s hr).done h)
  | cycleComputationCompletion => exact .inr ((Led.ite fun _ => completionWith_led _ s).done h)
  | markerPulseEnd => exact .inr (Led.done (u := { s with pins := { s.pins with marker := false } }) (.of_eq rfl) h)
  | recordReceived r => exact .inr ((completeRecord_led r s).done h)
  | receptionTimeout => exact .inr ((Led.of_eq (discardIfReceiving_ledger s)).done h)
  | lineFramingError => exact .inr ((Led.of_eq (discardIfReceiving_ledger s)).done h)
  | bodyLengthAboveLimit => exact .inr ((Led.of_eq (discardIfReceiving_ledger s)).done h)
  | startByte => exact .inr ((Led.of_eq (beginRecord_ledger s)).done h)
  | transmitComplete => exact .inr ((transmitEnd_led s).done h)
  | badKind kind tag =>
    simp only [exec, execBadKind] at h
    split at h
    · exact .inr ((Led.refl s).done h)
    · exact .inr (request_led h)
  | serviceTimeout n => exact .inr ((serviceTimeout_led n s).done h)
  | settled => exact .inr ((Led.ite fun _ => settleUpdate_led s).done h)
  | settleFail => exact .inr ((Led.ite fun _ => settleUpdate_led s).done h)
  | linkLost => exact .inr ((Led.ite fun _ => silenceUpdate_led s).done h)
  | windup => exact .inr ((Led.ite fun _ => windupStage_led s).done h)
  | slipTimerExpiry n => exact .inr ((judgeIf_led _ n s).done h)
  | captureFail n => exact .inr ((judgeIf_led _ n s).done h)
  | stationLost n c => exact .inr ((judgeIf_led _ n s).done h)
  | captured n => exact .inr ((judgeIf_led _ n s).done h)
  | laneDegraded n l => exact .inr ((laneDegradedStep_led n l s).done h)
  | tolerance => exact .inr ((Led.ite fun _ => bandCheck_led s).done h)
  | _ => exact .inr (request_led h)

/-- Every step leads the ledger on, or is a full reset. -/
theorem step_led (s t : State) (h : step s = .next t) : fullyReset s t ∨ Led s t := by
  unfold step at h
  split at h
  · cases h
    exact .inr (.refl s)
  · rename_i c rest hp
    refine (exec_led c _ t h).imp (fun hr => ?_) fun hl => hl.after rfl
    have hd : s.pending.drop 1 = rest := by rw [hp]; rfl
    unfold fullyReset
    rw [hd]
    exact hr

end Sys2Proof.Machine
end

section
/-! O9 and O10: the stations, the working set and the station table. -/

namespace Sys2Proof.Machine

/-! ### The statements' predicates by the ledger -/

theorem setSound_iff (s : State) : s.setSound = true ↔ s.ledger.SetSound := by
  have hm := s.ledger_massBounds
  simp only [State.setSound, Bool.and_eq_true, decide_eq_true_eq, everyStation_iff]
  constructor
  · rintro ⟨⟨⟨⟨hc, ha⟩, hb⟩, hl⟩, hh⟩
    refine ⟨fun k hk => ?_, ha, fun n b hn => ?_, by rw [hm]; exact hl, by rw [hm]; exact hh⟩
    · rw [show s.store.cell = some k from hk] at hc
      exact hc
    · have := hb n
      rw [show s.store.blocks[n] = some b from hn] at this
      exact this
  · rintro ⟨hc, ha, hb, hl, hh⟩
    rw [hm] at hl hh
    refine ⟨⟨⟨⟨?_, ha⟩, fun n => ?_⟩, hl⟩, hh⟩
    · cases hk : s.store.cell with
      | none => rfl
      | some k => exact hc k hk
    · cases hn : s.store.blocks[n] with
      | none => rfl
      | some b => exact hb n b hn

theorem tableFollows_iff (s : State) : s.tableFollows = true ↔ s.ledger.Follows := by
  simp only [State.tableFollows, Bool.and_eq_true, everyStation_iff, beq_iff_eq, Bool.or_eq_true, bne_iff_ne,
    Option.isNone_iff_eq_none]
  constructor
  · rintro ⟨hb, hl⟩
    exact ⟨fun n => (hb n).trans (s.ledger_commissions n).symm, fun ho => hl.resolve_left (not_not.mpr ho)⟩
  · rintro ⟨hb, hl⟩
    exact ⟨fun n => (hb n).trans (s.ledger_commissions n), or_iff_not_imp_left.mpr fun ho => hl (not_not.mp ho)⟩

theorem computationFollows_iff (s : State) : s.computationFollows = true ↔
    ∀ x, s.ledger.shown = some x → s.link.running = true ∧
      ∀ n : Station, x.1 n = (s.stations[n]).isSome ∧ x.2 n = (s.stations[n]).isSome := by
  unfold State.computationFollows State.ledger
  cases s.comp with
  | none => simp
  | some k => simp [everyStation_iff]

theorem ledger_linked {s : State} (ho : s.outputsAgree = true) (hc : s.computationFollows = true) : s.ledger.Linked := by
  simp only [State.outputsAgree, Bool.and_eq_true, beq_iff_eq, Bool.or_eq_true, Bool.not_eq_true'] at ho
  obtain ⟨⟨_, hrun⟩, hlock⟩ := ho
  have hop : s.link.running = true → s.run.op.running = true := fun h => hrun ▸ h
  refine ⟨fun h => ?_, fun h e => ?_, (computationFollows_iff s).mp hc⟩
  · exact hlock.resolve_left (by rw [hop h]; decide)
  · have hr := hop h
    rw [show s.run.op = .loading from e] at hr
    cases hr

theorem ledger_geared_iff (s : State) : s.stationsSound = true ∧ s.rollersSound = true ↔ s.ledger.Geared := by
  simp only [State.stationsSound, State.rollersSound, everyStation_iff, Bool.and_eq_true, decide_eq_true_eq]
  constructor
  · rintro ⟨hs, hr⟩
    have hrec : ∀ (n : Station) r, s.stations[n] = some r →
        r.sound = true ∧ (s.run.op.inRun = true ∨ r.state.engaged = false) := fun n r h => by
      have hn := hs n
      rw [h] at hn
      simpa using hn
    refine ⟨fun n b hb => ?_, fun n r h => ?_, fun n => ⟨(hr n).1.2, (hr n).2⟩, fun n r h => (hrec n r h).1,
      fun n r h he => (hrec n r h).2.resolve_right (by rw [he]; decide)⟩
    · have hn := (hr n).1.1.1
      rw [show s.store.blocks[n] = some b from hb] at hn
      exact hn
    · have hn := (hr n).1.1.2
      rw [show s.stations[n] = some r from h] at hn
      exact hn
  · rintro ⟨hb, hc, ht, hs, he⟩
    refine ⟨fun n => ?_, fun n => ⟨⟨⟨?_, ?_⟩, (ht n).1⟩, (ht n).2⟩⟩
    · cases h : s.stations[n] with
      | none => rfl
      | some r =>
        simp only [Bool.and_eq_true, Bool.or_eq_true, Bool.not_eq_true']
        refine ⟨hs n r h, ?_⟩
        cases hg : r.state.engaged with
        | false => exact .inr rfl
        | true => exact .inl (he n r h hg)
    · cases h : s.store.blocks[n] with
      | none => rfl
      | some b => exact hb n b h
    · cases h : s.stations[n] with
      | none => rfl
      | some r => exact hc n r h

/-! ### A full reset -/

theorem fullyReset_ledger {s t : State} (h : fullyReset s t) : t.ledger = State.reset.ledger := by
  obtain ⟨a, b, c, k, m, x, rfl⟩ := h
  rfl

theorem reset_setSound : State.reset.setSound = true := by decide

theorem reset_tableFollows : State.reset.tableFollows = true := by decide

theorem reset_stationsSound : State.reset.stationsSound = true ∧ State.reset.rollersSound = true := by decide

/-- Settles O9: the judging, the gearing and the moves keep each record sound, and a run is left with no station engaged. -/
theorem stationsStaySound : Obligations.StationsStaySound := by
  intro s t hs hr h
  rw [ledger_geared_iff]
  rcases step_led s t h with hreset | hled
  · rw [fullyReset_ledger hreset]
    exact (ledger_geared_iff _).mp reset_stationsSound
  · exact hled.geared ((ledger_geared_iff s).mp ⟨hs, hr⟩)

/-- Settles O10: every step but a full reset leads the ledger on, and a full reset leaves it as power-up does. -/
theorem workingSetStaysSound : Obligations.WorkingSetStaysSound := by
  refine ⟨fun s t hs h => ?_, fun s t hs h => ?_, fun s t ho hs h => ?_, fun s t ho hl h => ?_⟩
  · rw [setSound_iff] at hs ⊢
    rcases step_led s t h with hreset | hled
    · rw [fullyReset_ledger hreset]
      exact (setSound_iff _).mp reset_setSound
    · exact hled.set hs
  · rw [tableFollows_iff] at hs ⊢
    rcases step_led s t h with hreset | hled
    · rw [fullyReset_ledger hreset]
      exact (tableFollows_iff _).mp reset_tableFollows
    · exact hled.follows hs
  · rw [computationFollows_iff]
    rcases step_led s t h with hreset | hled
    · rw [fullyReset_ledger hreset]
      exact nofun
    · exact (hled.linked (ledger_linked ho hs)).shown
  · refine (step_led s t h).imp_right fun hled => ?_
    obtain ⟨⟨_, hlock⟩, hcell, hblocks, hlimit, hfixed⟩ := hled.fixed ⟨ho, hl⟩
    exact ⟨hlock, hcell, hblocks, hlimit, hfixed⟩

end Sys2Proof.Machine
end

section
/-! O53: the gearing stage. -/

namespace Sys2Proof.Machine

theorem LockState.geared_iff (x : LockState) : x.geared = true ↔ x = .locked ∨ x = .slip := by
  cases x <;> simp [LockState.geared]

theorem gear_of_not_geared {r : StationRec} (h : r.state.geared = false) (d : Int) : r.gear d = r := by
  unfold StationRec.gear
  rw [h]
  rfl

theorem gear_of_geared {r : StationRec} (h : r.state.geared = true) (d : Int) : r.gear d =
    { r with tNext := narrow64 (r.tLast + (d * r.block.cpr + r.residue) / r.cnm),
             residue := (d * r.block.cpr + r.residue) % r.cnm } := by
  unfold StationRec.gear
  rw [if_pos h]

/-- The counts of one step are no more than the encoder counts of the advance. -/
theorem gear_step_bounded {x res cnm : Int} (h0 : 0 ≤ res) (h1 : res < cnm) : ((x + res) / cnm).natAbs ≤ x.natAbs := by
  have hpos : 0 < cnm := by omega
  have hlow : min x 0 ≤ (x + res) / cnm := by
    rw [Int.le_ediv_iff_mul_le hpos]
    rcases le_total x 0 with hx | hx
    · rw [min_eq_left hx]
      nlinarith
    · rw [min_eq_right hx]
      omega
  have hhigh : (x + res) / cnm < max x 0 + 1 := by
    rw [Int.ediv_lt_iff_lt_mul hpos]
    rcases le_total x 0 with hx | hx
    · rw [max_eq_right hx]
      omega
    · rw [max_eq_left hx]
      nlinarith
  omega

/-- The next computation's gearing begins where this one ended. -/
def StationRec.gearNext (r : StationRec) (d : Int) : StationRec := { r.gear d with tLast := (r.gear d).tNext }

/-- A geared station's step and residue account for the advance (R58). -/
theorem gearNext_accounts {r : StationRec} (h : r.state.geared = true) {d : Int} (hc : 0 < r.cnm) (h0 : 0 ≤ r.residue)
    (h1 : r.residue < r.cnm) (hb : r.tLast.natAbs + d.natAbs * r.block.cpr ≤ 4611686018427387904) :
    ((r.gearNext d).tLast - r.tLast) * r.cnm + (r.gearNext d).residue = d * r.block.cpr + r.residue ∧
      (r.gearNext d).tLast.natAbs ≤ r.tLast.natAbs + d.natAbs * r.block.cpr ∧
      0 ≤ (r.gearNext d).residue ∧ (r.gearNext d).residue < r.cnm := by
  have hstep := gear_step_bounded (x := d * r.block.cpr) h0 h1
  rw [Int.natAbs_mul, Int.natAbs_natCast] at hstep
  have hmod := Int.mul_ediv_add_emod (d * r.block.cpr + r.residue) r.cnm
  unfold StationRec.gearNext
  rw [gear_of_geared h]
  dsimp only
  rw [narrow64_within (by omega) (by omega)]
  refine ⟨?_, by omega, Int.emod_nonneg _ (ne_of_gt hc), Int.emod_lt_of_pos _ hc⟩
  linear_combination hmod

/-- Over any stretch of computations nothing is lost (R58). -/
theorem gearNext_stretch (l : List Int) (r : StationRec) (h : r.state.geared = true) (hc : 0 < r.cnm) (h0 : 0 ≤ r.residue)
    (h1 : r.residue < r.cnm)
    (hb : r.tLast.natAbs + (l.map fun d => d.natAbs * r.block.cpr).sum ≤ 4611686018427387904) :
    ((l.foldl StationRec.gearNext r).tLast - r.tLast) * r.cnm + (l.foldl StationRec.gearNext r).residue =
      (l.map fun d : Int => d * (r.block.cpr : Int)).sum + r.residue := by
  induction l generalizing r with
  | nil => simp
  | cons d rest ih =>
    simp only [List.map_cons, List.sum_cons, List.foldl_cons] at hb ⊢
    obtain ⟨hsum, habs, hres, hlt⟩ := gearNext_accounts h (d := d) hc h0 h1 (by omega)
    have hx : (r.gearNext d).state = r.state ∧ (r.gearNext d).cnm = r.cnm ∧ (r.gearNext d).block = r.block := by
      unfold StationRec.gearNext
      rw [gear_of_geared h]
      exact ⟨rfl, rfl, rfl⟩
    obtain ⟨hstate, hcnm, hblock⟩ := hx
    have hrest := ih (r.gearNext d) (by rw [hstate]; exact h) (by rw [hcnm]; exact hc) hres (by rw [hcnm]; exact hlt)
      (by rw [hblock]; omega)
    rw [hcnm, hblock] at hrest
    linarith

/-- Settles O53: each step's quotient and remainder account for the advance, and the stretches follow by induction. -/
theorem gearingIsExact : Obligations.GearingIsExact := by
  refine ⟨fun r d hl hs => ?_, fun r d h hc => ?_, fun s n r h => ?_, fun r l h hc h0 h1 hb => ?_⟩
  · refine gear_of_not_geared ?_ d
    rw [Bool.eq_false_iff, Ne, LockState.geared_iff]
    exact fun hx => hx.elim hl hs
  · rw [gear_of_geared ((LockState.geared_iff _).mpr h)]
    refine ⟨rfl, Int.emod_nonneg _ (ne_of_gt hc), Int.emod_lt_of_pos _ hc, fun hlow hhigh => ?_⟩
    rw [narrow64_within hlow hhigh]
  · refine ⟨(r.gear s.axle.adv).feed s.axle.v, ?_, rfl, ?_, rfl⟩
    · unfold gearStage
      rw [mapStations_get, h]
      rfl
    · cases hg : r.state.geared with
      | false => rw [gear_of_not_geared hg]; rfl
      | true => rw [gear_of_geared hg]; rfl
  · exact gearNext_stretch l r ((LockState.geared_iff _).mpr h) hc h0 h1 (by omega)

end Sys2Proof.Machine
end

section
/-! O38: the requests that are refused. -/

namespace Sys2Proof.Machine

/-! ### Where the owning rules refuse -/

theorem namesUnknown_of_unknown {s : State} {m : Mask} {n : Station} (hm : inMask m n = true) (hn : s.stations[n] = none) :
    s.namesUnknown m = true := by
  unfold State.namesUnknown
  rw [List.any_eq_true]
  exact ⟨n, mem_stationList n, by simp [State.has, hm, hn]⟩

theorem stationOf_eq_none {n : Nat} (h : 8 ≤ n) : stationOf n = none := dif_neg (by omega)

theorem runModeOf_eq_none {mode : Nat} (h : 2 ≤ mode) : runModeOf mode = none := by
  match mode, h with
  | _ + 2, _ => rfl

section
variable {v : State} {mode runTag count : Nat} {m : Mask}

theorem takeStartRun_notReady (h : v.run.op ≠ .ready) : takeStartRun mode runTag m count v = (v, answer .wrongState) := if_pos h

theorem takeStartRun_pending (h : v.run.op = .ready) (hf : v.faults.reaction ≠ .none) :
    takeStartRun mode runTag m count v = (v, answer .faultPending) := by
  unfold takeStartRun
  rw [if_neg (not_not.mpr h), if_pos hf]

theorem takeStartRun_badValue (h : v.run.op = .ready) (hf : v.faults.reaction = .none)
    (hb : 2 ≤ mode ∨ v.namesUnknown m = true) : takeStartRun mode runTag m count v = (v, answer .badValue) := by
  unfold takeStartRun
  rw [if_neg (not_not.mpr h), if_neg (not_not.mpr hf)]
  cases hmode : runModeOf mode with
  | none => rfl
  | some x =>
    have hunknown := hb.resolve_left fun h2 => by rw [runModeOf_eq_none h2] at hmode; cases hmode
    simp only [hunknown, Bool.true_or, if_true]

theorem takeStartRun_empty (h : v.run.op = .ready) (hf : v.faults.reaction = .none) (hk : v.namesUnknown m = false)
    (ht : runTag ≤ 255) (hc : count ≤ 1) (hw : v.player.waiting = []) :
    takeStartRun 1 runTag m count v = (v, answer .profileEmpty) := by
  have hflag : isFlag count = true := by
    unfold isFlag
    rcases Nat.le_one_iff_eq_zero_or_eq_one.mp hc with rfl | rfl <;> rfl
  have htag : decide (255 < runTag) = false := decide_eq_false (by omega)
  unfold takeStartRun
  rw [if_neg (not_not.mpr h), if_neg (not_not.mpr hf)]
  simp [runModeOf, hk, hflag, htag, hw]

theorem takeEngage_wrongState (h : v.run.op ≠ .run) : takeEngage m v = (v, answer .wrongState) := if_pos h

theorem takeRecapture_wrongState (h : v.run.op ≠ .run) : takeRecapture m v = (v, answer .wrongState) := if_pos h

theorem takeRelease_config (h : v.run.op = .config) : takeRelease m v = (v, answer .wrongState) := by
  unfold takeRelease
  rw [h]
  rfl

theorem takeEngage_unknown (h : v.run.op = .run) (hu : v.namesUnknown m = true) : takeEngage m v = (v, answer .badValue) := by
  unfold takeEngage
  rw [if_neg (not_not.mpr h), if_pos hu]

theorem takeRecapture_unknown (h : v.run.op = .run) (hu : v.namesUnknown m = true) :
    takeRecapture m v = (v, answer .badValue) := by
  unfold takeRecapture
  rw [if_neg (not_not.mpr h), if_pos hu]

theorem takeRelease_unknown (h : v.run.op.running = true) (hu : v.namesUnknown m = true) :
    takeRelease m v = (v, answer .badValue) := by
  unfold takeRelease
  rw [if_neg (by rw [h]; decide), if_pos hu]

end

section
variable {v : State}

theorem takeCommissionCell_locked (k : CellBlock) (h : v.store.locked = true) : takeCommissionCell k v = (v, answer .locked) :=
  if_pos h

theorem takeCommissionWrite_locked (n : Nat) (raw : RawStation) (h : v.store.locked = true) :
    takeCommissionWrite n raw v = (v, answer .locked) := if_pos h

theorem takeCommissionClear_locked (n : Nat) (h : v.store.locked = true) : takeCommissionClear n v = (v, answer .locked) := if_pos h

theorem takeStore_locked (h : v.store.locked = true) : takeStore v = (v, some (answer .locked)) := if_pos h

theorem takeLeaveConfig_locked (h : v.run.op ≠ .config) : takeLeaveConfig v = (v, answer .locked) := if_pos h

theorem takeCommissionCell_outOfRange {k : CellBlock} (h : v.store.locked = false) (hk : cellInRange k = false) :
    takeCommissionCell k v = (v, answer .badValue) := by
  unfold takeCommissionCell
  rw [h, hk]
  rfl

theorem takeCommissionWrite_outOfRange {n : Nat} {raw : RawStation} (h : v.store.locked = false)
    (hr : 8 ≤ n ∨ parseStation raw = none) : takeCommissionWrite n raw v = (v, answer .badValue) := by
  unfold takeCommissionWrite
  rw [if_neg (by rw [h]; decide)]
  rcases hr with hn | hp
  · rw [stationOf_eq_none hn]
  · rw [hp]
    cases stationOf n <;> rfl

theorem takeCommissionClear_outOfRange {n : Nat} (h : v.store.locked = false) (hn : 8 ≤ n) :
    takeCommissionClear n v = (v, answer .badValue) := by
  unfold takeCommissionClear
  rw [if_neg (by rw [h]; decide), stationOf_eq_none hn]

theorem takeStore_missing (h : v.store.locked = false) {x : MissingItem} (hm : v.missing = some x) :
    takeStore v = (v, some (missingAnswer x)) := by
  unfold takeStore
  rw [if_neg (by rw [h]; decide), hm]

theorem takeCommissionWrite_duplicate {n : Station} {raw : RawStation} {b : StationBlock} (h : v.store.locked = false)
    (hp : parseStation raw = some b) (hd : duplicatePosition v.store.blocks n b = true) :
    takeCommissionWrite n raw v = (v, answer .duplicatePosition) := by
  unfold takeCommissionWrite
  rw [if_neg (by rw [h]; decide), stationOf_lt n.isLt, hp]
  exact if_pos hd

end

/-! ### The answers -/

/-- A request whose owning rule refuses it is answered, and nothing else changes (R200, R202). -/
theorem refused_answered {s : State} {kind tag : Byte} {r : Request} {st : Status} (h : s.takes) (hk : kind.toNat < 128)
    (hb : r ≠ .badKind) (hl : r ≠ .badLength)
    (ht : takeBlock r (s.taking ⟨kind, tag, r⟩) = now (s.taking ⟨kind, tag, r⟩, answer st)) :
    request kind tag r s = .next (s.withReply (kind + 128#8) tag st []) :=
  read_answered s kind tag r st [] h hk hb hl ht

theorem startRun_refused (s : State) (tag : Byte) (mode runTag count : Nat) (m : Mask) (h : s.takes) (ht : runTag ≤ 255)
    (hc : count ≤ 1) :
    let refused (x : Status) : Prop := exec (.startRun tag mode runTag m count) s = .next (s.withReply 0x8C#8 tag x [])
    (s.run.op ≠ .ready → refused .wrongState) ∧
    (s.run.op = .ready → s.faults.reaction ≠ .none → refused .faultPending) ∧
    (s.run.op = .ready → s.faults.reaction = .none →
      (2 ≤ mode ∨ (∃ n : Station, inMask m n = true ∧ s.stations[n] = none) → refused .badValue) ∧
      (mode = 1 → (∀ n : Station, inMask m n = true → s.stations[n] ≠ none) → s.player.waiting = [] → refused .profileEmpty)) := by
  have go {x : Status} (hx : takeStartRun mode runTag m count (s.taking ⟨0x0C#8, tag, .startRun mode runTag m count⟩) =
      (s.taking ⟨0x0C#8, tag, .startRun mode runTag m count⟩, answer x)) :
      exec (.startRun tag mode runTag m count) s = .next (s.withReply 0x8C#8 tag x []) :=
    refused_answered h (by decide) nofun nofun (congrArg now hx)
  refine ⟨fun hop => go (takeStartRun_notReady hop), fun hop hf => go (takeStartRun_pending hop hf), fun hop hf =>
    ⟨fun hb => go (takeStartRun_badValue hop hf (hb.imp_right fun ⟨n, hm, hn⟩ => namesUnknown_of_unknown hm hn)), ?_⟩⟩
  rintro rfl hk hw
  exact go (takeStartRun_empty hop hf (namesUnknown_of_known hk) ht hc hw)

theorem moves_refused (s : State) (tag : Byte) (m : Mask) (h : s.takes) :
    (s.run.op ≠ .run → exec (.engage tag m) s = .next (s.withReply 0x8F#8 tag .wrongState []) ∧
      exec (.recapture tag m) s = .next (s.withReply 0x91#8 tag .wrongState [])) ∧
    (s.run.op = .config → exec (.release tag m) s = .next (s.withReply 0x90#8 tag .wrongState [])) ∧
    ∀ n : Station, inMask m n = true → s.stations[n] = none →
      (s.run.op = .run → exec (.engage tag m) s = .next (s.withReply 0x8F#8 tag .badValue []) ∧
        exec (.recapture tag m) s = .next (s.withReply 0x91#8 tag .badValue [])) ∧
      (s.run.op ≠ .config → exec (.release tag m) s = .next (s.withReply 0x90#8 tag .badValue [])) := by
  refine ⟨fun hop => ⟨?_, ?_⟩, fun hop => ?_, fun n hm hn => ⟨fun hop => ⟨?_, ?_⟩, fun hop => ?_⟩⟩
  · exact refused_answered h (by decide) nofun nofun (congrArg now (takeEngage_wrongState hop))
  · exact refused_answered h (by decide) nofun nofun (congrArg now (takeRecapture_wrongState hop))
  · exact refused_answered h (by decide) nofun nofun (congrArg now (takeRelease_config hop))
  · exact refused_answered h (by decide) nofun nofun (congrArg now (takeEngage_unknown hop (namesUnknown_of_unknown hm hn)))
  · exact refused_answered h (by decide) nofun nofun (congrArg now (takeRecapture_unknown hop (namesUnknown_of_unknown hm hn)))
  · exact refused_answered h (by decide) nofun nofun
      (congrArg now (takeRelease_unknown ((running_iff h.2).mpr hop) (namesUnknown_of_unknown hm hn)))

theorem locked_refused (s : State) (tag : Byte) (h : s.takes) (hl : s.store.locked = true) :
    (∀ k, exec (.commissionCell tag k) s = .next (s.withReply 0x83#8 tag .locked [])) ∧
    (∀ n b, exec (.commissionStationWrite tag n b) s = .next (s.withReply 0x84#8 tag .locked [])) ∧
    (∀ n, exec (.commissionStationClear tag n) s = .next (s.withReply 0x84#8 tag .locked [])) ∧
    exec (.storeCommissioning tag) s = .next (s.withReply 0x85#8 tag .locked []) := by
  refine ⟨fun k => ?_, fun n b => ?_, fun n => ?_, ?_⟩
  · exact refused_answered h (by decide) nofun nofun (congrArg now (takeCommissionCell_locked k hl))
  · exact refused_answered h (by decide) nofun nofun (congrArg now (takeCommissionWrite_locked n b hl))
  · exact refused_answered h (by decide) nofun nofun (congrArg now (takeCommissionClear_locked n hl))
  · exact refused_answered h (by decide) nofun nofun (takeStore_locked hl)

/-- STORE_COMMISSIONING of an incomplete set answers with the item that is missing (R190, R202). -/
theorem store_refused {s : State} {tag : Byte} (h : s.takes) (hl : s.store.locked = false) {x : MissingItem}
    (hx : s.missing = some x) : exec (.storeCommissioning tag) s = .next (s.withReply 0x85#8 tag .badValue x.fields) :=
  read_answered s 0x05#8 tag .storeCommissioning .badValue x.fields h (by decide) nofun nofun
    (takeStore_missing (v := s.taking ⟨0x05#8, tag, .storeCommissioning⟩) hl hx)

theorem unlocked_refused (s : State) (tag : Byte) (h : s.takes) (hl : s.store.locked = false) :
    (∀ k, cellInRange k = false → exec (.commissionCell tag k) s = .next (s.withReply 0x83#8 tag .badValue [])) ∧
    (∀ (n : Nat) (raw : RawStation), 8 ≤ n ∨ parseStation raw = none →
      exec (.commissionStationWrite tag n raw) s = .next (s.withReply 0x84#8 tag .badValue [])) ∧
    (∀ n, 8 ≤ n → exec (.commissionStationClear tag n) s = .next (s.withReply 0x84#8 tag .badValue [])) ∧
    (s.store.cell = none → exec (.storeCommissioning tag) s = .next (s.withReply 0x85#8 tag .badValue [.u8 0, .u8 0])) ∧
    (∀ (k : CellBlock) (n : Station), s.store.cell = some k → inMask k.mask n = true → s.store.blocks[n] = none →
      (∀ m : Station, m < n → inMask k.mask m = true → s.store.blocks[m] ≠ none) →
      exec (.storeCommissioning tag) s = .next (s.withReply 0x85#8 tag .badValue [.u8 1, .u8 n.val])) ∧
    (∀ (n m : Station) (raw : RawStation) (b x : StationBlock), parseStation raw = some b → m ≠ n →
      s.store.blocks[m] = some x → x.axle = b.axle → x.side = b.side →
      exec (.commissionStationWrite tag n raw) s = .next (s.withReply 0x84#8 tag .duplicatePosition [])) := by
  refine ⟨fun k hk => ?_, fun n raw hr => ?_, fun n hn => ?_, fun hc => ?_, fun k n hk hn hb hlow => ?_,
    fun n m raw b x hp hne hx ha hs => ?_⟩
  · exact refused_answered h (by decide) nofun nofun (congrArg now (takeCommissionCell_outOfRange hl hk))
  · exact refused_answered h (by decide) nofun nofun (congrArg now (takeCommissionWrite_outOfRange hl hr))
  · exact refused_answered h (by decide) nofun nofun (congrArg now (takeCommissionClear_outOfRange hl hn))
  · have hm : s.missing = some .cell := by
      unfold State.missing
      rw [hc]
    exact store_refused h hl hm
  · exact store_refused h hl (missing_station hk hn hb hlow)
  · exact refused_answered h (by decide) nofun nofun
      (congrArg now (takeCommissionWrite_duplicate hl hp (duplicatePosition_iff.mpr ⟨m, x, hne, hx, ha, hs⟩)))

/-- Settles O38: each rule refuses in its order and leaves the state as it met it. -/
theorem requestsAreRefused : Obligations.RequestsAreRefused :=
  ⟨startRun_refused, moves_refused, fun s tag h => ⟨locked_refused s tag h, fun hop =>
    refused_answered h (by decide) nofun nofun (congrArg now (takeLeaveConfig_locked hop)), unlocked_refused s tag h⟩⟩

end Sys2Proof.Machine
end

section
/-! O42: CLEAR_FAULT. -/

namespace Sys2Proof.Machine

/-! ### The fault list emptied and the stations cleared -/

theorem shownSpeed_updateFaults (g : Faults → Faults) (s : State) (v : Int) : shownSpeed (updateFaults g s) v = shownSpeed s v := by
  unfold shownSpeed updateFaults
  cases s.comp <;> rfl

theorem shownMonitor_updateFaults (g : Faults → Faults) (s : State) : shownMonitor (updateFaults g s) = shownMonitor s := by
  unfold shownMonitor updateFaults
  cases s.comp <;> rfl

/-- A change of the stations shown and of the faults shown commute. -/
theorem seenAfter_updateFaults (g : Faults → Faults) (s : State) (p : Station → StationRec → Bool)
    (f : StationRec → StationRec → StationRec) :
    seenAfter (updateFaults g s) p f = (seenAfter s p f).map fun k => { k with faultsBefore := g k.faultsBefore } := by
  unfold seenAfter updateFaults
  cases s.comp <;> rfl

/-- Every FAULTED station cleared: the records, the reports, what GET_STATION shows (R75). -/
theorem clearStations_told (s : State) :
    stationsBecome s (clearStations s) (fun _ r => r.state == .faulted) StationRec.toCleared ∧
      (clearStations s).port = s.port.tellAll s.params.reportLevel
        (stationReports s s.run.op (shownSpeed s s.axle.v) (shownMonitor s) .clearFault (fun _ r => r.state == .faulted)
          StationRec.toCleared s.run.count) ∧
      (clearStations s).comp = seenAfter s (fun _ r => r.state == .faulted) fun _ => StationRec.toCleared := by
  have he : clearStations s = eachStation
      (fun n r s => if (r.state == .faulted) = true then moveStation n r StationRec.toCleared .clearFault s else s) s := by
    unfold clearStations
    simp only [beq_iff_eq]
  obtain ⟨hst, hport, _⟩ := eachStation_move (fun _ r => r.state == .faulted) StationRec.toCleared .clearFault s
    (fun _ h => by cases h) fun _ => rfl
  have hcomp := eachStation_seen (fun _ r => r.state == .faulted) StationRec.toCleared .clearFault s
  rw [← he] at hst hport hcomp
  rw [axleSeen_speed, reportMonitor_byRequest s rfl] at hport
  exact ⟨hst, hport, hcomp⟩

/-- The reports of an accepted CLEAR_FAULT's moves. -/
def clearReports (s : State) : List Told :=
  stationReports s s.run.op (shownSpeed s s.axle.v) (shownMonitor s) .clearFault (fun _ r => r.state == .faulted)
    (fun r => { r with state := .idle, e := 0 }) s.run.count

/-- What GET_STATION and GET_STATUS show after those moves. -/
def clearedComp (s : State) : Option Computation :=
  (seenAfter s (fun _ r => r.state == .faulted) fun _ => StationRec.toCleared).map fun k =>
    { k with faultsBefore := k.faultsBefore.cleared }

/-- The fault list emptied, then the stations cleared: the state but for the port, and the reports. -/
theorem cleared_left (s : State) (q : Queued) :
    Left s { s with stations := (clearStations (updateFaults Faults.cleared (s.taking q))).stations, faults := s.faults.cleared,
                    comp := clearedComp s } q (clearReports s) (clearStations (updateFaults Faults.cleared (s.taking q))) ∧
      stationsBecome s (clearStations (updateFaults Faults.cleared (s.taking q))) (fun _ r => r.state == .faulted)
        StationRec.toCleared := by
  obtain ⟨hst, hport, hcomp⟩ := clearStations_told (updateFaults Faults.cleared (s.taking q))
  have hmoved := clearStations_moved (updateFaults Faults.cleared (s.taking q))
  rw [shownSpeed_updateFaults, shownMonitor_updateFaults] at hport
  rw [seenAfter_updateFaults] at hcomp
  generalize clearStations (updateFaults Faults.cleared (s.taking q)) = u at *
  refine ⟨⟨?_, hport⟩, hst⟩
  have hc : u.comp = clearedComp s := hcomp
  have hp : u.port = { (s.taking q).port with reports := u.port.reports, lost := u.port.lost } := by
    rw [hport]
    exact tellAll_frame _ _ _
  rw [← hc]
  conv_lhs => rw [hmoved.eq]
  unfold State.movedTo
  rw [show (updateFaults Faults.cleared (s.taking q)).port = (s.taking q).port from rfl, ← hp]
  rfl

/-! ### SAFE left for SETTLE -/

/-- SETTLE entered from SAFE with ESTOP released (R75, R132). -/
def safeLeft (u : State) : State := submitState .safe .clearFault none false (settleValues u)

/-- SETTLE's values in place of a state's. -/
def settledAs (s : State) : State :=
  { s with
    run := { s.run with op := .settle, settleCount := 0, settleTimer := 0 }, stations := missCleared s.stations
    axle := { s.axle with v := 0 }, pins := { s.pins with driveEnable := false }, comp := missless s }

theorem safeLeft_left {s s' : State} {q : Queued} {l : List Told} {u : State} (h : Left s s' q l u) (hp : s'.params = s.params) :
    Left s (settledAs s') q (l ++ [stateReport s'.run .safe .settle .clearFault]) (safeLeft u) := by
  have hport : (safeLeft u).port = u.port.tellAll u.params.reportLevel [stateReport u.run .safe .settle .clearFault] := by
    unfold safeLeft
    rw [submitState_eq, submit_port_tellAll]
    rfl
  have hframe : safeLeft u = { settledAs u with port := (safeLeft u).port } := by
    unfold safeLeft settledAs
    rw [submitState_eq, submit_tell, ← missless_eq]
    rfl
  have hu := h.frame
  refine ⟨?_, ?_⟩
  · rw [hframe]
    generalize (safeLeft u).port = x
    rw [hu]
    rfl
  · rw [hport, h.port, tellAll_append, hu]
    exact congrArg (fun k : Params => Port.tellAll k.reportLevel _ _) hp

/-- GET_STATION shows every miss streak 0 after an entry to SETTLE (R79, R80). -/
theorem stationSeen_settledAs {s t : State} (hst : t.stations = (settledAs s).stations) (hc : t.comp = (settledAs s).comp)
    {n : Station} {r : StationRec} (h : t.stationSeen n = some r) : r.miss = 0 := by
  have hmiss : ∀ v : Vector (Option StationRec) 8, (missCleared v)[n] = some r → r.miss = 0 := fun v hv => by
    rw [missCleared_get, Option.map_eq_some_iff] at hv
    obtain ⟨x, _, rfl⟩ := hv
    rfl
  have hc' : t.comp = s.comp.map fun k => { k with recordsBefore := missCleared k.recordsBefore } := hc.trans (missless_eq s).symm
  unfold State.stationSeen at h
  cases hs : s.comp with
  | none =>
    rw [hs] at hc'
    rw [hc', hst] at h
    exact hmiss _ h
  | some k =>
    rw [hs] at hc'
    rw [hc'] at h
    exact hmiss _ h

/-! ### The request -/

/-- A reply tells of the state it leaves. -/
theorem repliedBy.own {s t : State} {kind tag : Byte} {st : Status} {fs : List Field} (h : repliedBy s t kind tag st fs) :
    repliedBy { s with run := t.run, stations := t.stations } t kind tag st fs := by
  have hrun : t.run = s.run := by rw [h]; rfl
  have hst : t.stations = s.stations := by rw [h]; rfl
  rw [hrun, hst]
  exact h

section
variable {v : State}

theorem takeClearFault_inRun (h : v.run.op = .run ∨ v.run.op = .stopping) : takeClearFault v = (v, answer .wrongState) := by
  unfold takeClearFault
  rcases h with h | h <;> rw [h]

theorem takeClearFault_config (h : v.run.op = .config) : takeClearFault v = (updateFaults Faults.cleared v, answer .ok) := by
  unfold takeClearFault
  rw [h]

theorem takeClearFault_estop (h : v.run.op = .settle ∨ v.run.op = .ready ∨ v.run.op = .safe) (he : v.pins.estop = true) :
    takeClearFault v = (v, answer .causePresent) := by
  unfold takeClearFault
  rcases h with h | h | h <;> simp only [h, he, if_true]

theorem takeClearFault_stays (h : v.run.op = .settle ∨ v.run.op = .ready) (he : v.pins.estop = false) :
    takeClearFault v = (clearStations (updateFaults Faults.cleared v), answer .ok) := by
  unfold takeClearFault
  rcases h with h | h <;> rw [h] <;> simp [he]

theorem takeClearFault_safe (h : v.run.op = .safe) (he : v.pins.estop = false) :
    takeClearFault v = (safeLeft (clearStations (updateFaults Faults.cleared v)), answer .ok) := by
  have hpins : (clearStations (updateFaults Faults.cleared v)).pins.estop = false := by
    rw [(clearStations_moved (updateFaults Faults.cleared v)).pins]
    exact he
  unfold takeClearFault
  rw [h]
  simp only [he, Bool.false_eq_true, if_false, if_true]
  generalize clearStations (updateFaults Faults.cleared v) = u at hpins ⊢
  have hsub : (safeLeft u).pins.estop = false := by
    unfold safeLeft
    rw [submitState_eq, submit_tell]
    exact hpins
  exact congrArg (fun x => (x, answer .ok)) (checkEstop_released _ hsub)

end

/-- Settles O42: the refusals, the list emptied in CONFIG, the stations cleared elsewhere, and SAFE left for SETTLE. -/
theorem clearFaultActs : Obligations.ClearFaultActs := by
  intro s tag h
  have refused {st : Status} (hx : takeClearFault (s.taking ⟨0x1C#8, tag, .clearFault⟩) =
      (s.taking ⟨0x1C#8, tag, .clearFault⟩, answer st)) :
      exec (.clearFault tag) s = .next (s.withReply 0x9C#8 tag st []) :=
    refused_answered h (by decide) nofun nofun (congrArg now hx)
  obtain ⟨hleft, hst⟩ := cleared_left s ⟨0x1C#8, tag, .clearFault⟩
  have hstay := takeClearFault_stays (v := s.taking ⟨0x1C#8, tag, .clearFault⟩)
  have hsafe := takeClearFault_safe (v := s.taking ⟨0x1C#8, tag, .clearFault⟩)
  generalize clearStations (updateFaults Faults.cleared (s.taking ⟨0x1C#8, tag, .clearFault⟩)) = u at *
  dsimp only
  refine ⟨fun hop => refused (takeClearFault_inRun hop), fun hop he => refused (takeClearFault_estop hop he), fun hop => ?_,
    fun hop he => ?_⟩
  · obtain ⟨⟨_, _, h3, h4, h5⟩, _⟩ := id h
    have hanswer := request_answered s (updateFaults Faults.cleared (s.taking ⟨0x1C#8, tag, .clearFault⟩)) 0x1C#8 tag .clearFault
      .ok [] h (by decide) nofun nofun
      (congrArg now (takeClearFault_config (v := s.taking ⟨0x1C#8, tag, .clearFault⟩) hop)) rfl h3 h4 h5 rfl
    exact hanswer
  · have hcases : s.run.op = .safe ∨ s.run.op = .settle ∨ s.run.op = .ready := by tauto
    have hrec (n : Station) : u.stations[n] = s.stations[n].map fun r => if r.state = .faulted then r.toCleared else r := by
      rw [hst n]
      simp only [beq_iff_eq]
    rcases hcases with hop | hop
    · have hl := safeLeft_left hleft rfl
      obtain ⟨h1, h2, h3⟩ := request_told (kind := 0x1C#8) (r := .clearFault) (st := .ok) (fs := []) h (by decide) nofun nofun
        (congrArg now (hsafe hop he)) hl rfl rfl
      have hu := hl.frame
      have hstations : (safeLeft u).stations = missCleared u.stations := by rw [hu]; rfl
      have hrun : (safeLeft u).run = { s.run with op := .settle, settleCount := 0, settleTimer := 0 } := by rw [hu]; rfl
      have hcomp : (safeLeft u).comp = (settledAs { s with comp := clearedComp s }).comp := by rw [hu]; rfl
      simp only [hop, if_true]
      refine ⟨_, h1, fun n => ?_, fun _ n r hr => ?_, ?_, hrun, ?_⟩
      · show (safeLeft u).stations[n] = _
        rw [hstations, missCleared_get, hrec, Option.map_map]
        rfl
      · exact stationSeen_settledAs (s := { s with stations := u.stations, comp := clearedComp s }) hstations hcomp hr
      · unfold clearReports at h2
        rw [hop] at h2
        exact h2
      · exact h3.own
    · have hne : s.run.op ≠ .safe := by rcases hop with e | e <;> rw [e] <;> decide
      obtain ⟨h1, h2, h3⟩ := request_told (kind := 0x1C#8) (r := .clearFault) (st := .ok) (fs := []) h (by decide) nofun nofun
        (congrArg now (hstay hop he)) hleft rfl rfl
      have hu := hleft.frame
      have hrun : u.run = s.run := by rw [hu]
      simp only [hne, if_false]
      refine ⟨_, h1, hrec, fun hs => hs.elim, ?_, hrun, ?_⟩
      · rw [List.append_nil]
        exact h2
      · exact h3.own

end Sys2Proof.Machine
end

section
/-! SUPPORT. The judging of one observation: what the acceptance, the miss and the tests that follow make of a record. -/

namespace Sys2Proof.Machine

variable {n : Station} {p : Params} {op : OpState}

/-! ### A station faulted (R71, R72) -/

theorem faultCommandOf_some (op : OpState) (c : StationCause) : faultCommandOf op (some c) =
    if (op = .run ∨ op = .stopping) ∧ (c = .slipTime ∨ c = .errorClamp ∨ c = .captureFail) then .follow else .torqueOff := by
  cases c <;> simp [faultCommandOf, inRun_iff]

/-- The detail of a station's raise: the trip code of a DRIVE_TRIP (R70). -/
def faultDetail (x : StationRec) (c : StationCause) : Option Detail :=
  match c with | .driveTrip => some (.trip (x.trip.getD 0)) | _ => none

theorem fault_eq (x : StationRec) (c : StationCause) :
    (⟨x, []⟩ : Judging).fault n op c = faultedAs n op x.state x c c.kind (faultDetail x c) := by
  unfold Judging.fault Judging.move StationRec.toFaulted faultedAs
  rw [faultCommandOf_some]
  cases c <;> rfl

/-! ### The tests after an observation (R65 to R69) -/

/-- The capture, window and timer tests of a station that began its stage in this lock state. -/
def Judging.tests (j : Judging) (n : Station) (p : Params) (op : OpState) (speed : Option Int) (began : LockState) : Judging :=
  ((j.captureStep n p op speed).windows p).slipStep n p op began

theorem captureStep_of_ne {j : Judging} {speed : Option Int} (h : j.r.state ≠ .capture) : j.captureStep n p op speed = j := if_neg h

theorem slipStep_of_ne {j : Judging} {began : LockState} (h : began ≠ .slip ∨ j.r.state ≠ .slip) :
    j.slipStep n p op began = j := if_neg fun ⟨hb, hs⟩ => h.elim (· hb) (· hs)

theorem windows_of_not_geared {j : Judging} (h : j.r.state.geared = false) : j.windows p = j := by
  unfold Judging.windows
  split
  · rename_i hs; rw [hs] at h; cases h
  · rename_i hs; rw [hs] at h; cases h
  · rfl

theorem windows_of_locked {j : Judging} (h : j.r.state = .locked) : j.windows p =
    if p.slipWindow < j.r.e.natAbs then j.move { j.r with state := .slip, slipTimer := 0 } .slipped else j := by
  unfold Judging.windows
  rw [h]

theorem windows_of_slip {j : Judging} (h : j.r.state = .slip) : j.windows p =
    if j.r.e.natAbs ≤ p.lockWindow then j.move { j.r with state := .locked, slipTimer := 0 } .relocked else j := by
  unfold Judging.windows
  rw [h]

variable {x : StationRec} {es : List StationEvent} {speed : Option Int} {began : LockState}

/-- In IDLE and FAULTED nothing moves. -/
theorem tests_still (h : x.state = .idle ∨ x.state = .faulted) : (⟨x, es⟩ : Judging).tests n p op speed began = ⟨x, es⟩ := by
  have hc : x.state ≠ .capture := by rcases h with h | h <;> rw [h] <;> nofun
  have hs : x.state ≠ .slip := by rcases h with h | h <;> rw [h] <;> nofun
  have hg : x.state.geared = false := by rcases h with h | h <;> rw [h] <;> rfl
  unfold Judging.tests
  rw [captureStep_of_ne hc, windows_of_not_geared hg, slipStep_of_ne (.inr hs)]

theorem tests_locked_near (h : x.state = .locked) (he : x.e.natAbs ≤ p.slipWindow) :
    (⟨x, es⟩ : Judging).tests n p op speed began = ⟨x, es⟩ := by
  unfold Judging.tests
  rw [captureStep_of_ne (by rw [h]; nofun), windows_of_locked h, if_neg (not_lt.mpr he),
    slipStep_of_ne (.inr (by rw [h]; nofun))]

theorem tests_locked_far (h : x.state = .locked) (he : p.slipWindow < x.e.natAbs) (hb : began ≠ .slip) :
    (⟨x, es⟩ : Judging).tests n p op speed began =
      ⟨{ x with state := .slip, slipTimer := 0 }, es ++ [.changed .locked { x with state := .slip, slipTimer := 0 } .slipped]⟩ := by
  unfold Judging.tests
  rw [captureStep_of_ne (by rw [h]; nofun), windows_of_locked h, if_pos he, slipStep_of_ne (.inl hb), ← h]
  rfl

theorem tests_slip_near (h : x.state = .slip) (he : x.e.natAbs ≤ p.lockWindow) :
    (⟨x, es⟩ : Judging).tests n p op speed began =
      ⟨{ x with state := .locked, slipTimer := 0 }, es ++ [.changed .slip { x with state := .locked, slipTimer := 0 } .relocked]⟩ := by
  unfold Judging.tests
  rw [captureStep_of_ne (by rw [h]; nofun), windows_of_slip h, if_pos he,
    slipStep_of_ne (.inr (show LockState.locked ≠ .slip by nofun)), ← h]
  rfl

/-- Still in SLIP, the timer runs (R69). -/
theorem tests_slip_far (h : x.state = .slip) (he : p.lockWindow < x.e.natAbs) :
    (⟨x, es⟩ : Judging).tests n p op speed .slip =
      if p.slipTime < min 65535 (x.slipTimer + 1) then
        (⟨{ x with slipTimer := min 65535 (x.slipTimer + 1) }, es⟩ : Judging).fault n op .slipTime
      else ⟨{ x with slipTimer := min 65535 (x.slipTimer + 1) }, es⟩ := by
  unfold Judging.tests
  rw [captureStep_of_ne (by rw [h]; nofun), windows_of_slip h, if_neg (not_le.mpr he)]
  exact if_pos ⟨rfl, h⟩

/-- The capture streak after a judging (R65). -/
theorem tests_capture (h : x.state = .capture) : (⟨x, es⟩ : Judging).tests n p op speed .capture =
    if p.captureCycles ≤ x.nextStreak p.captureWindow speed then
      ⟨({ x with streak := x.nextStreak p.captureWindow speed } : StationRec).toLocked, es ++
        [.changed .capture ({ x with streak := x.nextStreak p.captureWindow speed } : StationRec).toLocked .captured]⟩
    else if p.captureLimit < x.age then
      (⟨{ x with streak := x.nextStreak p.captureWindow speed }, es⟩ : Judging).fault n op .captureFail
    else ⟨{ x with streak := x.nextStreak p.captureWindow speed }, es⟩ := by
  unfold Judging.tests
  rw [slipStep_of_ne (began := .capture) (.inl (by decide))]
  unfold Judging.captureStep
  rw [if_pos h]
  dsimp only [Judging.put]
  split
  · rw [windows_of_locked rfl, if_neg (by simp [Judging.move, StationRec.toLocked]), ← h]
    rfl
  · split
    · exact windows_of_not_geared rfl
    · exact windows_of_not_geared (by show x.state.geared = false; rw [h]; rfl)

/-! ### The stage's beginning (R49) -/

theorem beginStage_eq (r : StationRec) : r.beginStage =
    { r with tLast := if r.state = .locked ∨ r.state = .slip then r.tNext else r.tLast, since := min 65535 (r.since + 1),
             age := if r.state = .capture then min 65535 (r.age + 1) else r.age } := by
  unfold StationRec.beginStage
  simp only [LockState.geared_iff]
  rfl

/-- No trim change: the stage begins and the observation is judged. -/
theorem judge_unchanged {now : Word32} {obs : Observation} {r : StationRec} (h : p.circTrim[n] = r.trimPpm) :
    judge n p op now obs r = (⟨r.beginStage, []⟩ : Judging).observe n p op now obs := by
  have ht : trimChange p.circTrim[n] r = ⟨r, []⟩ := if_pos h
  unfold judge
  rw [ht]
  rfl

theorem expected_beginStage {r : StationRec} (h : r.state ≠ .faulted) : r.beginStage.expected = some (expectedMove r) := by
  rw [beginStage_eq]
  unfold StationRec.expected expectedMove
  cases hs : r.state with
  | idle => simp
  | capture => simp
  | locked => simp
  | slip => simp
  | faulted => exact absurd hs h

/-! ### An observation accepted (R53, R54, R70) -/

/-- The record an accepted observation leaves before the tests, pos being the position measured. -/
def StationRec.acceptedWith (r : StationRec) (pos : Int) (now count : Word32) (force : Int) (drive : DriveState) (trip : Nat) :
    StationRec :=
  { r with tLast := if r.state = .locked ∨ r.state = .slip then r.tNext else r.tLast
           tAccept := if r.state = .locked ∨ r.state = .slip then r.tNext else r.tAccept
           e := if r.state = .locked ∨ r.state = .slip then r.tNext - pos else r.e
           age := if r.state = .capture then min 65535 (r.age + 1) else r.age
           measured := pos, baseline := true, lastRaw := count, lastAt := now, since := 0, miss := 0, judgement := some .accepted
           force := some force, drive := some drive, trip := some trip }

/-- The position an observation's count gives (R49, R53). -/
def StationRec.position (r : StationRec) (count : Word32) : Int :=
  if r.baseline then r.measured + countDelta count r.lastRaw else count.toNat

/-- The observation's count passes the plausibility check (R51, R52). -/
def passes (r : StationRec) (limit : Nat) (count : Word32) : Prop :=
  r.state = .faulted ∨ r.baseline = false ∨ (countDelta count r.lastRaw - expectedMove r).natAbs ≤ limit

/-- The observation measures a speed where there is a count to compare it with (R65). -/
def speedMeasured (r : StationRec) (count : Word32) : Option Int :=
  if r.baseline then some ((countDelta count r.lastRaw * 256).tdiv (min 65535 (r.since + 1) : Nat)) else none

theorem plausible_beginStage {r : StationRec} {limit : Nat} {count : Word32} :
    r.beginStage.plausible limit count = true ↔ passes r limit count := by
  have hb : r.beginStage.baseline = r.baseline := rfl
  have hl : r.beginStage.lastRaw = r.lastRaw := rfl
  unfold StationRec.plausible passes
  rw [hb, hl]
  by_cases hs : r.state = .faulted
  · have he : r.beginStage.expected = none := by
      unfold StationRec.expected
      rw [show r.beginStage.state = r.state from rfl, hs]
    simp [he, hs]
  · rw [expected_beginStage hs]
    simp [hs]

theorem moved_beginStage {r : StationRec} {count : Word32} (h1 : -9223372036854775808 ≤ r.position count)
    (h2 : r.position count ≤ 9223372036854775807) : r.beginStage.moved count = r.position count := by
  have hm : r.beginStage.measured = r.measured := rfl
  have hb : r.beginStage.baseline = r.baseline := rfl
  have hl : r.beginStage.lastRaw = r.lastRaw := rfl
  unfold StationRec.position at h1 h2 ⊢
  unfold StationRec.moved
  rw [hm, hb, hl]
  split
  · rename_i hbase
    rw [if_pos hbase] at h1 h2
    exact narrow64_within h1 h2
  · rfl

theorem limitMag_within {m d : Int} (h : (d.natAbs : Int) ≤ m) : limitMag m d = d := by
  rw [limitMag_eq m d (by omega)]
  omega

theorem limitMag_beyond {m d : Int} (hm : 0 ≤ m) (h : m < (d.natAbs : Int)) : limitMag m d = d.sign * m := by
  rw [limitMag_eq m d hm]
  rcases lt_trichotomy d 0 with hd | hd | hd
  · rw [Int.sign_eq_neg_one_of_neg hd]
    omega
  · omega
  · rw [Int.sign_eq_one_of_pos hd]
    omega

variable {now count : Word32} {force : Int} {drive : DriveState} {trip : Nat} {resp : Option ServiceResponse} {r : StationRec}

/-- A valid observation that passes is accepted, and the tests follow. -/
theorem observe_accepted (ht : p.circTrim[n] = r.trimPpm) (hp : passes r p.jumpLimit count) :
    judge n p op now (.valid count force drive trip resp) r =
      ((⟨r.beginStage, []⟩ : Judging).accept n op now count force drive trip).tests n p op (speedMeasured r count) r.state := by
  rw [judge_unchanged ht]
  unfold Judging.observe
  dsimp only
  rw [if_pos (plausible_beginStage.mpr hp)]
  rfl

/-- The acceptance up to its position error. -/
theorem formError_taken (h1 : -9223372036854775808 ≤ r.position count) (h2 : r.position count ≤ 9223372036854775807) :
    (⟨r.beginStage.take now count force drive trip, []⟩ : Judging).formError n op =
      if (r.state = .locked ∨ r.state = .slip) ∧ 16777215 < (r.tNext - r.position count).natAbs then
        faultedAs n op r.state { r.acceptedWith (r.position count) now count force drive trip with
          e := (r.tNext - r.position count).sign * 16777215 } .errorClamp .stationSlip none
      else ⟨r.acceptedWith (r.position count) now count force drive trip, []⟩ := by
  have htake : r.beginStage.take now count force drive trip =
      { r.beginStage with measured := r.position count, baseline := true, lastRaw := count, lastAt := now, since := 0, miss := 0,
                          judgement := some .accepted, force := some force, drive := some drive, trip := some trip } := by
    unfold StationRec.take
    rw [moved_beginStage h1 h2]
  rw [htake, beginStage_eq]
  unfold Judging.formError
  by_cases hg : r.state = .locked ∨ r.state = .slip
  · rw [if_pos ((LockState.geared_iff _).mpr hg)]
    simp only [hg, if_true, true_and, errorLimit]
    by_cases hd : 16777215 < (r.tNext - r.position count).natAbs
    · rw [if_pos hd, if_pos (by omega)]
      rw [limitMag_beyond (by decide) (by omega)]
      refine (fault_eq _ _).trans ?_
      unfold StationRec.acceptedWith
      simp only [hg, if_true]
      rfl
    · rw [if_neg hd, if_neg (by omega), limitMag_within (by omega)]
      unfold StationRec.acceptedWith
      simp only [hg, if_true]
      rfl
  · rw [if_neg (fun h => hg ((LockState.geared_iff _).mp h))]
    unfold StationRec.acceptedWith
    simp only [hg, if_false, false_and]

theorem tripped_of_not {j : Judging} (h : drive ≠ .tripped ∨ j.r.state = .faulted ∧ j.r.cause = some .driveTrip) :
    j.tripped n op drive = j := if_neg fun ⟨hd, hn⟩ => h.elim (· hd) hn

/-- Accepted and within the error limit: the tests judge the record. -/
theorem judge_accepted (ht : p.circTrim[n] = r.trimPpm) (hp : passes r p.jumpLimit count)
    (h1 : -9223372036854775808 ≤ r.position count) (h2 : r.position count ≤ 9223372036854775807)
    (he : r.state = .locked ∨ r.state = .slip → (r.tNext - r.position count).natAbs ≤ 16777215)
    (hd : drive ≠ .tripped ∨ r.state = .faulted ∧ r.cause = some .driveTrip) :
    judge n p op now (.valid count force drive trip resp) r =
      (⟨r.acceptedWith (r.position count) now count force drive trip, []⟩ : Judging).tests n p op (speedMeasured r count) r.state := by
  rw [observe_accepted ht hp]
  unfold Judging.accept
  refine congrArg (fun j : Judging => j.tests n p op (speedMeasured r count) r.state) ?_
  have hform := formError_taken (n := n) (op := op) (now := now) (force := force) (drive := drive) (trip := trip) h1 h2
  rw [if_neg fun ⟨hg, hlt⟩ => absurd (he hg) (not_le.mpr hlt)] at hform
  exact (congrArg (fun j : Judging => j.tripped n op drive) hform).trans (tripped_of_not hd)

/-- Beyond the error limit a geared station is faulted with ERROR_CLAMP (R54). -/
theorem judge_clamped (ht : p.circTrim[n] = r.trimPpm) (hp : passes r p.jumpLimit count)
    (h1 : -9223372036854775808 ≤ r.position count) (h2 : r.position count ≤ 9223372036854775807)
    (hg : r.state = .locked ∨ r.state = .slip) (he : 16777215 < (r.tNext - r.position count).natAbs) (hd : drive ≠ .tripped) :
    judge n p op now (.valid count force drive trip resp) r =
      faultedAs n op r.state { r.acceptedWith (r.position count) now count force drive trip with
        e := (r.tNext - r.position count).sign * 16777215 } .errorClamp .stationSlip none := by
  rw [observe_accepted ht hp]
  unfold Judging.accept
  have hform := formError_taken (n := n) (op := op) (now := now) (force := force) (drive := drive) (trip := trip) h1 h2
  rw [if_pos ⟨hg, he⟩] at hform
  have hacc := (congrArg (fun j : Judging => j.tripped n op drive) hform).trans (tripped_of_not (.inl hd))
  refine (congrArg (fun j : Judging => j.tests n p op (speedMeasured r count) r.state) hacc).trans ?_
  exact tests_still (.inr rfl)

/-- A TRIPPED drive faults the station (R70). -/
theorem judge_tripped (ht : p.circTrim[n] = r.trimPpm) (hp : passes r p.jumpLimit count)
    (h1 : -9223372036854775808 ≤ r.position count) (h2 : r.position count ≤ 9223372036854775807)
    (he : r.state = .locked ∨ r.state = .slip → (r.tNext - r.position count).natAbs ≤ 16777215)
    (hd : ¬(r.state = .faulted ∧ r.cause = some .driveTrip)) :
    judge n p op now (.valid count force .tripped trip resp) r =
      faultedAs n op r.state (r.acceptedWith (r.position count) now count force .tripped trip) .driveTrip .driveTrip
        (some (.trip trip)) := by
  rw [observe_accepted ht hp]
  unfold Judging.accept
  have hform := formError_taken (n := n) (op := op) (now := now) (force := force) (drive := .tripped) (trip := trip) h1 h2
  rw [if_neg fun ⟨hg, hlt⟩ => absurd (he hg) (not_le.mpr hlt)] at hform
  have htrip : (⟨r.acceptedWith (r.position count) now count force .tripped trip, []⟩ : Judging).tripped n op .tripped =
      faultedAs n op r.state (r.acceptedWith (r.position count) now count force .tripped trip) .driveTrip .driveTrip
        (some (.trip trip)) := (if_pos ⟨rfl, hd⟩).trans (fault_eq _ _)
  have hacc := (congrArg (fun j : Judging => j.tripped n op .tripped) hform).trans htrip
  refine (congrArg (fun j : Judging => j.tests n p op (speedMeasured r count) r.state) hacc).trans ?_
  exact tests_still (.inr rfl)

/-! ### An observation missed (R55, R56) -/

/-- The record a missed observation leaves before the tests. -/
def StationRec.missedWith (r : StationRec) (cause : MissCause) (miss : Nat) : StationRec :=
  { r with tLast := if r.state = .locked ∨ r.state = .slip then r.tNext else r.tLast, since := min 65535 (r.since + 1),
           age := if r.state = .capture then min 65535 (r.age + 1) else r.age, miss := miss, judgement := some (.missed cause) }

/-- The observation is not accepted, for this cause (R51, R52, R55). -/
def misses (r : StationRec) (p : Params) (cause : MissCause) (obs : Observation) : Prop :=
  (cause = .silent ∧ obs = .silent) ∨ (cause = .disagree ∧ obs = .disagree) ∨
    (cause = .jump ∧ r.state ≠ .faulted ∧ r.baseline = true ∧ ∃ count force drive trip resp,
      obs = .valid count force drive trip resp ∧ p.jumpLimit < (countDelta count r.lastRaw - expectedMove r).natAbs)

/-- The station's state counts a miss (R55). -/
def counts (r : StationRec) (op : OpState) : Prop := op ≠ .settle ∧ (r.state ≠ .faulted ∨ r.faultCommand = .follow)

theorem countsMiss_iff (r : StationRec) (op : OpState) : r.countsMiss op = true ↔ counts r op := by
  simp [StationRec.countsMiss, counts]

variable {cause : MissCause} {obs : Observation}

theorem judge_missed (ht : p.circTrim[n] = r.trimPpm) (hm : misses r p cause obs) :
    judge n p op now obs r =
      ((⟨r.beginStage, []⟩ : Judging).missed n op p.missLimit cause).tests n p op none r.state := by
  rw [judge_unchanged ht]
  rcases hm with ⟨rfl, rfl⟩ | ⟨rfl, rfl⟩ | ⟨rfl, hs, hb, count, force, drive, trip, resp, rfl, hj⟩
  · rfl
  · rfl
  · have hn : ¬passes r p.jumpLimit count := by
      rintro (h | h | h)
      · exact hs h
      · rw [hb] at h
        cases h
      · omega
    unfold Judging.observe
    dsimp only
    rw [if_neg (fun h => hn (plausible_beginStage.mp h))]
    rfl

/-- A station that has missed too many observations is lost (R56). -/
theorem judge_lost (ht : p.circTrim[n] = r.trimPpm) (hm : misses r p cause obs) (hc : counts r op)
    (hl : p.missLimit < min 16 (r.miss + 1)) :
    judge n p op now obs r =
      faultedAs n op r.state (r.missedWith cause (min 16 (r.miss + 1))) (lostCause cause) .stationLost none := by
  have hmissed : (⟨r.beginStage, []⟩ : Judging).missed n op p.missLimit cause =
      (⟨r.missedWith cause (min 16 (r.miss + 1)), []⟩ : Judging).fault n op (lostCause cause) := by
    unfold Judging.missed
    dsimp only
    refine (if_pos ((countsMiss_iff r op).mpr hc)).trans ((if_pos hl).trans ?_)
    rw [beginStage_eq]
    rfl
  have hfault : (⟨r.missedWith cause (min 16 (r.miss + 1)), []⟩ : Judging).fault n op (lostCause cause) =
      faultedAs n op r.state (r.missedWith cause (min 16 (r.miss + 1))) (lostCause cause) .stationLost none := by
    rw [fault_eq]
    cases cause <;> rfl
  rw [judge_missed ht hm, hmissed, hfault]
  exact tests_still (.inr rfl)

/-- A miss that is not one too many: the tests judge the record. -/
theorem judge_overlooked (ht : p.circTrim[n] = r.trimPpm) (hm : misses r p cause obs) {miss : Nat}
    (hc : counts r op → miss = min 16 (r.miss + 1) ∧ miss ≤ p.missLimit) (hn : ¬counts r op → miss = r.miss) :
    judge n p op now obs r = (⟨r.missedWith cause miss, []⟩ : Judging).tests n p op none r.state := by
  rw [judge_missed ht hm]
  refine congrArg (fun j : Judging => j.tests n p op none r.state) ?_
  unfold Judging.missed
  dsimp only
  by_cases h : counts r op
  · obtain ⟨rfl, hle⟩ := hc h
    refine (if_pos ((countsMiss_iff r op).mpr h)).trans ((if_neg (not_lt.mpr hle)).trans ?_)
    rw [beginStage_eq]
    rfl
  · refine (if_neg fun hx => h ((countsMiss_iff r op).mp hx)).trans ?_
    rw [hn h, beginStage_eq]
    rfl

end Sys2Proof.Machine
end

section
/-! O54: the judging in every lock state. -/

namespace Sys2Proof.Machine

variable {n : Station} {p : Params} {op : OpState} {now count : Word32} {force : Int} {drive : DriveState} {trip : Nat}
  {r : StationRec}

/-! ### The tests on an accepted observation (R65 to R69) -/

theorem expectedMove_geared (h : r.state = .locked ∨ r.state = .slip) : expectedMove r = r.tNext - r.tAccept := if_pos h

theorem position_baseline (h : r.baseline = true) : r.position count = r.measured + countDelta count r.lastRaw := if_pos h

theorem acceptedWith_e (h : r.state = .locked ∨ r.state = .slip) (pos : Int) :
    (r.acceptedWith pos now count force drive trip).e = r.tNext - pos := if_pos h

/-- The streak of an accepted observation: up by one within the window, from 0 again otherwise (R65). -/
theorem nextStreak_accepted (pos : Int) (window : Nat) :
    (r.acceptedWith pos now count force drive trip).nextStreak window (speedMeasured r count) =
      if r.baseline = true ∧
        ((countDelta count r.lastRaw * 256).tdiv (min 65535 (r.since + 1) : Nat) - r.intervalFf).natAbs ≤ window
      then min 64 (r.streak + 1) else 0 := by
  unfold speedMeasured
  cases hb : r.baseline with
  | false => simp [StationRec.nextStreak]
  | true =>
    simp only [if_true, true_and]
    rfl

/-- A station faulted by a test has its record from before it, whatever the test has counted. -/
theorem fault_slipTime {x : StationRec} (k : Nat) (h : x.state = .slip) :
    (⟨{ x with slipTimer := k }, []⟩ : Judging).fault n op .slipTime = faultedAs n op .slip x .slipTime .stationSlip none := by
  rw [fault_eq, ← h]
  rfl

theorem fault_captureFail {x : StationRec} (k : Nat) (h : x.state = .capture) :
    (⟨{ x with streak := k }, []⟩ : Judging).fault n op .captureFail =
      faultedAs n op .capture x .captureFail .captureFail none := by
  rw [fault_eq, ← h]
  rfl

section
variable {x : StationRec} {speed : Option Int}

theorem tests_slip_waits (h : x.state = .slip) (he : p.lockWindow < x.e.natAbs) (ht : x.slipTimer + 1 ≤ p.slipTime)
    (hs : p.slipTime ≤ 65534) :
    (⟨x, []⟩ : Judging).tests n p op speed .slip = ⟨{ x with slipTimer := x.slipTimer + 1 }, []⟩ := by
  have hk : min 65535 (x.slipTimer + 1) = x.slipTimer + 1 := by omega
  rw [tests_slip_far h he, hk, if_neg (by omega)]

theorem tests_slip_faults (h : x.state = .slip) (he : p.lockWindow < x.e.natAbs) (ht : p.slipTime < min 65535 (x.slipTimer + 1)) :
    (⟨x, []⟩ : Judging).tests n p op speed .slip = faultedAs n op .slip x .slipTime .stationSlip none := by
  rw [tests_slip_far h he, if_pos ht, fault_slipTime _ h]

theorem tests_capture_completes {k : Nat} (h : x.state = .capture) (hk : x.nextStreak p.captureWindow speed = k)
    (hc : p.captureCycles ≤ k) : (⟨x, []⟩ : Judging).tests n p op speed .capture =
      ⟨({ x with streak := k } : StationRec).toLocked,
        [.changed .capture ({ x with streak := k } : StationRec).toLocked .captured]⟩ := by
  rw [tests_capture h, hk, if_pos hc]
  rfl

theorem tests_capture_waits {k : Nat} (h : x.state = .capture) (hk : x.nextStreak p.captureWindow speed = k)
    (hc : k < p.captureCycles) (ha : x.age ≤ p.captureLimit) :
    (⟨x, []⟩ : Judging).tests n p op speed .capture = ⟨{ x with streak := k }, []⟩ := by
  rw [tests_capture h, hk, if_neg (by omega), if_neg (by omega)]

theorem tests_capture_faults {k : Nat} (h : x.state = .capture) (hk : x.nextStreak p.captureWindow speed = k)
    (hc : k < p.captureCycles) (ha : p.captureLimit < x.age) :
    (⟨x, []⟩ : Judging).tests n p op speed .capture = faultedAs n op .capture x .captureFail .captureFail none := by
  rw [tests_capture h, hk, if_neg (by omega), if_pos ha, fault_captureFail _ h]

end

/-! ### A geared station on its way (R54, R68) -/

/-- A LOCKED station's accepted record: its baseline stands. -/
theorem acceptedWith_locked (hs : r.state = .locked) (hb : r.baseline = true) (pos : Int) :
    r.acceptedWith pos now count force drive trip =
      { r with tLast := r.tNext, tAccept := r.tNext, measured := pos, lastRaw := count, lastAt := now, since := 0, miss := 0,
               judgement := some .accepted, force := some force, drive := some drive, trip := some trip, e := r.tNext - pos } := by
  simp [StationRec.acceptedWith, hs, hb]

theorem judge_locked (n : Station) (p : Params) (op : OpState) (now count : Word32) (force : Int) (drive : DriveState) (trip : Nat)
    (resp : Option ServiceResponse) (r : StationRec) (hs : r.state = .locked) (hb : r.baseline = true)
    (ht : p.circTrim[n] = r.trimPpm) (hop : op ≠ .settle) (hmiss : r.miss < p.missLimit) (hlimit : p.missLimit ≤ 15) :
    let delta := countDelta count r.lastRaw
    let pos := r.measured + delta
    let j := judge n p op now (.valid count force drive trip resp) r
    ((delta - (r.tNext - r.tAccept)).natAbs ≤ p.jumpLimit → drive ≠ .tripped → p.slipWindow ≤ 4000000 →
      -9223372036854775808 ≤ pos → pos ≤ 9223372036854775807 →
      let taken := { r with tLast := r.tNext, tAccept := r.tNext, measured := pos, lastRaw := count, lastAt := now,
                            since := 0, miss := 0, judgement := some .accepted, force := some force, drive := some drive,
                            trip := some trip, e := r.tNext - pos }
      ((r.tNext - pos).natAbs ≤ p.slipWindow → j = { r := taken, events := [] }) ∧
      (p.slipWindow < (r.tNext - pos).natAbs → (r.tNext - pos).natAbs ≤ 16777215 →
        j = { r := { taken with state := .slip, slipTimer := 0 },
              events := [.changed .locked { taken with state := .slip, slipTimer := 0 } .slipped] }) ∧
      (16777215 < (r.tNext - pos).natAbs → j = faultedAs n op .locked
        { taken with e := (r.tNext - pos).sign * 16777215 } .errorClamp .stationSlip none)) ∧
    (p.jumpLimit < (delta - (r.tNext - r.tAccept)).natAbs → r.e.natAbs ≤ p.slipWindow →
      j = { r := { r with tLast := r.tNext, since := min 65535 (r.since + 1), miss := r.miss + 1,
                          judgement := some (.missed .jump) }, events := [] }) := by
  intro delta pos j
  have hpos : r.position count = pos := position_baseline hb
  have hx := acceptedWith_locked (now := now) (count := count) (force := force) (drive := drive) (trip := trip) hs hb pos
  refine ⟨?_, fun hj he => ?_⟩
  · intro hj hd hw h1 h2 taken
    have hp : passes r p.jumpLimit count := .inr (.inr (by rw [expectedMove_geared (.inl hs)]; exact hj))
    rw [← hpos] at h1 h2
    have hacc (he : (r.tNext - pos).natAbs ≤ 16777215) : j = (⟨taken, []⟩ : Judging).tests n p op (speedMeasured r count) .locked := by
      have h := judge_accepted (n := n) (op := op) (now := now) (force := force) (trip := trip) (resp := resp) ht hp h1 h2
        (fun _ => hpos ▸ he) (.inl hd)
      rw [hpos, hs, hx] at h
      exact h
    refine ⟨fun he => (hacc (by omega)).trans (tests_locked_near hs he),
      fun hlow hhigh => (hacc hhigh).trans (tests_locked_far hs hlow (by decide)), fun he => ?_⟩
    have h := judge_clamped (n := n) (op := op) (now := now) (force := force) (trip := trip) (resp := resp) ht hp h1 h2 (.inl hs)
      (hpos ▸ he) hd
    rw [hpos, hs, hx] at h
    exact h
  · have hm : misses r p .jump (.valid count force drive trip resp) :=
      .inr (.inr ⟨rfl, by rw [hs]; nofun, hb, count, force, drive, trip, resp, rfl, by rw [expectedMove_geared (.inl hs)]; exact hj⟩)
    have hover := judge_overlooked (n := n) (op := op) (now := now) (miss := r.miss + 1) ht hm (fun _ => by omega)
      (fun hn => absurd ⟨hop, .inl (by rw [hs]; nofun)⟩ hn)
    have hmissed : r.missedWith .jump (r.miss + 1) =
        { r with tLast := r.tNext, since := min 65535 (r.since + 1), miss := r.miss + 1, judgement := some (.missed .jump) } := by
      simp [StationRec.missedWith, hs]
    rw [hmissed] at hover
    exact hover.trans (tests_locked_near hs he)

/-! ### An accepted observation in every lock state (R53 to R56, R65 to R70) -/

theorem judge_valid (n : Station) (p : Params) (op : OpState) (now count : Word32) (force : Int) (drive : DriveState) (trip : Nat)
    (resp : Option ServiceResponse) (r : StationRec) (ht : p.circTrim[n] = r.trimPpm) :
    let geared := r.state = .locked ∨ r.state = .slip
    let delta := countDelta count r.lastRaw
    let pos := if r.baseline then r.measured + delta else count.toNat
    let since := min 65535 (r.since + 1)
    let age := if r.state = .capture then min 65535 (r.age + 1) else r.age
    let taken : StationRec :=
      { r with tLast := if geared then r.tNext else r.tLast, tAccept := if geared then r.tNext else r.tAccept,
               e := if geared then r.tNext - pos else r.e, age := age, measured := pos, baseline := true, lastRaw := count,
               lastAt := now, since := 0, miss := 0, judgement := some .accepted, force := some force, drive := some drive,
               trip := some trip }
    let j := judge n p op now (.valid count force drive trip resp) r
    r.state = .faulted ∨ r.baseline = false ∨ (delta - expectedMove r).natAbs ≤ p.jumpLimit →
    -9223372036854775808 ≤ pos → pos ≤ 9223372036854775807 →
    (geared → drive ≠ .tripped → 16777215 < (r.tNext - pos).natAbs →
      j = faultedAs n op r.state { taken with e := (r.tNext - pos).sign * 16777215 } .errorClamp .stationSlip none) ∧
    ((geared → (r.tNext - pos).natAbs ≤ 16777215) →
    (r.state = .idle → drive ≠ .tripped → j = { r := taken, events := [] }) ∧
    (r.state = .faulted → drive ≠ .tripped ∨ r.cause = some .driveTrip → j = { r := taken, events := [] }) ∧
    (r.state = .slip → drive ≠ .tripped → (r.tNext - pos).natAbs ≤ p.lockWindow → p.lockWindow < p.slipWindow →
      let x := { taken with state := .locked, slipTimer := 0 }
      j = { r := x, events := [.changed .slip x .relocked] }) ∧
    (r.state = .slip → drive ≠ .tripped → p.lockWindow < (r.tNext - pos).natAbs → r.slipTimer + 1 ≤ p.slipTime →
      p.slipTime ≤ 65534 → j = { r := { taken with slipTimer := r.slipTimer + 1 }, events := [] }) ∧
    (r.state = .slip → drive ≠ .tripped → p.lockWindow < (r.tNext - pos).natAbs → p.slipTime < min 65535 (r.slipTimer + 1) →
      j = faultedAs n op .slip taken .slipTime .stationSlip none) ∧
    (r.state = .capture → drive ≠ .tripped →
      let within := r.baseline = true ∧ ((delta * 256).tdiv since - r.intervalFf).natAbs ≤ p.captureWindow
      let streak := min 64 (r.streak + 1)
      (within → p.captureCycles ≤ streak →
        let x := { taken with state := .locked, streak := streak, tLast := pos, tAccept := pos, residue := 0, e := 0,
                              slipTimer := 0 }
        j = { r := x, events := [.changed .capture x .captured] }) ∧
      (within → streak < p.captureCycles → age ≤ p.captureLimit →
        j = { r := { taken with streak := streak }, events := [] }) ∧
      (¬within → 1 ≤ p.captureCycles → age ≤ p.captureLimit → j = { r := { taken with streak := 0 }, events := [] }) ∧
      ((within → streak < p.captureCycles) → 1 ≤ p.captureCycles → p.captureLimit < age →
        j = faultedAs n op .capture taken .captureFail .captureFail none)) ∧
    (drive = .tripped → ¬(r.state = .faulted ∧ r.cause = some .driveTrip) →
      j = faultedAs n op r.state taken .driveTrip .driveTrip (some (.trip trip)))) := by
  intro geared delta pos since age taken j hp h1 h2
  refine ⟨fun hg hd he => judge_clamped ht hp h1 h2 hg he hd, fun he => ?_⟩
  have hacc (hd : drive ≠ .tripped ∨ r.state = .faulted ∧ r.cause = some .driveTrip) {st : LockState} (hs : r.state = st) :
      j = (⟨taken, []⟩ : Judging).tests n p op (speedMeasured r count) st := hs ▸ judge_accepted ht hp h1 h2 he hd
  have herr (hs : r.state = .slip) : taken.e = r.tNext - pos := acceptedWith_e (.inr hs) pos
  refine ⟨fun hs hd => (hacc (.inl hd) hs).trans (tests_still (.inl hs)),
    fun hs hd => (hacc (hd.imp_right fun hc => ⟨hs, hc⟩) hs).trans (tests_still (.inr hs)), fun hs hd hnear _ => ?_,
    fun hs hd hfar htime hmax => ?_, fun hs hd hfar htime => ?_, fun hs hd => ?_, fun hd hn => ?_⟩
  · exact (hacc (.inl hd) hs).trans (tests_slip_near hs (by rw [herr hs]; exact hnear))
  · exact (hacc (.inl hd) hs).trans (tests_slip_waits hs (by rw [herr hs]; exact hfar) htime hmax)
  · exact (hacc (.inl hd) hs).trans (tests_slip_faults hs (by rw [herr hs]; exact hfar) htime)
  · intro within streak
    have hstreak : taken.nextStreak p.captureWindow (speedMeasured r count) = if within then streak else 0 :=
      nextStreak_accepted pos p.captureWindow
    refine ⟨fun hw hc => ?_, fun hw hc ha => ?_, fun hw hc ha => ?_, fun hw hc ha => ?_⟩
    · exact (hacc (.inl hd) hs).trans (tests_capture_completes (x := taken) hs (hstreak.trans (if_pos hw)) hc)
    · exact (hacc (.inl hd) hs).trans (tests_capture_waits hs (hstreak.trans (if_pos hw)) hc ha)
    · exact (hacc (.inl hd) hs).trans (tests_capture_waits hs (hstreak.trans (if_neg hw)) hc ha)
    · refine (hacc (.inl hd) hs).trans (tests_capture_faults hs hstreak ?_ ha)
      split
      · exact hw ‹_›
      · exact hc
  · subst hd
    exact judge_tripped ht hp h1 h2 he hn

/-! ### A missed observation in every lock state (R55, R56, R65 to R69) -/

theorem judge_misses (n : Station) (p : Params) (op : OpState) (now : Word32) (r : StationRec) (obs : Observation) (cause : MissCause)
    (ht : p.circTrim[n] = r.trimPpm)
    (hm : (cause = .silent ∧ obs = .silent) ∨ (cause = .disagree ∧ obs = .disagree) ∨
      (cause = .jump ∧ r.state ≠ .faulted ∧ r.baseline = true ∧ ∃ count force drive trip resp,
        obs = .valid count force drive trip resp ∧ p.jumpLimit < (countDelta count r.lastRaw - expectedMove r).natAbs)) :
    let counted := op ≠ .settle ∧ (r.state ≠ .faulted ∨ r.faultCommand = .follow)
    let age := if r.state = .capture then min 65535 (r.age + 1) else r.age
    let missed (miss : Nat) : StationRec :=
      { r with tLast := if r.state = .locked ∨ r.state = .slip then r.tNext else r.tLast, since := min 65535 (r.since + 1),
               age := age, miss := miss, judgement := some (.missed cause) }
    let j := judge n p op now obs r
    (counted → p.missLimit < min 16 (r.miss + 1) →
      j = faultedAs n op r.state (missed (min 16 (r.miss + 1))) (lostCause cause) .stationLost none) ∧
    ∀ miss, (counted → miss = r.miss + 1 ∧ r.miss + 1 ≤ p.missLimit ∧ p.missLimit ≤ 15) → (¬counted → miss = r.miss) →
      (r.state = .idle ∨ r.state = .faulted → j = { r := missed miss, events := [] }) ∧
      (r.state = .locked → r.e.natAbs ≤ p.slipWindow → j = { r := missed miss, events := [] }) ∧
      (r.state = .locked → p.slipWindow < r.e.natAbs →
        let x := { missed miss with state := .slip, slipTimer := 0 }
        j = { r := x, events := [.changed .locked x .slipped] }) ∧
      (r.state = .capture → 1 ≤ p.captureCycles → age ≤ p.captureLimit →
        j = { r := { missed miss with streak := 0 }, events := [] }) ∧
      (r.state = .capture → 1 ≤ p.captureCycles → p.captureLimit < age →
        j = faultedAs n op .capture (missed miss) .captureFail .captureFail none) ∧
      (r.state = .slip → r.e.natAbs ≤ p.lockWindow →
        let x := { missed miss with state := .locked, slipTimer := 0 }
        j = { r := x, events := [.changed .slip x .relocked] }) ∧
      (r.state = .slip → p.lockWindow < r.e.natAbs → r.slipTimer + 1 ≤ p.slipTime → p.slipTime ≤ 65534 →
        j = { r := { missed miss with slipTimer := r.slipTimer + 1 }, events := [] }) ∧
      (r.state = .slip → p.lockWindow < r.e.natAbs → p.slipTime < min 65535 (r.slipTimer + 1) →
        j = faultedAs n op .slip (missed miss) .slipTime .stationSlip none) := by
  intro counted age missed j
  refine ⟨fun hc hl => judge_lost ht hm hc hl, fun miss hc hn => ?_⟩
  have hover {st : LockState} (hs : r.state = st) : j = (⟨missed miss, []⟩ : Judging).tests n p op none st :=
    hs ▸ judge_overlooked ht hm (fun h => by have := hc h; omega) hn
  refine ⟨fun hs => (hover rfl).trans (tests_still hs), fun hs he => (hover hs).trans (tests_locked_near hs he),
    fun hs he => (hover hs).trans (tests_locked_far hs he (by decide)),
    fun hs h1 ha => (hover hs).trans (tests_capture_waits hs rfl h1 ha),
    fun hs h1 ha => (hover hs).trans (tests_capture_faults hs rfl h1 ha),
    fun hs he => (hover hs).trans (tests_slip_near hs he),
    fun hs he htime hmax => (hover hs).trans (tests_slip_waits hs he htime hmax),
    fun hs he htime => (hover hs).trans (tests_slip_faults hs he htime)⟩

/-! ### A changed circumference trim (R76) -/

/-- A judging with events before its own. -/
def Judging.after (l : List StationEvent) (j : Judging) : Judging := ⟨j.r, l ++ j.events⟩

section
variable (l : List StationEvent) (j : Judging)

theorem move_after (x : StationRec) (reason : StationReason) : (j.after l).move x reason = (j.move x reason).after l := by
  simp [Judging.move, Judging.after]

theorem put_after (x : StationRec) : (j.after l).put x = (j.put x).after l := rfl

theorem fault_after (c : StationCause) : (j.after l).fault n op c = (j.fault n op c).after l := by
  simp [Judging.fault, Judging.move, Judging.after]

theorem ite_after {q : Prop} [Decidable q] {a b c d : Judging} (hab : a = c.after l) (hbd : b = d.after l) :
    (if q then a else b) = (if q then c else d).after l := by
  split
  · exact hab
  · exact hbd

theorem formError_after : (j.after l).formError n op = (j.formError n op).after l :=
  ite_after l (ite_after l (fault_after l (j.put _) _) rfl) rfl

theorem tripped_after (d : DriveState) : (j.after l).tripped n op d = (j.tripped n op d).after l :=
  ite_after l (fault_after l j _) rfl

theorem missed_after (limit : Nat) (c : MissCause) : (j.after l).missed n op limit c = (j.missed n op limit c).after l :=
  ite_after l (ite_after l (fault_after l (j.put _) _) rfl) rfl

theorem captureStep_after (speed : Option Int) : (j.after l).captureStep n p op speed = (j.captureStep n p op speed).after l :=
  ite_after l (ite_after l (move_after l (j.put _) _ _) (ite_after l (fault_after l (j.put _) _) rfl)) rfl

theorem windows_after : (j.after l).windows p = (j.windows p).after l := by
  unfold Judging.windows
  rw [show (j.after l).r = j.r from rfl]
  split
  · exact ite_after l (move_after l j _ _) rfl
  · exact ite_after l (move_after l j _ _) rfl
  · rfl

theorem slipStep_after (began : LockState) : (j.after l).slipStep n p op began = (j.slipStep n p op began).after l :=
  ite_after l (ite_after l (fault_after l (j.put _) _) rfl) rfl

theorem tests_after (speed : Option Int) (began : LockState) :
    (j.after l).tests n p op speed began = (j.tests n p op speed began).after l := by
  unfold Judging.tests
  rw [captureStep_after, windows_after, slipStep_after]

theorem accept_after : (j.after l).accept n op now count force drive trip = (j.accept n op now count force drive trip).after l := by
  unfold Judging.accept
  rw [show (j.after l).r = j.r from rfl, put_after, formError_after, tripped_after]

theorem observe_after (obs : Observation) : (j.after l).observe n p op now obs = (j.observe n p op now obs).after l := by
  have hmiss (c : MissCause) : ((j.after l).missed n op p.missLimit c).tests n p op none j.r.state =
      ((j.missed n op p.missLimit c).tests n p op none j.r.state).after l := by rw [missed_after, tests_after]
  cases obs with
  | silent => exact hmiss .silent
  | disagree => exact hmiss .disagree
  | valid count force drive trip resp =>
    refine ite_after l ?_ (hmiss .jump)
    exact (congrArg (fun k : Judging => k.tests n p op _ _) (accept_after l j)).trans (tests_after l _ _ _)

end

theorem judge_trimmed (n : Station) (p : Params) (op : OpState) (now : Word32) (obs : Observation) (r : StationRec)
    (ht : p.circTrim[n] ≠ r.trimPpm) :
    let ppm := p.circTrim[n]
    let x := { r with trimPpm := ppm, cnm := roundDiv ((r.block.circ : Int) * (1000000 + ppm)) 1000 }
    let y := { x with state := .capture, streak := 0, age := 0, e := 0, residue := 0, slipTimer := 0 }
    (r.state = .locked ∨ r.state = .slip → judge n p op now obs r =
      { r := (judge n p op now obs y).r, events := .changed r.state y .trimChange :: (judge n p op now obs y).events }) ∧
    (r.state = .capture → judge n p op now obs r = judge n p op now obs { x with streak := 0 }) ∧
    (r.state = .idle ∨ r.state = .faulted → judge n p op now obs r = judge n p op now obs x) := by
  intro ppm x y
  have hself (z : StationRec) (hz : p.circTrim[n] = z.trimPpm) :
      ((⟨z, []⟩ : Judging).put z.beginStage).observe n p op now obs = judge n p op now obs z := (judge_unchanged hz).symm
  refine ⟨fun hs => ?_, fun hs => ?_, fun hs => ?_⟩
  · have hchange : trimChange p.circTrim[n] r = (⟨y, []⟩ : Judging).after [.changed r.state y .trimChange] := by
      have hmove : trimChange p.circTrim[n] r = (⟨r, []⟩ : Judging).move y .trimChange := by
        unfold trimChange
        rw [if_neg ht]
        rcases hs with hs | hs <;> simp only [hs] <;> rfl
      exact hmove
    rw [← hself y rfl]
    unfold judge
    rw [hchange]
    exact observe_after _ ((⟨y, []⟩ : Judging).put y.beginStage) obs
  · have hchange : trimChange p.circTrim[n] r = ⟨{ x with streak := 0 }, []⟩ := by
      unfold trimChange
      rw [if_neg ht, hs]
      rfl
    rw [← hself { x with streak := 0 } rfl]
    unfold judge
    rw [hchange]
  · have hchange : trimChange p.circTrim[n] r = ⟨x, []⟩ := by
      have hput : trimChange p.circTrim[n] r = (⟨r, []⟩ : Judging).put x := by
        unfold trimChange
        rw [if_neg ht]
        dsimp only
        split
        case h_4 | h_5 => rfl
        all_goals
          rename_i hr
          have : r.state = _ := hr
          simp [this] at hs
      exact hput
    rw [← hself x rfl]
    unfold judge
    rw [hchange]

end Sys2Proof.Machine
end

section
/-! SUPPORT for O54 and O55. The records a cycle close leaves: those the checks leave, judged, geared and assembled. -/

namespace Sys2Proof.Machine

theorem clamp32_eq (x : Int) : clamp32 x = max (-2147483648) (min 2147483647 x) := by
  unfold clamp32 clampInt
  split_ifs <;> omega

/-- The axle, the operating state and the cross terms that gear and assemble the records are the ones the stages leave. -/
theorem stages_geared (w : State) (hc : w.comp = none) (n : Station) :
    (stages w).stations[n] = (judgeStage w).stations[n].map (geared (stages w).axle.adv (stages w).axle.v w.params
      (stages w).run.op ((stages w).monitor.cross[n].getD 0)) := by
  have hparams : (judgeStage w).params = w.params := by rw [(judgeStage_told w hc).2]
  rw [← hparams]
  unfold stages
  generalize judgeStage w = a
  have ha := axleStage_braked a
  have hast : (axleStage a).stations = a.stations := by rw [ha]
  have hap : (axleStage a).params = a.params := by rw [ha]
  rw [← hast, ← hap]
  generalize axleStage a = b
  have hgeared : (gearStage b).stations = ofEight fun n => b.stations[n].map fun r => (r.gear b.axle.adv).feed b.axle.v := rfl
  have hw := windupStage_braked (gearStage b)
  have hwst : (windupStage (gearStage b)).stations = (gearStage b).stations := by rw [hw]; rfl
  have hwaxle : (windupStage (gearStage b)).axle = b.axle := by rw [hw]; rfl
  have hwp : (windupStage (gearStage b)).params = b.params := by rw [hw]; rfl
  rw [hgeared, ← hwaxle] at hwst
  rw [← hwp]
  generalize windupStage (gearStage b) = d at hwst ⊢
  have hn := (countLocks_told (assembleStage d)).2
  have hst : (countLocks (assembleStage d)).stations = (assembleStage d).stations := by rw [hn]
  have haxle : (countLocks (assembleStage d)).axle = d.axle := by rw [hn]; rfl
  have hop : (countLocks (assembleStage d)).run = d.run := by rw [hn]; rfl
  have hmon : (countLocks (assembleStage d)).monitor = d.monitor := by rw [hn]; rfl
  rw [hst, haxle, hop, hmon]
  unfold assembleStage
  rw [mapStations_get, hwst, ofEight_get, Option.map_map]
  rfl

/-- A judging hangs on the operating state only by whether it is one of a run, or the settle's. -/
theorem Follows.judge {acts : List (Raise ⊕ ReportBody)} {u v : State} (h : Follows acts u v) (n : Station) (p : Params)
    (now : Word32) (obs : Observation) (r : StationRec) : judge n p v.run.op now obs r = judge n p u.run.op now obs r := by
  rcases h.op_cases with hsame | ⟨hrun, hstop⟩
  · rw [hsame]
  · rw [hrun, hstop]
    exact judge_inRun n p .stopping now obs r rfl

/-- A record after a computation that has left t: judged by the observation, geared and assembled. -/
def computedRecord (t : State) (p : Params) (n : Station) (obs : Observation) (r : StationRec) : StationRec :=
  geared t.axle.adv t.axle.v p t.run.op (t.monitor.cross[n].getD 0) (judge n p t.run.op t.run.count obs r).r

theorem compute_records (x : State) (hc : x.comp = none) (n : Station) :
    (compute x).stations[n] = x.stations[n].map (computedRecord (compute x) x.params n (x.link.st[n].obs.getD .silent)) := by
  have hf := (compute_told x hc).1
  have hjudge := hf.judge
  have hcount := hf.count
  have hst := stages_geared (computeBegun x) hc n
  have hjudged := judgeStage_stations (computeBegun x) hc n
  rw [compute_eq] at hjudge hcount ⊢
  generalize stages (computeBegun x) = t at hst hjudge hcount ⊢
  rw [hjudged, Option.map_map] at hst
  refine hst.trans (congrArg (fun f => Option.map f x.stations[n]) (funext fun r => ?_))
  unfold computedRecord
  rw [hjudge, hcount]
  rfl

/-! ### The close -/

/-- The record the checks leave of one, where s and t are the states before the close and after it. -/
def checkedRecord (s t : State) (r : StationRec) : StationRec :=
  if s.run.op ≠ .safe ∧ t.run.op = .safe ∧ engagedIn r then idled r else r

theorem ChecksOut.records {s x u : State} {c d : Word32} {acts : List (Raise ⊕ ReportBody)} (h : ChecksOut s c d x)
    (hf : Follows acts x u) (n : Station) : x.stations[n] = s.stations[n].map (checkedRecord s u) := by
  have stays (hst : x.stations = s.stations) (hop : s.run.op = .safe ∨ u.run.op ≠ .safe) :
      x.stations[n] = s.stations[n].map (checkedRecord s u) := by
    have hid : checkedRecord s u = id := funext fun r => if_neg fun ⟨h1, h2, _⟩ => hop.elim h1 (· h2)
    rw [hid, hst, Option.map_id]
    rfl
  cases h with
  | quiet op h =>
    refine stays h.stations (or_iff_not_imp_left.mpr fun hs => ?_)
    rcases hf.op_cases with hsame | ⟨_, hstop⟩
    · rwa [hsame, op]
    · rw [hstop]
      simp
  | settled before op h =>
    refine stays h.stations (.inr ?_)
    rw [hf.op_other (by rw [op]; simp), op]
    simp
  | lost before h =>
    have hsafe : u.run.op = .safe := (hf.op_other (by rw [h.op]; simp)).trans h.op
    rw [h.stations n]
    refine congrArg (fun f => Option.map f s.stations[n]) (funext fun r => ?_)
    unfold checkedRecord
    simp [before, hsafe]

/-- What a cycle close leaves of a station record. -/
theorem cycleClose_record (s : State) (h : s.link.running = true) : ∃ t, exec .cycleClose s = .next t ∧
    ∀ n : Station, (s.stations[n] = none → t.stations[n] = none) ∧
      ∀ r, s.stations[n] = some r → ∃ obs, t.link.st[n].obs = some obs ∧
        t.stations[n] = some (computedRecord t s.params n obs (checkedRecord s t r)) := by
  obtain ⟨c, d, x, hexec, _, _, hout⟩ := cycleClose_out s h
  have hk := hout.checked
  obtain ⟨hf, hlink⟩ := compute_told x hk.comp
  have hrec := compute_records x hk.comp
  generalize compute x = u at hexec hf hlink hrec
  refine ⟨_, hexec, fun n => ?_⟩
  have hn := hrec n
  rw [hout.records hf n, hk.params, Option.map_map] at hn
  refine ⟨fun hr => ?_, fun r hr => ?_⟩
  · rw [pumpTx_stations, hn, hr]
    rfl
  · have hobs : x.link.st[n].obs = some (closeObs r s.link.st[n]) := by
      rw [hk.closed n, closedStation, hr]
      exact closed_obs r _
    refine ⟨closeObs r s.link.st[n], by rw [pumpTx_link, hlink, hobs], ?_⟩
    rw [pumpTx_stations, hn, hr, hobs]
    unfold computedRecord checkedRecord
    simp only [pumpTx_axle, pumpTx_run, pumpTx_monitor]
    rfl

end Sys2Proof.Machine
end

section
/-! O54: the judging of an observation and the records of a cycle close. -/

namespace Sys2Proof.Machine

/-- Settles O54: the accepted observation in LOCKED, the accepted one in every state, the misses, the changed trim, and the
records of a close. -/
theorem judgingMovesTheStation : Obligations.JudgingMovesTheStation := by
  refine ⟨judge_locked, judge_valid, fun n p op now r obs cause ht hm => ?_, judge_trimmed, fun s h => ?_⟩
  · have hmisses := judge_misses n p op now r obs cause ht hm
    cases cause <;> exact hmisses
  obtain ⟨t, hexec, hrec⟩ := cycleClose_record s h
  refine ⟨t, hexec, fun n => ⟨(hrec n).1, fun r hr => ?_⟩⟩
  obtain ⟨obs, hobs, hst⟩ := (hrec n).2 r hr
  refine ⟨obs, hobs, ?_⟩
  rw [hst]
  unfold computedRecord checkedRecord geared StationRec.feed feedforward
  rw [clamp32_eq]

end Sys2Proof.Machine
end

section
/-! SUPPORT for O55. The demand of each lock state, and what the end of a computation adds to the counters. -/

namespace Sys2Proof.Machine

/-! ### The demand assembly (R60, R61, R72) -/

section
variable {r : StationRec} {p : Params} {op : OpState} {x : Int}

theorem wantedTrim_ungeared (h : r.state.geared = false) : r.wantedTrim p.kp x = 0 := by
  unfold StationRec.wantedTrim
  rw [h]
  rfl

theorem wantedTrim_geared (h : r.state = .locked ∨ r.state = .slip) :
    r.wantedTrim p.kp x = if r.judgement = some .accepted then (r.e * p.kp).tdiv 16 + x else 0 := by
  have hgeared : r.state.geared = true := by rcases h with h | h <;> rw [h] <;> rfl
  unfold StationRec.wantedTrim StationRec.accepted
  rw [hgeared]
  simp

/-- Where nothing is wanted the trim is 0 and not cut. -/
theorem trim_none : limitMag p.trimMax 0 = 0 ∧ decide (p.trimMax < (0 : Int).natAbs) = false := by
  rw [limitMag_eq _ _ (by omega)]
  exact ⟨by omega, by simp⟩

theorem assemble_idle (h : r.state = .idle) :
    r.assemble p op x = { r with trim := 0, trimSat := false, command := .torqueOff, demand := 0 } := by
  obtain ⟨h1, h2⟩ := trim_none (p := p)
  unfold StationRec.assemble
  dsimp only
  rw [wantedTrim_ungeared (by rw [h]; rfl), h1, h2, h]

theorem assemble_capture (h : r.state = .capture) :
    r.assemble p op x = { r with trim := 0, trimSat := false, command := .follow, demand := r.ff } := by
  obtain ⟨h1, h2⟩ := trim_none (p := p)
  unfold StationRec.assemble
  dsimp only
  rw [wantedTrim_ungeared (by rw [h]; rfl), h1, h2, h]

theorem assemble_geared (h : r.state = .locked ∨ r.state = .slip) :
    let wanted := if r.judgement = some .accepted then (r.e * p.kp).tdiv 16 + x else 0
    let trim := max (-(p.trimMax : Int)) (min p.trimMax wanted)
    r.assemble p op x = { r with trim := trim, trimSat := decide (p.trimMax < wanted.natAbs), command := .follow,
                                 demand := max (-2147483648) (min 2147483647 (r.ff + trim)) } := by
  intro wanted trim
  have hwanted : r.wantedTrim p.kp x = wanted := wantedTrim_geared h
  have htrim : limitMag p.trimMax wanted = trim := limitMag_eq _ _ (by omega)
  unfold StationRec.assemble
  dsimp only
  rw [hwanted, htrim, ← clamp32_eq]
  rcases h with h | h <;> rw [h]

theorem assemble_faulted (h : r.state = .faulted) :
    r.assemble p op x = { r with
      trim := 0, trimSat := false, faultCommand := faultCommandOf op r.cause, command := faultCommandOf op r.cause
      demand := if faultCommandOf op r.cause = .follow then r.ff else 0 } := by
  obtain ⟨h1, h2⟩ := trim_none (p := p)
  unfold StationRec.assemble
  dsimp only
  rw [wantedTrim_ungeared (by rw [h]; rfl), h1, h2, h]
  dsimp only
  cases faultCommandOf op r.cause <;> rfl

theorem faultCommandOf_follow {c : Option StationCause} (hop : op = .run ∨ op = .stopping)
    (hc : c = some .slipTime ∨ c = some .errorClamp ∨ c = some .captureFail) : faultCommandOf op c = .follow := by
  rcases hc with rfl | rfl | rfl <;> rw [faultCommandOf_some, if_pos ⟨hop, by simp⟩]

theorem faultCommandOf_torqueOff {c : Option StationCause} (h : ¬(op = .run ∨ op = .stopping) ∨
    (c ≠ some .slipTime ∧ c ≠ some .errorClamp ∧ c ≠ some .captureFail)) : faultCommandOf op c = .torqueOff := by
  cases c with
  | none => rfl
  | some c =>
    rw [faultCommandOf_some, if_neg]
    rintro ⟨hop, hc⟩
    simp only [ne_eq, Option.some.injEq] at h
    tauto

end

/-! ### The lock counts of a computation (R169, R171, R172) -/

theorem selects_eq (c : Counter) (n : Station) : c.selects n = (c.station == none || c.station == some n) := by
  unfold Counter.selects
  cases c.station <;> rfl

theorem counting_iff (s : State) (c : Counter) : counting s c = true ↔
    c.enable = true ∧ c.lost = false ∧ (s.inForce.countEnable = true ∨ s.run.countEnable = true) := by
  unfold counting
  simp only [Bool.and_eq_true, Bool.or_eq_true, Bool.not_eq_true', and_assoc]

theorem counted_locks (s : State) (c : Counter) : c.counted (lockCounts s) =
    if c.enable = true ∧ c.lost = false ∧ (s.inForce.countEnable = true ∨ s.run.countEnable = true) then
      { c with working := if 65535 < c.working + c.lockAmount s then 65535 else c.working + c.lockAmount s
               saturated := c.saturated || decide (65535 < c.working + c.lockAmount s) }
    else c := by
  unfold Counter.counted lockCounts
  simp only [counting_iff]
  by_cases h : c.enable = true ∧ c.lost = false ∧ (s.inForce.countEnable = true ∨ s.run.countEnable = true)
  · rw [if_pos h, if_pos h]
    exact add_eq c _
  · rw [if_neg h, if_neg h]

theorem lockCounts_congr {s t : State} (hf : t.inForce = s.inForce) (hr : t.run.countEnable = s.run.countEnable)
    (hst : t.stations = s.stations) : lockCounts t = lockCounts s := by
  funext c
  unfold lockCounts counting Counter.lockAmount
  rw [hf, hr, hst]

/-- Counters and reports that the end of a computation has added to, by the records, the parameters in force and the enable that it
leaves: the counters of s counted, and the first cuts reported last. -/
structure LocksCounted (s t : State) : Prop where
  counters : ∀ k : Fin 4, t.stats.counters[k] = s.stats.counters[k].counted (lockCounts t)
  reports : ∃ p : Port, t.port = p.tellAll s.params.reportLevel ((firstCuts s t).map fun b => (t.run.count, t.run.op, b))

theorem countLocks_counted (s : State) : LocksCounted s (countLocks s) := by
  obtain ⟨hf, hc, hp⟩ := countEach_told (lockCounts s) s
  rw [← countLocks_eq] at hf hc hp
  have hcounts : lockCounts (countLocks s) = lockCounts s := lockCounts_congr (by rw [hf]) (by rw [hf]) (by rw [hf])
  have hrun : (countLocks s).run = s.run := by rw [hf]
  refine ⟨fun k => by rw [hcounts]; exact hc k, s.port, ?_⟩
  rw [hp, firstCuts_counted hc, hrun]

/-- Only the counters and the report level of the state before take part. -/
theorem LocksCounted.of_before {s w t : State} (h : LocksCounted s t) (hs : s.stats = w.stats) (hp : s.params = w.params) :
    LocksCounted w t := by
  obtain ⟨hc, p, hport⟩ := h
  rw [firstCuts_congr (s := w) (t := t) hs rfl, hp] at hport
  exact ⟨fun k => by rw [← hs]; exact hc k, p, hport⟩

theorem stages_counted (w : State) (hc : w.comp = none) : LocksCounted w (stages w) := by
  have hj := (judgeStage_told w hc).2
  have hjstats : (judgeStage w).stats = w.stats := by rw [hj]
  have hjparams : (judgeStage w).params = w.params := by rw [hj]
  rw [← show LocksCounted (judgeStage w) _ ↔ _ from ⟨fun h => h.of_before hjstats hjparams,
    fun h => h.of_before hjstats.symm hjparams.symm⟩]
  unfold stages
  generalize judgeStage w = a
  have ha := axleStage_braked a
  have hastats : (gearStage (axleStage a)).stats = a.stats := by show (axleStage a).stats = _; rw [ha]
  have haparams : (gearStage (axleStage a)).params = a.params := by show (axleStage a).params = _; rw [ha]
  generalize gearStage (axleStage a) = b at hastats haparams ⊢
  have hw := windupStage_braked b
  have hwstats : (windupStage b).stats = b.stats := by rw [hw]; rfl
  have hwparams : (windupStage b).params = b.params := by rw [hw]; rfl
  exact (countLocks_counted (assembleStage (windupStage b))).of_before (hwstats.trans hastats) (hwparams.trans haparams)

theorem compute_counted (x : State) (hc : x.comp = none) : LocksCounted x (compute x) := by
  have h := stages_counted (computeBegun x) hc
  rw [compute_eq]
  generalize stages (computeBegun x) = t at h
  exact ⟨h.counters, h.reports⟩

end Sys2Proof.Machine
end

section
/-! O55: the demand assembly and the lock counts of a cycle close. -/

namespace Sys2Proof.Machine

/-! ### Reports that leave room (R203, R204) -/

/-- A queue that is not full after some reports has gained all of them that are within REPORT_LEVEL. -/
theorem tellAll_unfilled {level : Nat} {l : List Told} {p : Port} (h : (p.tellAll level l).reports.length < 32) :
    told (p.tellAll level l).reports = told p.reports ++ l.filter fun x => decide (x.2.2.level ≤ level) := by
  induction l generalizing p with
  | nil => simp
  | cons y rest ih =>
    have hrest : told ((p.tell level y).tellAll level rest).reports = _ := ih h
    obtain ⟨more, hmore, _⟩ := tellAll_appended level rest (p.tell level y)
    have hlength : (p.tell level y).reports.length < 32 := by
      have hall : ((p.tell level y).tellAll level rest).reports.length < 32 := h
      rw [hmore, List.length_append] at hall
      omega
    refine hrest.trans ?_
    rw [List.filter_cons]
    unfold Port.tell at hlength ⊢
    by_cases hy : level < y.2.2.level
    · rw [if_pos hy, if_neg (by simpa using hy)]
    · rw [if_neg hy] at hlength ⊢
      rw [if_pos (show decide (y.2.2.level ≤ level) = true by simpa using hy)]
      by_cases hroom : p.reports.length < 32
      · rw [if_pos hroom]
        simp [told]
      · rw [if_neg hroom] at hlength
        exact absurd hlength hroom

theorem cycleClose_counted (s : State) (h : s.link.running = true) : ∃ t, exec .cycleClose s = .next t ∧
    t.inForce.countEnable = s.params.countEnable ∧
    (s.port.tx ≠ .idle → t.port.reports.length < 32 →
      ∃ before, told t.port.reports = before ++ heard s ((firstCuts s t).map fun b => (t.run.count, t.run.op, b))) ∧
    ∀ k : Fin 4, t.stats.counters[k] = s.stats.counters[k].counted (lockCounts t) := by
  obtain ⟨c, d, x, hexec, _, _, hout⟩ := cycleClose_out s h
  have hk := hout.checked
  obtain ⟨hf, hlink⟩ := compute_told x hk.comp
  obtain ⟨hcounters, p, hport⟩ := (compute_counted x hk.comp).of_before hk.stats hk.params
  have hforce : (compute x).inForce = x.params.inForce := by rw [compute_leaves x hk.comp]
  have htx : (compute x).port.tx = s.port.tx := by
    obtain ⟨_, _, _, _, hall⟩ := hout.told hf hlink
    rw [hall, tellAll_frame]
  generalize compute x = u at hexec hcounters hport hforce htx
  have hpumped : (pumpTx u).inForce = u.inForce := by
    obtain ⟨y, q, hy⟩ := pumpTx_port u
    rw [hy]
  refine ⟨_, hexec, by rw [hpumped, hforce, hk.params]; rfl, fun hbusy hlength => ?_, fun k => ?_⟩
  · rw [pumpTx_busy u (by rw [htx]; exact hbusy)] at hlength ⊢
    rw [hport] at hlength ⊢
    exact ⟨told p.reports, tellAll_unfilled hlength⟩
  · rw [pumpTx_stats, lockCounts_congr hpumped (by rw [pumpTx_run]) (pumpTx_stations u)]
    exact hcounters k

/-- Settles O55: the counters a close counts, then the assembly by the lock state. -/
theorem assemblyFormsTheDemand : Obligations.AssemblyFormsTheDemand := by
  refine ⟨fun s h => ?_, fun r p op x => ?_⟩
  · obtain ⟨t, hexec, hforce, hreports, hcounters⟩ := cycleClose_counted s h
    refine ⟨t, hexec, hforce, hreports, fun k => ?_⟩
    rw [hcounters k, counted_locks, hforce]
    unfold Counter.lockAmount
    simp only [selects_eq]
    rfl
  · intro a wanted trim keeps
    refine ⟨assemble_idle, assemble_capture, assemble_geared, fun hs hop hc => ?_, fun hs hc => ?_⟩
    · have hfollow : faultCommandOf op r.cause = .follow := faultCommandOf_follow hop hc
      exact (assemble_faulted hs).trans (by rw [hfollow]; rfl)
    · have hoff : faultCommandOf op r.cause = .torqueOff := faultCommandOf_torqueOff hc
      exact (assemble_faulted hs).trans (by rw [hoff]; rfl)

end Sys2Proof.Machine
end

section
/-! O60: STATION_LOST, CAPTURE_FAIL, SLIP_TIMER_EXPIRY and CAPTURED given alone. -/

namespace Sys2Proof.Machine

/-! ### A judging carried out alone (R62, R71, R148) -/

/-- The STATION report of a judging that has left x (R62; the summary: log 45). -/
def judgedReport (s : State) (n : Station) (old : LockState) (x : StationRec) (reason : StationReason)
    (cause : Option StationCause) : Told :=
  (s.run.count, s.run.op, .station n old x.state reason cause x.e x.measured
    ((shownSpeed s s.axle.v * 9).tdiv (65536 * 25 * s.cell.period)) s.monitor.summaries[x.block.axle])

theorem stationEvent_changed (n : Station) (old : LockState) (x : StationRec) {reason : StationReason} (s : State)
    (h : reason.byRequest = false) : stationEvent n (.changed old x reason) s = { s with
      port := s.port.tellAll s.params.reportLevel
        [judgedReport s n old x reason (if x.state = .faulted then x.cause else none)] } := by
  show submitStation n old x.state reason _ x.e x.measured x.block.axle s = _
  unfold submitStation
  rw [submit_tell, axleSeen_speed, h]
  rfl

theorem judgeIf_judged {s : State} {n : Station} {r : StationRec} {q : StationEvent → Bool} (hl : s.link.running = true)
    (hr : s.stations[n] = some r) (hq : (s.judging n r).events.any q = true) : judgeIf q n s =
      applyJudging n (s.judging n r) (updateSeen n (fun _ => (s.judging n r).r) s) := by
  unfold judgeIf
  rw [hr]
  dsimp only
  rw [hl, hq]
  rfl

/-- A station faulted: its record, its raise and its STATION report, and what GET_STATUS and GET_STATION show. -/
theorem applyJudging_faulted (n : Station) (old : LockState) (y : StationRec) (f : Raise) (s : State)
    (hy : y.state = .faulted) (hf : 3 ≤ f.kind.level) :
    let u := updateSeen n (fun _ => y) s
    applyJudging n ⟨y, [.fault f, .changed old y .fault]⟩ u = { s with
      stations := s.stations.set n (some y), faults := Faults.take f s.run.count s.run.op s.faults
      comp := (raised f u).comp
      port := s.port.tellAll s.params.reportLevel
        [faultTold s.faults s.run.count s.run.op f, judgedReport s n old y .fault y.cause] } := by
  intro u
  have hspeed : shownSpeed (raised f (setStation n y u)) (raised f (setStation n y u)).axle.v = shownSpeed s s.axle.v := by
    rw [← axleSeen_speed, ← axleSeen_speed]
    unfold State.axleSeen raised updateFaults setStation u updateSeen
    cases s.comp <;> rfl
  show stationEvent n (.changed old y .fault) (raiseFault f (setStation n y u)) = _
  rw [raiseFault_raised hf, stationEvent_changed n old y _ rfl, if_pos hy]
  unfold judgedReport
  rw [hspeed]
  rfl

/-- A station's own record, set beside the others'. -/
theorem set_station (s : State) (n : Station) (y : StationRec) :
    (s.stations.set n (some y))[n] = some y ∧ ∀ m : Station, m ≠ n → (s.stations.set n (some y))[m] = s.stations[m] :=
  ⟨by rw [Vector.set_get, if_pos rfl], fun m hm => by rw [Vector.set_get, if_neg (Ne.symm hm)]⟩

/-- A command that faults a station with a cause: the record, the entry of the fault list, FAULT and STATION (R62, R71, R148). -/
def faultsStation (s : State) (n : Station) (r : StationRec) (c : Instr) (cause : StationCause) (kind : FaultKind) : Prop :=
  let f : Raise := { kind := kind, station := some n, cause := some cause }
  ∃ t x, exec c s = .next t ∧ t.stations[n] = some x ∧ x.state = .faulted ∧ x.cause = some cause ∧
    x.streak = 0 ∧ x.age = 0 ∧ x.slipTimer = 0 ∧ x.trim = 0 ∧ x.trimSat = false ∧ x.e = r.e ∧
    x.measured = r.measured ∧ t.run = s.run ∧ (∀ m : Station, m ≠ n → t.stations[m] = s.stations[m]) ∧
    t.faults = Faults.take f s.run.count .run s.faults ∧
    emits s t [faultTold s.faults s.run.count .run f,
      (s.run.count, .run, .station n r.state x.state .fault (some cause) x.e x.measured
        ((shownSpeed s s.axle.v * 9).tdiv (65536 * 25 * s.cell.period)) s.monitor.summaries[r.block.axle])] ∧
    t = { s with stations := t.stations, faults := t.faults, comp := t.comp,
                 port := { s.port with reports := t.port.reports, lost := t.port.lost, tx := t.port.tx } }

/-- Where the judging comes to that cause, the command is carried out so. -/
theorem faultsStation_of_judging {s : State} {n : Station} {r z : StationRec} {c : Instr} {cause : StationCause} {kind : FaultKind}
    (hl : s.link.running = true) (hr : s.stations[n] = some r) (hop : s.run.op = .run)
    (hexec : exec c s = done (judgeIf (StationEvent.faultsWith cause) n s)) (hk : 3 ≤ kind.level)
    (hj : s.judging n r = faultedAs n .run r.state z cause kind none)
    (he : z.e = r.e) (hm : z.measured = r.measured) (hb : z.block = r.block) : faultsStation s n r c cause kind := by
  have hany : (s.judging n r).events.any (StationEvent.faultsWith cause) = true := by
    rw [hj]
    simp [faultedAs, StationEvent.faultsWith]
  have hcarried := judgeIf_judged hl hr hany
  rw [hj] at hcarried
  unfold faultedAs at hcarried
  dsimp only at hcarried
  rw [applyJudging_faulted n r.state _ _ s rfl hk] at hcarried
  rw [hcarried] at hexec
  generalize hu : ({ s with stations := _, faults := _, comp := _, port := _ } : State) = u at hexec
  have hport := congrArg State.port hu.symm
  have hpins : u.pins = s.pins := by rw [← hu]
  obtain ⟨hself, hothers⟩ := set_station s n (faultedAs n .run r.state z cause kind none).r
  have hst : (pumpTx u).stations = s.stations.set n (some (faultedAs n .run r.state z cause kind none).r) := by
    rw [pumpTx_stations, ← hu]
    rfl
  have hframe := pumpTx_told hport
  have hemits := emits_of_tellAll hport (by rw [hpins])
  refine ⟨pumpTx u, (faultedAs n .run r.state z cause kind none).r, hexec, by rw [hst]; exact hself, rfl, rfl, rfl, rfl, rfl, rfl,
    rfl, he, hm, by rw [pumpTx_run, ← hu], by rw [hst]; exact hothers, by rw [pumpTx_faults, ← hu, hop], ?_, ?_⟩
  · unfold judgedReport at hemits
    rw [hop] at hemits
    dsimp only at hemits
    rw [hb] at hemits
    exact hemits
  · rw [pumpTx_stations, pumpTx_faults, pumpTx_comp]
    refine hframe.trans ?_
    rw [← hu]

/-- A station that has missed too many observations is lost (R56). -/
theorem faultsStation_lost {s : State} {n : Station} {r : StationRec} {obs : Observation} {cause : MissCause}
    (hl : s.link.running = true) (hr : s.stations[n] = some r) (hop : s.run.op = .run) (ht : s.params.circTrim[n] = r.trimPpm)
    (hobs : s.link.st[n].obs = some obs) (hm : misses r s.params cause obs) (hf : r.state ≠ .faulted) (hmiss : r.miss < 16)
    (hlost : s.params.missLimit < r.miss + 1) :
    faultsStation s n r (.stationLost n cause) (lostCause cause) .stationLost := by
  have hj : s.judging n r =
      faultedAs n .run r.state (r.missedWith cause (min 16 (r.miss + 1))) (lostCause cause) .stationLost none := by
    unfold State.judging
    rw [hobs, hop]
    exact judge_lost ht hm ⟨by decide, .inl hf⟩ (by omega)
  exact faultsStation_of_judging hl hr hop rfl (by decide) hj rfl rfl rfl

section
variable {s : State} {n : Station} {r : StationRec}

/-- A SILENT observation that is not one too many. -/
theorem judging_silent (hop : s.run.op = .run) (ht : s.params.circTrim[n] = r.trimPpm) (hobs : s.link.st[n].obs = some .silent)
    {st : LockState} (hs : r.state = st) (hf : st ≠ .faulted) (hmiss : r.miss < 16) (hlost : r.miss + 1 ≤ s.params.missLimit) :
    s.judging n r = (⟨r.missedWith .silent (r.miss + 1), []⟩ : Judging).tests n s.params .run none st := by
  subst hs
  unfold State.judging
  rw [hobs, hop]
  exact judge_overlooked ht (.inl ⟨rfl, rfl⟩) (fun _ => ⟨by omega, hlost⟩) fun hn => absurd ⟨by decide, .inl hf⟩ hn

variable (hl : s.link.running = true) (hr : s.stations[n] = some r) (hop : s.run.op = .run)
  (ht : s.params.circTrim[n] = r.trimPpm)
include hl hr hop ht

/-- A station that has been in CAPTURE too long (R67). -/
theorem faultsStation_captureFail (hobs : s.link.st[n].obs = some .silent) (hs : r.state = .capture) (hmiss : r.miss < 16)
    (hage : r.age < 65535) (hcycles : 1 ≤ s.params.captureCycles) (hlost : r.miss + 1 ≤ s.params.missLimit)
    (hlimit : s.params.captureLimit < r.age + 1) : faultsStation s n r (.captureFail n) .captureFail .captureFail := by
  have hlong : s.params.captureLimit < (r.missedWith .silent (r.miss + 1)).age := by
    show _ < if r.state = .capture then min 65535 (r.age + 1) else r.age
    rw [if_pos hs]
    omega
  have hj := (judging_silent hop ht hobs hs (by decide) hmiss hlost).trans
    (tests_capture_faults (x := r.missedWith .silent (r.miss + 1)) hs (k := 0) rfl (by omega) hlong)
  rw [← hs] at hj
  exact faultsStation_of_judging hl hr hop rfl (by decide) hj rfl rfl rfl

/-- A station that has been in SLIP too long (R69). -/
theorem faultsStation_slipTime (hobs : s.link.st[n].obs = some .silent) (hs : r.state = .slip) (hmiss : r.miss < 16)
    (htimer : r.slipTimer < 65535) (hlost : r.miss + 1 ≤ s.params.missLimit) (hfar : s.params.lockWindow < r.e.natAbs)
    (hlimit : s.params.slipTime < r.slipTimer + 1) : faultsStation s n r (.slipTimerExpiry n) .slipTime .stationSlip := by
  have hlong : s.params.slipTime < min 65535 ((r.missedWith .silent (r.miss + 1)).slipTimer + 1) := by
    show _ < min 65535 (r.slipTimer + 1)
    omega
  have hj := (judging_silent hop ht hobs hs (by decide) hmiss hlost).trans
    (tests_slip_faults (x := r.missedWith .silent (r.miss + 1)) hs hfar hlong)
  rw [← hs] at hj
  exact faultsStation_of_judging hl hr hop rfl (by decide) hj rfl rfl rfl

end

/-! ### CAPTURED (R66) -/

/-- What GET_STATION shows of one station alone. -/
theorem updateSeen_shows {s : State} {n : Station} {r : StationRec} (hr : s.stations[n] = some r) (y : StationRec) :
    (updateSeen n (fun _ => y) s).comp = seenAfter s (fun m _ => m == n) fun _ _ => y := by
  cases hc : s.comp with
  | none => rw [updateSeen_comp, seenAfter_none hc, hc]; rfl
  | some k =>
    rw [updateSeen_comp, seenAfter_some hc, hc]
    refine congrArg (fun v => some { k with recordsBefore := v }) (Vector.ext fun i hi => ?_)
    have hget := Vector.set_get k.recordsBefore n ⟨i, hi⟩ (k.recordsBefore[n].map fun _ => y)
    refine Eq.trans hget ?_
    rw [Vector.getElem_ofFn]
    by_cases hn : n = ⟨i, hi⟩
    · subst hn
      rw [if_pos rfl, movedSeen_of_some hr]
      simp
    · rw [if_neg hn]
      cases hm : s.stations[(⟨i, hi⟩ : Station)] with
      | none => rw [movedSeen_of_none hm]
      | some q => rw [movedSeen_of_some hm]; simp [Ne.symm hn]

/-- A judging whose one event is a change of lock state. -/
theorem applyJudging_changed {s : State} {n : Station} {r : StationRec} (hr : s.stations[n] = some r) (old : LockState)
    (y : StationRec) {reason : StationReason} (h : reason.byRequest = false) :
    applyJudging n ⟨y, [.changed old y reason]⟩ (updateSeen n (fun _ => y) s) = { s with
      stations := s.stations.set n (some y), comp := seenAfter s (fun m _ => m == n) fun _ _ => y
      port := s.port.tellAll s.params.reportLevel
        [judgedReport s n old y reason (if y.state = .faulted then y.cause else none)] } := by
  have hspeed : shownSpeed (setStation n y (updateSeen n (fun _ => y) s)) s.axle.v = shownSpeed s s.axle.v := by
    have haxle := updateSeen_axleSeen n (fun _ => y) s
    have hleft := axleSeen_speed (updateSeen n (fun _ => y) s)
    rw [haxle, axleSeen_speed] at hleft
    exact hleft.symm
  show stationEvent n (.changed old y reason) (setStation n y (updateSeen n (fun _ => y) s)) = _
  rw [stationEvent_changed n old y _ h, ← updateSeen_shows hr]
  unfold judgedReport
  dsimp only [setStation_axle, updateSeen_axle]
  rw [hspeed]
  rfl

/-- A station that locks by a judging (R66). -/
theorem captured_of_judging {s : State} {n : Station} {r y : StationRec} (hl : s.link.running = true)
    (hr : s.stations[n] = some r) (hj : s.judging n r = ⟨y, [.changed .capture y .captured]⟩) (hy : y.state = .locked) :
    ∃ t, exec (.captured n) s = .next t ∧ t.stations = s.stations.set n (some y) ∧
      emits s t [judgedReport s n .capture y .captured none] ∧
      t = { s with stations := t.stations, comp := seenAfter s (fun m _ => m == n) fun _ _ => y,
                   port := { s.port with reports := t.port.reports, lost := t.port.lost, tx := t.port.tx } } := by
  have hexec : exec (.captured n) s = done (judgeIf StationEvent.captures n s) := rfl
  rw [judgeIf_judged hl hr (by rw [hj]; rfl), hj] at hexec
  dsimp only at hexec
  rw [applyJudging_changed hr .capture y rfl, if_neg (by rw [hy]; decide)] at hexec
  generalize hu : ({ s with stations := _, comp := _, port := _ } : State) = u at hexec
  have hport := congrArg State.port hu.symm
  refine ⟨pumpTx u, hexec, by rw [pumpTx_stations, ← hu], emits_of_tellAll hport (by rw [← hu]), ?_⟩
  rw [pumpTx_stations]
  refine (pumpTx_told hport).trans ?_
  rw [← hu]

/-- The record of a station that an accepted observation has captured (R66). -/
def StationRec.capturedWith (r : StationRec) (now count : Word32) (force : Int) (drive : DriveState) (trip : Nat) : StationRec :=
  ({ r.acceptedWith (r.measured + countDelta count r.lastRaw) now count force drive trip with
      streak := min 64 (r.streak + 1) } : StationRec).toLocked

/-- An observation within the window that completes the capture streak (R65, R66). -/
theorem judging_captured {s : State} {n : Station} {r : StationRec} {count : Word32} {force : Int} {drive : DriveState} {trip : Nat}
    {resp : Option ServiceResponse} (ht : s.params.circTrim[n] = r.trimPpm)
    (hobs : s.link.st[n].obs = some (.valid count force drive trip resp)) (hd : drive ≠ .tripped) (hs : r.state = .capture)
    (hb : r.baseline = true) (hsince : r.since < 65535)
    (hpass : (countDelta count r.lastRaw - (r.intervalFf * ((r.since : Int) + 1)).tdiv 256).natAbs ≤ s.params.jumpLimit)
    (hwindow : ((countDelta count r.lastRaw * 256).tdiv ((r.since : Int) + 1) - r.intervalFf).natAbs ≤ s.params.captureWindow)
    (hstreak : s.params.captureCycles ≤ min 64 (r.streak + 1))
    (h1 : -9223372036854775808 ≤ r.measured + countDelta count r.lastRaw)
    (h2 : r.measured + countDelta count r.lastRaw ≤ 9223372036854775807) :
    let y := r.capturedWith s.run.count count force drive trip
    s.judging n r = ⟨y, [.changed .capture y .captured]⟩ := by
  intro y
  have hcycles : ((min 65535 (r.since + 1) : Nat) : Int) = (r.since : Int) + 1 := by omega
  have hmove : expectedMove r = (r.intervalFf * ((r.since : Int) + 1)).tdiv 256 := by
    unfold expectedMove
    rw [if_neg (by rw [hs]; simp), hcycles]
  have hpos : r.position count = r.measured + countDelta count r.lastRaw := position_baseline hb
  have hnext : (r.acceptedWith (r.measured + countDelta count r.lastRaw) s.run.count count force drive trip).nextStreak
      s.params.captureWindow (speedMeasured r count) = min 64 (r.streak + 1) := by
    rw [nextStreak_accepted, hcycles, if_pos ⟨hb, hwindow⟩]
  have hacc := judge_accepted (n := n) (op := s.run.op) (now := s.run.count) (force := force) (trip := trip) (resp := resp) ht
    (.inr (.inr (by rw [hmove]; exact hpass))) (by rw [hpos]; exact h1) (by rw [hpos]; exact h2)
    (fun hg => by rw [hs] at hg; simp at hg) (.inl hd)
  rw [hpos, hs] at hacc
  unfold State.judging
  rw [hobs]
  exact hacc.trans (tests_capture_completes
    (x := r.acceptedWith (r.measured + countDelta count r.lastRaw) s.run.count count force drive trip) hs hnext hstreak)

/-- Settles O60: the losses of R56, the two limits, and the capture completed. -/
theorem stationThresholds : Obligations.StationThresholds := by
  intro s n r hl hr ht hop hsince hmiss hage htimer hcycles report faulted
  refine ⟨fun hobs => ⟨fun hf hlost => ?_, fun hs hlost hlimit => ?_, fun hs hlost hfar hlimit => ?_⟩, fun hobs hf hlost => ?_,
    fun count force drive trip x hobs hs hb hjump hlost => ?_,
    fun count force drive trip x hobs hd hs hb => ?_⟩
  · exact faultsStation_lost hl hr hop ht hobs (.inl ⟨rfl, rfl⟩) hf hmiss hlost
  · exact faultsStation_captureFail hl hr hop ht hobs hs hmiss hage hcycles hlost hlimit
  · exact faultsStation_slipTime hl hr hop ht hobs hs hmiss htimer hlost hfar hlimit
  · exact faultsStation_lost hl hr hop ht hobs (.inr (.inl ⟨rfl, rfl⟩)) hf hmiss hlost
  · have hf : r.state ≠ .faulted := by rcases hs with hs | hs <;> rw [hs] <;> decide
    refine faultsStation_lost hl hr hop ht hobs
      (.inr (.inr ⟨rfl, hf, hb, count, force, drive, trip, x, rfl, ?_⟩)) hf hmiss hlost
    rw [expectedMove_geared hs]
    exact hjump
  · intro delta k hpass hwindow hstreak h1 h2
    have hj := judging_captured ht hobs hd hs hb hsince hpass hwindow hstreak h1 h2
    obtain ⟨t, hexec, hst, hemits, hframe⟩ := captured_of_judging hl hr hj rfl
    obtain ⟨hself, hothers⟩ := set_station s n (r.capturedWith s.run.count count force drive trip)
    rw [← hst] at hself
    refine ⟨t, _, hexec, hself, rfl, rfl, rfl, rfl, rfl, rfl, rfl, rfl, rfl, ?_, fun m hm => by rw [hst]; exact hothers m hm, hframe⟩
    unfold judgedReport at hemits
    rw [hop] at hemits
    exact hemits

end Sys2Proof.Machine
end

section
/-! SUPPORT for O56. What the wind-up monitor's stage forms of the station records, as the statements give it. -/

namespace Sys2Proof.Machine

/-! ### The participants (R82, R83) -/

theorem surfaceOf_some {s : State} {n : Station} {e : Int} : s.surfaceOf n = some e ↔ ∃ r, s.stations[n] = some r ∧
    (r.state = .locked ∨ r.state = .slip) ∧ r.judgement = some .accepted ∧ e = (r.e * r.cnm).tdiv (r.block.cpr * 1000) := by
  unfold State.surfaceOf
  cases s.stations[n] with
  | none => simp
  | some r =>
    have hpart : r.participates = true ↔ (r.state = .locked ∨ r.state = .slip) ∧ r.judgement = some .accepted := by
      unfold StationRec.participates StationRec.accepted
      rw [Bool.and_eq_true, LockState.geared_iff, beq_iff_eq]
    dsimp only
    by_cases h : r.participates = true
    · rw [if_pos h, Option.some.injEq]
      exact ⟨fun he => ⟨r, rfl, (hpart.mp h).1, (hpart.mp h).2, he.symm⟩, by rintro ⟨_, ⟨⟩, _, _, rfl⟩; rfl⟩
    · rw [if_neg h]
      constructor
      · intro he
        cases he
      · rintro ⟨_, ⟨⟩, hstate, hjudged, _⟩
        exact absurd (hpart.mpr ⟨hstate, hjudged⟩) h

/-- The stations with a surface error. -/
def membersOf (surface : Vector (Option Int) 8) : List Station := stationList.filter fun n : Station => (surface[n]).isSome

/-- The values of a function with their arguments, in the arguments' order. -/
theorem filterMap_paired {α β : Type} (g : α → Option β) (b : β) (l : List α) :
    (l.filterMap fun n => (g n).map fun e => (n, e)) = (l.filter fun n => (g n).isSome).map fun n => (n, (g n).getD b) := by
  induction l with
  | nil => rfl
  | cons n rest ih => cases h : g n <;> simp [h, ih]

theorem participants_eq (surface : Vector (Option Int) 8) :
    participants surface = (membersOf surface).map fun n => (n, (surface[n]).getD 0) :=
  filterMap_paired (fun n : Station => surface[n]) 0 stationList

theorem mem_participants {surface : Vector (Option Int) 8} {n : Station} {e : Int} :
    (n, e) ∈ participants surface ↔ surface[n] = some e := by
  unfold participants
  rw [List.mem_filterMap]
  refine ⟨?_, fun h => ⟨n, mem_stationList n, by rw [h]; rfl⟩⟩
  rintro ⟨m, _, hm⟩
  obtain ⟨x, hx, heq⟩ := Option.map_eq_some_iff.mp hm
  cases heq
  exact hx

/-- The participants stand in the order of their numbers. -/
theorem participants_sorted (surface : Vector (Option Int) 8) :
    (participants surface).Pairwise fun p q => p.1 < q.1 := by
  have hlist : stationList.Pairwise (· < ·) := by decide
  rw [participants_eq, List.pairwise_map]
  exact hlist.filter _

/-! ### Trailing and leading (R84) -/

theorem trailingOf_eq_argmax (l : List (Station × Int)) : trailingOf l = l.argmax Prod.snd := by
  unfold trailingOf List.argmax
  congr 1
  funext best p
  cases best <;> rfl

theorem leadingOf_eq_argmin (l : List (Station × Int)) : leadingOf l = l.argmin Prod.snd := by
  unfold leadingOf List.argmin
  congr 1
  funext best p
  cases best <;> rfl

/-- The earlier of two in a list in the order of the station numbers is the lower-numbered. -/
theorem number_le_of_idxOf_le {α : Type} [DecidableEq α] {f : α → Station} {l : List α} (h : l.Pairwise fun p q => f p < f q)
    {p q : α} (hp : p ∈ l) (hq : q ∈ l) (hle : l.idxOf p ≤ l.idxOf q) : f p ≤ f q := by
  rcases hle.lt_or_eq with hlt | heq
  · have hpq := List.pairwise_iff_getElem.mp h _ _ (List.idxOf_lt_length_of_mem hp) (List.idxOf_lt_length_of_mem hq) hlt
    rw [List.getElem_idxOf, List.getElem_idxOf] at hpq
    exact hpq.le
  · rw [(List.idxOf_inj hp).mp heq]

/-- The station of the largest surface error, the lowest-numbered of equals. -/
theorem trailingOf_participants {surface : Vector (Option Int) 8} (h : participants surface ≠ []) :
    ∃ n x, trailingOf (participants surface) = some (n, x) ∧ surface[n] = some x ∧
      ∀ (m : Station) (e : Int), surface[m] = some e → e ≤ x ∧ (e = x → n ≤ m) := by
  cases hmax : (participants surface).argmax Prod.snd with
  | none => exact absurd (List.argmax_eq_none.mp hmax) h
  | some p =>
    obtain ⟨hmem, hle, hfirst⟩ := List.mem_argmax_iff.mp (Option.mem_def.mpr hmax)
    refine ⟨p.1, p.2, by rw [trailingOf_eq_argmax, hmax], mem_participants.mp hmem, fun m e hm => ?_⟩
    have hin := mem_participants.mpr hm
    exact ⟨hle _ hin, fun he => number_le_of_idxOf_le (participants_sorted surface) hmem hin (hfirst _ hin he.ge)⟩

/-- The station of the smallest surface error, the lowest-numbered of equals. -/
theorem leadingOf_participants {surface : Vector (Option Int) 8} (h : participants surface ≠ []) :
    ∃ n x, leadingOf (participants surface) = some (n, x) ∧ surface[n] = some x ∧
      ∀ (m : Station) (e : Int), surface[m] = some e → x ≤ e ∧ (e = x → n ≤ m) := by
  cases hmin : (participants surface).argmin Prod.snd with
  | none => exact absurd (List.argmin_eq_none.mp hmin) h
  | some p =>
    obtain ⟨hmem, hle, hfirst⟩ := List.mem_argmin_iff.mp (Option.mem_def.mpr hmin)
    refine ⟨p.1, p.2, by rw [leadingOf_eq_argmin, hmin], mem_participants.mp hmem, fun m e hm => ?_⟩
    have hin := mem_participants.mpr hm
    exact ⟨hle _ hin, fun he => number_le_of_idxOf_le (participants_sorted surface) hmem hin (hfirst _ hin he.le)⟩

/-! ### The measures of a stage (R84 to R87) -/

theorem membersOf_length (surface : Vector (Option Int) 8) : (membersOf surface).length = (participants surface).length := by
  rw [participants_eq, List.length_map]

theorem meanOf_participants {surface : Vector (Option Int) 8} (h : participants surface ≠ []) :
    meanOf ((participants surface).map Prod.snd) = some
      (((membersOf surface).map fun n : Station => (surface[n]).getD 0).sum.tdiv (membersOf surface).length) := by
  unfold meanOf
  rw [if_neg (by simpa using h), List.length_map, ← membersOf_length, participants_eq, List.map_map]
  rfl

theorem crossOf_some {s : State} {surface : Vector (Option Int) 8} {n : Station} {r : StationRec} {e : Int}
    (hr : s.stations[n] = some r) (he : surface[n] = some e) (mean : Option Int) :
    s.crossOf surface mean n = some ((mean.map (crossTerm s.params.kx r e)).getD 0) := by
  unfold State.crossOf
  rw [hr, he]
  cases mean <;> rfl

/-- A station has a cross term exactly where it has a surface error. -/
theorem crossOf_isSome (s : State) (mean : Option Int) (n : Station) :
    (s.crossOf (ofEight s.surfaceOf) mean n).isSome = (s.surfaceOf n).isSome := by
  cases he : s.surfaceOf n with
  | none =>
    unfold State.crossOf
    rw [ofEight_get, he]
    cases s.stations[n] <;> rfl
  | some e =>
    obtain ⟨r, hr, _⟩ := surfaceOf_some.mp he
    rw [crossOf_some hr ((ofEight_get _ n).trans he) mean]
    rfl

theorem monitorNext_surface (s : State) (n : Station) : s.monitorNext.surface[n] = s.surfaceOf n := ofEight_get _ n

/-- With fewer than two participants nothing is measured (R84 to R87). -/
theorem monitorNext_few {s : State} (h : (membersOf s.monitorNext.surface).length < 2) :
    s.monitorNext.spread = none ∧ s.monitorNext.mean = none ∧ s.monitorNext.leading = none ∧
      s.monitorNext.trailing = none ∧ s.monitorNext.timer = 0 ∧ s.monitorNext.warn = false ∧
      ∀ (n : Station) (x : Int), s.monitorNext.cross[n] = some x → x = 0 := by
  have htwo : decide (2 ≤ (participants (ofEight s.surfaceOf)).length) = false := by
    rw [decide_eq_false_iff_not, ← membersOf_length]
    exact Nat.not_le.mpr h
  unfold State.monitorNext
  simp only [htwo, Bool.false_eq_true, if_false, true_and]
  refine ⟨rfl, rfl, rfl, rfl, fun n x hx => ?_⟩
  rw [ofEight_get] at hx
  unfold State.crossOf at hx
  split at hx
  · exact (Option.some.inj hx).symm
  · cases hx

/-- With two participants or more: trailing and leading station, spread, mean (R84). -/
theorem monitorNext_many {s : State} (h : 2 ≤ (membersOf s.monitorNext.surface).length) :
    ∃ (lead trail : Station) (lo hi : Int),
    s.monitorNext.leading = some lead ∧ s.monitorNext.trailing = some trail ∧
    s.monitorNext.surface[lead] = some lo ∧ s.monitorNext.surface[trail] = some hi ∧ s.monitorNext.spread = some (hi - lo) ∧
    s.monitorNext.mean = meanOf ((participants s.monitorNext.surface).map Prod.snd) ∧
    ∀ (n : Station) (e : Int), s.monitorNext.surface[n] = some e →
      lo ≤ e ∧ e ≤ hi ∧ (e = lo → lead ≤ n) ∧ (e = hi → trail ≤ n) := by
  have hlen : 2 ≤ (participants (ofEight s.surfaceOf)).length := by
    rw [← membersOf_length]
    exact h
  have hne : participants (ofEight s.surfaceOf) ≠ [] := List.ne_nil_of_length_pos (by omega)
  obtain ⟨trail, hi, htrail, hhi, hmost⟩ := trailingOf_participants hne
  obtain ⟨lead, lo, hlead, hlo, hleast⟩ := leadingOf_participants hne
  refine ⟨lead, trail, lo, hi, ?_, ?_, hlo, hhi, ?_, ?_, fun n e he =>
    ⟨(hleast n e he).1, (hmost n e he).1, (hleast n e he).2, (hmost n e he).2⟩⟩
  all_goals
    unfold State.monitorNext
    simp only [hlen, decide_true, if_true, htrail, hlead, Option.map_some]

theorem monitorNext_cross (s : State) (n : Station) :
    s.monitorNext.cross[n] = s.crossOf s.monitorNext.surface s.monitorNext.mean n := ofEight_get _ n

/-! ### The summaries (R89) -/

/-- The forces of the accepted observations of an axle's stations. -/
def State.forcesOn (s : State) (a : Fin 4) : List Int :=
  stationList.filterMap fun n : Station => match s.stations[n] with
    | some r => if r.block.axle = a ∧ r.judgement = some .accepted then some (r.force.getD 0) else none
    | none => none

/-- The surface errors of an axle's participants. -/
def State.errorsOn (s : State) (surface : Vector (Option Int) 8) (a : Fin 4) : List Int :=
  stationList.filterMap fun n : Station => match s.stations[n] with
    | some r => if r.block.axle = a then surface[n] else none
    | none => none

theorem onAxle_forces (s : State) (a : Fin 4) :
    ((s.onAxle a).filter fun p => p.2.accepted).map (fun p => p.2.force.getD 0) = s.forcesOn a := by
  unfold State.onAxle State.forcesOn
  rw [List.filter_filterMap, List.map_filterMap]
  refine List.filterMap_congr fun n _ => ?_
  cases s.stations[n] with
  | none => rfl
  | some r =>
    have hacc : r.accepted = decide (r.judgement = some .accepted) := by
      unfold StationRec.accepted
      rw [Bool.eq_iff_iff, beq_iff_eq, decide_eq_true_iff]
    dsimp only
    by_cases hx : r.block.axle = a <;> by_cases hj : r.judgement = some .accepted <;> simp [hx, hj, hacc]

theorem onAxle_errors (s : State) (surface : Vector (Option Int) 8) (a : Fin 4) :
    ((s.onAxle a).filterMap fun p => surface[p.1]) = s.errorsOn surface a := by
  unfold State.onAxle State.errorsOn
  rw [List.filterMap_filterMap]
  refine List.filterMap_congr fun n _ => ?_
  cases s.stations[n] with
  | none => rfl
  | some r => by_cases hx : r.block.axle = a <;> simp [hx]

theorem summarise_eq (s : State) (surface : Vector (Option Int) 8) (a : Fin 4) : s.summarise surface a =
    { contributors := (s.forcesOn a).length, force := (s.forcesOn a).sum, participants := (s.errorsOn surface a).length
      mean := if s.errorsOn surface a = [] then none
        else some ((s.errorsOn surface a).sum.tdiv (s.errorsOn surface a).length) } := by
  rw [← onAxle_forces, ← onAxle_errors, List.length_map]
  rfl

theorem monitorNext_summaries (s : State) (a : Fin 4) :
    s.monitorNext.summaries[a] = s.summarise s.monitorNext.surface a := by
  match a with | 0 => rfl | 1 => rfl | 2 => rfl | 3 => rfl

/-! ### The stage as a whole -/

/-- What the monitor's stage forms of any state is what the statements say. -/
theorem monitorNext_monitorOf (s : State) : monitorOf s s.monitor.timer s.monitorNext := by
  refine ⟨fun n e => ?_, fun n => ⟨inMask_maskOf _ n, ?_⟩, monitorNext_few, fun h => ?_, fun a => ?_⟩
  · rw [monitorNext_surface, surfaceOf_some]
  · rw [monitorNext_cross, monitorNext_surface]
    exact crossOf_isSome s _ n
  · obtain ⟨lead, trail, lo, hi, hlead, htrail, hlo, hhi, hspread, hmean, hbounds⟩ := monitorNext_many h
    have hlen : 2 ≤ (membersOf s.monitorNext.surface).length := h
    rw [membersOf_length] at hlen
    have hne : participants s.monitorNext.surface ≠ [] := List.ne_nil_of_length_pos (by omega)
    rw [meanOf_participants hne] at hmean
    refine ⟨lead, trail, lo, hi, _, hlead, htrail, hlo, hhi, hspread, hmean, rfl, hbounds, fun n e r he hr => ?_, ?_, ?_⟩
    · rw [monitorNext_cross, crossOf_some hr he, hmean]
      rfl
    · rw [monitorNext_timer, hspread]
      unfold nextWindupTimer spreadAbove satAdd
      simp only [decide_eq_true_eq]
    · rw [monitorNext_warn, hspread]
      rfl
  · rw [monitorNext_summaries, summarise_eq]
    rfl

end Sys2Proof.Machine
end

section
/-! SUPPORT for O56. The monitor a cycle close leaves is the one its stage forms of the records the close leaves. -/

namespace Sys2Proof.Machine

/-! ### What the stage reads of a record (R82 to R85, R89) -/

/-- Two records the monitor's stage does not tell apart. -/
structure MeasuredAlike (q r : StationRec) : Prop where
  block : r.block = q.block
  cnm : r.cnm = q.cnm
  state : r.state = q.state
  judgement : r.judgement = q.judgement
  e : r.e = q.e
  force : r.force = q.force

theorem assemble_alike (r : StationRec) (p : Params) (op : OpState) (cross : Int) : MeasuredAlike r (r.assemble p op cross) := by
  unfold StationRec.assemble
  dsimp only
  cases hs : r.state with
  | idle => exact ⟨rfl, rfl, hs.symm, rfl, rfl, rfl⟩
  | capture => exact ⟨rfl, rfl, hs.symm, rfl, rfl, rfl⟩
  | locked => exact ⟨rfl, rfl, hs.symm, rfl, rfl, rfl⟩
  | slip => exact ⟨rfl, rfl, hs.symm, rfl, rfl, rfl⟩
  | faulted =>
    dsimp only
    cases faultCommandOf op r.cause with
    | follow => exact ⟨rfl, rfl, hs.symm, rfl, rfl, rfl⟩
    | torqueOff => exact ⟨rfl, rfl, hs.symm, rfl, rfl, rfl⟩

section
variable {s t : State} {f : Station → StationRec → StationRec} (hst : ∀ n : Station, t.stations[n] = s.stations[n].map (f n))
  (hf : ∀ n r, MeasuredAlike r (f n r))
include hst hf

theorem surfaceOf_alike (n : Station) : t.surfaceOf n = s.surfaceOf n := by
  unfold State.surfaceOf
  rw [hst n]
  cases s.stations[n] with
  | none => rfl
  | some r =>
    have h := hf n r
    show (if (f n r).participates then some (f n r).surfaceError else none) = _
    unfold StationRec.participates StationRec.accepted StationRec.surfaceError
    rw [h.block, h.cnm, h.state, h.judgement, h.e]

theorem crossOf_alike (hp : t.params = s.params) (surface : Vector (Option Int) 8) (mean : Option Int) (n : Station) :
    t.crossOf surface mean n = s.crossOf surface mean n := by
  unfold State.crossOf crossTerm
  rw [hst n, hp]
  cases s.stations[n] with
  | none => rfl
  | some r =>
    have h := hf n r
    cases surface[n] with
    | none => rfl
    | some e =>
      dsimp only [Option.map_some]
      rw [h.block, h.cnm]

theorem forcesOn_alike (a : Fin 4) : t.forcesOn a = s.forcesOn a := by
  refine List.filterMap_congr fun n _ => ?_
  rw [hst n]
  cases s.stations[n] with
  | none => rfl
  | some r =>
    have h := hf n r
    dsimp only [Option.map_some]
    rw [h.block, h.judgement, h.force]

theorem errorsOn_alike (surface : Vector (Option Int) 8) (a : Fin 4) : t.errorsOn surface a = s.errorsOn surface a := by
  refine List.filterMap_congr fun n _ => ?_
  rw [hst n]
  cases s.stations[n] with
  | none => rfl
  | some r =>
    dsimp only [Option.map_some]
    rw [(hf n r).block]

theorem summarise_alike (surface : Vector (Option Int) 8) (a : Fin 4) : t.summarise surface a = s.summarise surface a := by
  rw [summarise_eq, summarise_eq, forcesOn_alike hst hf, errorsOn_alike hst hf]

theorem monitorNext_alike (hp : t.params = s.params) (hc : t.cell = s.cell) (hm : t.monitor.timer = s.monitor.timer) :
    t.monitorNext = s.monitorNext := by
  have hsurface : t.surfaceOf = s.surfaceOf := funext (surfaceOf_alike hst hf)
  have hcross : t.crossOf = s.crossOf := by
    funext surface mean n
    exact crossOf_alike hst hf hp surface mean n
  have hsummary : t.summarise = s.summarise := by
    funext surface a
    exact summarise_alike hst hf surface a
  unfold State.monitorNext
  rw [hsurface, hcross, hsummary, hc, hm]

end

/-! ### The stages (R48, R81) -/

/-- The monitor the stages leave is formed of the records they leave, for the assembly changes nothing the monitor reads. -/
theorem stages_monitor (w : State) (hc : w.comp = none) :
    monitorOf (stages w) w.monitor.timer (stages w).monitor := by
  have hmonitor : (axleStage (judgeStage w)).monitor = w.monitor := by
    rw [(axleStage_told _).2.2, (judgeStage_told w hc).2]
  unfold stages
  generalize axleStage (judgeStage w) = b at hmonitor ⊢
  have hcm : (gearStage b).monitor = w.monitor := hmonitor
  generalize gearStage b = c at hcm ⊢
  have hd := windupStage_braked c
  generalize windupStage c = d at hd ⊢
  have ht := (countLocks_told (assembleStage d)).2
  generalize countLocks (assembleStage d) = t at ht ⊢
  have hst : ∀ n : Station, t.stations[n] = c.stations[n].map fun r =>
      r.assemble d.params d.run.op (d.monitor.cross[n].getD 0) := fun n => by
    have h1 : t.stations = (assembleStage d).stations := by rw [ht]
    have h2 : d.stations = c.stations := by rw [hd]; rfl
    rw [h1, ← h2]
    exact mapStations_get _ d n
  have hparams : t.params = c.params := by rw [ht, hd]; rfl
  have hstore : t.store = c.store := by rw [ht, hd]; rfl
  have hnext : t.monitor = c.monitorNext := by rw [ht, hd]; rfl
  have halike : ({ t with monitor := w.monitor } : State).monitorNext = c.monitorNext :=
    monitorNext_alike hst (fun n r => assemble_alike r _ _ _) hparams (cell_of_store hstore) (by rw [hcm])
  rw [hnext, ← halike]
  exact monitorNext_monitorOf { t with monitor := w.monitor }

theorem compute_monitor (x : State) (hc : x.comp = none) : monitorOf (compute x) x.monitor.timer (compute x).monitor := by
  have h := stages_monitor (computeBegun x) hc
  rw [compute_eq]
  generalize stages (computeBegun x) = t at h ⊢
  exact h

theorem monitorOf_pumped {s : State} {timer : Nat} (h : monitorOf s timer s.monitor) :
    monitorOf (pumpTx s) timer (pumpTx s).monitor := by
  obtain ⟨x, q, hs⟩ := pumpTx_port s
  rw [hs]
  exact h

end Sys2Proof.Machine
end

section
/-! O56: WINDUP and WINDUP_WARN at a cycle close. -/

namespace Sys2Proof.Machine

/-! ### The raises of a computation that carry the spread (R86, R87) -/

theorem computeActs_eq (w t : State) : computeActs w t = stationList.flatMap (judgeActs w) ++
    ((if w.run.op = .run ∧ overspeeds w t.axle.fSum = true then [.inl { kind := .overspeed }] else []) ++ monitorActs w t) := by
  unfold computeActs monitorActs
  simp only [List.flatten_cons]

theorem monitorActs_detail {w t : State} {f : Raise} (h : .inl f ∈ monitorActs w t) : f.detail = spreadDetail t.monitor := by
  unfold monitorActs at h
  simp only [List.flatten_cons, List.flatten_nil, List.append_nil, List.mem_append] at h
  rcases h with h | h | h
  · split at h
    · cases List.mem_singleton.mp h
      rfl
    · cases h
  · split at h
    · cases List.mem_singleton.mp h
      rfl
    · cases h
  · obtain ⟨b, _, hb⟩ := List.mem_map.mp h
    cases hb

/-- A raise of the monitor's stage is recorded with the spread and the trailing station, whatever else the computation raises. -/
theorem Follows.monitor_listed {w t : State} (hf : Follows (computeActs w t) w t) {f : Raise} (h : .inl f ∈ monitorActs w t) :
    listed t.faults f.kind f.station f.lane f.detail := by
  have hother : f.kind.level ≠ 3 ∧ f.kind ≠ .overspeed := by
    rcases monitorActs_kind h with hk | hk <;> rw [hk] <;> decide
  have hone : OneDetail (computeActs w t) f.kind f.detail := by
    intro g hg hk
    rw [computeActs_eq, List.mem_append, List.mem_append] at hg
    rcases hg with hg | hg | hg
    · exact absurd (hk ▸ judgeActs_level hg) hother.1
    · split at hg
      · cases List.mem_singleton.mp hg
        exact absurd hk.symm hother.2
      · cases hg
    · rw [monitorActs_detail hg, monitorActs_detail h]
  rw [hf.faults]
  exact course_listed w w.run.count hone (by rw [computeActs_eq]; simp [h]) w.faults w.run.op

theorem monitorActs_windup {w t : State} (h0 : w.monitor.timer = w.cell.windupTime) (h1 : t.monitor.timer = w.cell.windupTime + 1) :
    ∃ rest, monitorActs w t = .inl { kind := .windup, detail := spreadDetail t.monitor } :: rest := by
  unfold monitorActs
  rw [if_pos ⟨h0, h1⟩]
  exact ⟨_, rfl⟩

theorem monitorActs_warn {w t : State} (h0 : w.monitor.warn = false) (h1 : t.monitor.warn = true) :
    .inl { kind := .windupWarn, detail := spreadDetail t.monitor } ∈ monitorActs w t := by
  unfold monitorActs
  rw [if_pos (⟨h0, h1⟩ : w.monitor.warn = false ∧ t.monitor.warn = true)]
  simp

/-- WINDUP in RUN, no reaction above level 3 standing: the part is in STOPPING under reaction level 2, by OVERSPEED of the same
computation or by WINDUP (R86, R126, R140). -/
theorem Follows.windup_stops {w t : State} (hf : Follows (computeActs w t) w t) (hop : w.run.op = .run)
    (hm : Mild w.faults.reaction) (h0 : w.monitor.timer = w.cell.windupTime) (h1 : t.monitor.timer = w.cell.windupTime + 1) :
    t.run.op = .stopping ∧ t.run.stopCause = some .fault ∧ t.faults.reaction = .two := by
  by_cases hover : overspeeds w t.axle.fSum = true
  · exact (hf.overspeed hop hover).2 hm
  · obtain ⟨rest, hrest⟩ := monitorActs_windup h0 h1
    have hlow : ∀ g, .inl g ∈ rest → 2 ≤ g.kind.level := fun g hg => by
      rcases monitorActs_kind (w := w) (t := t) (f := g) (by rw [hrest]; simp [hg]) with h | h <;> rw [h] <;> decide
    have hfaults := hf.faults
    have hopen := hf.op
    rw [computeActs_eq, if_neg (fun h => hover h.2), List.nil_append, hrest, hop] at hfaults hopen
    obtain ⟨htwo, hstop⟩ := course_stops w w.run.count (m := w.faults) (b := rest)
      (f := { kind := .windup, detail := spreadDetail t.monitor }) (fun g hg => (judgeActs_level hg).ge) hlow rfl hm
    rw [← hopen] at hstop
    exact ⟨hstop, (hf.stops hop hstop).2, by rw [hfaults, htwo]⟩

/-! ### The close -/

/-- Checks that have not entered SAFE from RUN stand in RUN, with no reaction above level 3 if none stood before. -/
theorem ChecksOut.runs {s x u : State} {c d : Word32} {acts : List (Raise ⊕ ReportBody)} (h : ChecksOut s c d x)
    (hf : Follows acts x u) (hop : s.run.op = .run) (hsafe : u.run.op ≠ .safe) :
    x.run.op = .run ∧ (Mild s.faults.reaction → Mild x.faults.reaction) := by
  cases h with
  | quiet op h =>
    refine ⟨op.trans hop, fun hm => ?_⟩
    rw [h.faults]
    exact (course_mild s c s.run.op (closeActs_low s) hm).1
  | settled before op h =>
    rw [hop] at before
    cases before
  | lost before h => exact absurd ((hf.op_other (by rw [h.op]; simp)).trans h.op) hsafe

/-- Settles O56: the stage forms what the statements say of any state, the close leaves it so, and the raises of the stage are
recorded and stop the run. -/
theorem monitorMeasuresWindUp : Obligations.MonitorMeasuresWindUp := by
  refine ⟨fun s hrunning => ?_, monitorNext_monitorOf⟩
  obtain ⟨c, d, x, hexec, _, _, hout⟩ := cycleClose_out s hrunning
  have hk := hout.checked
  have hcell := cell_of_store hk.store
  have hf := (compute_told x hk.comp).1
  have hmonitor := compute_monitor x hk.comp
  rw [hk.monitor] at hmonitor
  generalize compute x = u at hexec hf hmonitor
  refine ⟨pumpTx u, hexec, monitorOf_pumped hmonitor, ?_, ?_⟩
  all_goals rw [pumpTx_monitor, pumpTx_faults, ← hk.monitor]
  · rw [pumpTx_run, ← hcell]
    intro h0 h1
    obtain ⟨rest, hrest⟩ := monitorActs_windup h0 h1
    refine ⟨hf.monitor_listed (f := { kind := .windup, detail := spreadDetail u.monitor }) (by rw [hrest]; simp),
      fun hop hsafe hm => ?_⟩
    obtain ⟨hrun, hmild⟩ := hout.runs hf hop hsafe
    exact hf.windup_stops hrun (hmild hm) h0 h1
  · intro h0 h1
    exact hf.monitor_listed (monitorActs_warn h0 h1)

end Sys2Proof.Machine
end

section
/-! O36: APPEND_SEGMENT and DISCARD_SEGMENTS. -/

namespace Sys2Proof.Machine

/-- A segment's fields in their ranges, as the statement gives them (R94). -/
theorem segmentInRange_iff (vmax : Nat) (g : Segment) : segmentInRange vmax g = true ↔
    1 ≤ g.points.length ∧ g.points.length ≤ 48 ∧ (∀ p ∈ g.points, 1 ≤ p.duration ∧ p.speed ≤ vmax) ∧
      -3000 ≤ g.grade ∧ g.grade ≤ 3000 ∧ ∀ p, g.phase = some p → p ≤ 15 := by
  unfold segmentInRange within
  cases hp : g.phase <;> simp [and_assoc]

section
variable {v : State} {g : Segment}

theorem takeAppend_wrongState (h1 : v.run.op ≠ .ready) (h2 : v.run.op ≠ .run) : takeAppend g v = (v, answer .wrongState) :=
  if_pos ⟨h1, h2⟩

variable (hop : v.run.op = .ready ∨ v.run.op = .run)
include hop

theorem takeAppend_badValue (h : segmentInRange v.cell.vmax g = false) : takeAppend g v = (v, answer .badValue) := by
  unfold takeAppend
  rw [if_neg (by tauto), h]
  rfl

theorem takeAppend_full (h : segmentInRange v.cell.vmax g = true) (hw : 4 ≤ v.player.waiting.length) :
    takeAppend g v = (v, answer .queueFull) := by
  unfold takeAppend
  rw [if_neg (by tauto), h, if_neg (by decide), if_pos hw]

theorem takeAppend_queued (h : segmentInRange v.cell.vmax g = true) (hw : v.player.waiting.length < 4) :
    takeAppend g v = ({ v with player := { v.player with waiting := v.player.waiting ++ [g] } },
      okWith [.u8 (v.player.waiting.length + 1)]) := by
  unfold takeAppend
  rw [if_neg (by tauto), h, if_neg (by decide), if_neg (by omega)]
end

/-- Settles O36: the request's cases in the order of its checks, and the queue emptied. -/
theorem segmentsAreQueued : Obligations.SegmentsAreQueued := by
  intro s tag g h
  obtain ⟨⟨_, _, h3, h4, h5⟩, _⟩ := id h
  have hgood := segmentInRange_iff s.cell.vmax g
  have refused {st : Status} (hx : takeAppend g (s.taking ⟨0x0A#8, tag, .appendSegment g⟩) =
      (s.taking ⟨0x0A#8, tag, .appendSegment g⟩, answer st)) :
      exec (.appendSegment tag g) s = .next (s.withReply 0x8A#8 tag st []) :=
    refused_answered h (by decide) nofun nofun (congrArg now hx)
  dsimp only
  refine ⟨?_, fun hr hn => refused (takeAppend_wrongState hr hn), fun hop => ⟨fun hbad => ?_, fun hok hw => ?_, fun hok hw => ?_⟩⟩
  · exact request_answered s { s.taking ⟨0x0B#8, tag, .discardSegments⟩ with player := { s.player with waiting := [] } }
      0x0B#8 tag .discardSegments .ok _ h (by decide) nofun nofun rfl rfl h3 h4 h5 rfl
  · exact refused (takeAppend_badValue hop (Bool.eq_false_iff.mpr (hgood.not.mpr hbad)))
  · exact refused (takeAppend_full hop (hgood.mpr hok) hw)
  · exact request_answered s { s.taking ⟨0x0A#8, tag, .appendSegment g⟩ with
        player := { s.player with waiting := s.player.waiting ++ [g] } } 0x0A#8 tag (.appendSegment g) .ok _ h (by decide) nofun
      nofun (congrArg now (takeAppend_queued (v := s.taking ⟨0x0A#8, tag, .appendSegment g⟩) hop (hgood.mpr hok) hw)) rfl h3 h4
      h5 rfl

end Sys2Proof.Machine
end

section
/-! SUPPORT. What the player's operations leave: an entry to STOPPING, the profile's end, a segment start, an underrun, each as
one equality of states with its reports. -/

namespace Sys2Proof.Machine

/-! ### Entry to STOPPING and the profile's end (R109, R126) -/

/-- The run controller after an entry to STOPPING. -/
def Run.stoppedBy (r : Run) (c : StopCause) : Run := { r with op := .stopping, stopCause := some c }

/-- The player after its profile's end. -/
def Player.endedBy (y : Player) (reason : EndReason) : Player := { y with active := none, mode := .ended, ended := some reason }

/-- The reports of an entry to STOPPING that no fault makes: PROFILE_END where the player ends, then STATE. -/
def stopTold (r : Run) (y : Player) (c : StopCause) : List Told :=
  (if endsInStop y then [(r.count, .stopping, .profileEnd .stopped y.lastTag y.clock)] else []) ++
    [stateReport r .run .stopping c.stateCause]

theorem enterStopping_told (c : StopCause) {s : State} (h : s.run.op = .run) : enterStopping c none s = { s with
    run := s.run.stoppedBy c, player := playerStopped s.player
    port := s.port.tellAll s.params.reportLevel (stopTold s.run s.player c) } := by
  unfold enterStopping
  rw [if_pos h]
  dsimp only
  rw [playerStop_eq, submitState_eq, submit_tell]
  unfold stopTold
  rw [tellAll_append]
  rfl

theorem playerEnd_told (reason : EndReason) (s : State) : playerEnd reason s = { s with
    player := s.player.endedBy reason
    port := s.port.tellAll s.params.reportLevel
      [(s.run.count, s.run.op, .profileEnd reason s.player.lastTag s.player.clock)] } := by
  unfold playerEnd
  rw [submit_tell]
  rfl

/-- The run controller after the profile's end, which stops a SPEED run. -/
def Run.profileEnded (r : Run) : Run := if r.mode = .speed ∧ r.op = .run then r.stoppedBy .profileEnd else r

/-- The reports of a profile's end: PROFILE_END, and STATE where it stops the run. -/
def endTold (r : Run) (y : Player) (reason : EndReason) : List Told :=
  (r.count, r.op, .profileEnd reason y.lastTag y.clock) ::
    if r.mode = .speed ∧ r.op = .run then [stateReport r .run .stopping .profileEnd] else []

theorem endProfile_told (reason : EndReason) (s : State) : endProfile reason s = { s with
    player := s.player.endedBy reason, run := s.run.profileEnded
    port := s.port.tellAll s.params.reportLevel (endTold s.run s.player reason) } := by
  unfold endProfile Run.profileEnded endTold
  rw [playerEnd_told]
  dsimp only
  cases hm : s.run.mode with
  | road => rfl
  | speed =>
    by_cases hop : s.run.op = .run
    · dsimp only
      rw [enterStopping_told .profileEnd (by exact hop), if_pos ⟨rfl, hop⟩, if_pos ⟨rfl, hop⟩]
      rfl
    · dsimp only
      rw [enterStopping_outside _ _ _ (by exact hop), if_neg (fun h => hop h.2), if_neg (fun h => hop h.2)]

/-! ### A segment start (R101, R102) -/

/-- The player after the start of a segment, with what still waits. -/
def Player.begins (y : Player) (g : Segment) (rest : List Segment) : Player :=
  { y with
    active := some g, waiting := rest, mode := .playing, point := 0, elapsed := 0, start := y.speed, lastTag := some g.tag
    phase := if g.phase = none then y.phase else g.phase, phaseTol := if g.phase = none then y.phaseTol else 0 }

theorem startSegment_told (g : Segment) (rest : List Segment) (s : State) : startSegment g rest s = { s with
    player := s.player.begins g rest
    axle := { s.axle with grade := g.grade }
    events := { s.events with markPending := s.events.markPending || g.phase.isSome }
    port := s.port.tellAll s.params.reportLevel
      (startReports s.run.count s.run.op g rest.length s.player.clock s.player.phase s.player.phaseTol) } := by
  unfold Player.begins startReports
  cases hp : g.phase with
  | none =>
    rw [startSegment_none hp, segmentBegun, Option.isSome_none, Bool.or_false]
    rfl
  | some p =>
    rw [startSegment_some hp, segmentBegun, openPhase_tell, Option.isSome_some, Bool.or_true]
    rfl

/-! ### Underrun (R106, R107) -/

/-- The raise of an underrun. -/
def underrunRaise : Raise := { kind := .underrun }

/-- The player in UNDERRUN. -/
def Player.starved (y : Player) : Player := { y with active := none, mode := .underrun }

theorem underrunTest_stops {s : State} (h : s.run.mode = .speed ∧ s.inForce.underrunStop = true) (hop : s.run.op = .run) :
    underrunTest s = { s with
      run := s.run.stoppedBy .underrunStop, player := playerStopped s.player
      port := s.port.tellAll s.params.reportLevel (stopTold s.run s.player .underrunStop) } :=
  (if_pos h).trans (enterStopping_told .underrunStop hop)

theorem underrunTest_stays {s : State} (h : s.run.mode = .road ∨ s.inForce.underrunStop = false ∨ s.run.op ≠ .run) :
    underrunTest s = s := by
  unfold underrunTest
  split
  · rename_i hs
    refine enterStopping_outside _ _ s ?_
    rcases h with h | h | h
    · rw [h] at hs
      cases hs.1
    · rw [h] at hs
      cases hs.2
    · exact h
  · rfl

/-- UNDERRUN entered, its raise recorded and reported, before the test of the policy. -/
def underrunRaised (s : State) : State := raised underrunRaise { s with player := s.player.starved }

theorem enterUnderrun_eq (s : State) : enterUnderrun s = underrunTest (underrunRaised s) := by
  unfold enterUnderrun
  rw [raiseFault_raised (by decide)]
  rfl

end Sys2Proof.Machine
end

section
/-! O39: STOP_RUN and the orderly run reset. -/

namespace Sys2Proof.Machine

section
variable {v : State}

theorem takeStopRun_run (h : v.run.op = .run) : takeStopRun v = (enterStopping .stopRun none v, answer .ok) := by
  unfold takeStopRun
  rw [h]

theorem takeStopRun_stopping (h : v.run.op = .stopping) : takeStopRun v = (v, answer .ok) := by
  unfold takeStopRun
  rw [h]

theorem takeStopRun_wrongState (h1 : v.run.op ≠ .run) (h2 : v.run.op ≠ .stopping) : takeStopRun v = (v, answer .wrongState) := by
  unfold takeStopRun
  split
  · contradiction
  · contradiction
  · rfl

theorem takeReset_orderly {stay : Nat} (h : stay ≤ 1) (v : State) : takeReset 1 0 stay v = takeResetRun true v := by
  unfold takeReset
  rw [if_neg (by omega), if_neg (by decide)]
  rfl

theorem takeResetRun_run (h : v.run.op = .run) : takeResetRun true v =
    (enterStopping .orderlyReset none { v with run := { v.run with orderly := true } }, answer .ok) := by
  unfold takeResetRun
  rw [if_neg (by simp [h]), if_pos ⟨rfl, h⟩]

theorem takeResetRun_stopping (h : v.run.op = .stopping) :
    takeResetRun true v = ({ v with run := { v.run with orderly := true } }, answer .ok) := by
  unfold takeResetRun
  rw [if_neg (by simp [h]), if_neg (by simp [h]), if_pos ⟨rfl, h⟩]
end

/-- A request that makes the entry to STOPPING, from the state its block has prepared: `r` is the run controller there. -/
theorem request_stops {s : State} {kind tag : Byte} {req : Request} {r : Run} {c : StopCause} (h : s.takes)
    (hk : kind.toNat < 128) (hb : req ≠ .badKind) (hl : req ≠ .badLength) (hop : r.op = .run)
    (ht : takeBlock req (s.taking ⟨kind, tag, req⟩) =
      now (enterStopping c none { s.taking ⟨kind, tag, req⟩ with run := r }, answer .ok)) :
    ∃ t, request kind tag req s = .next t ∧ t.run = r.stoppedBy c ∧ t.player = playerStopped s.player ∧
      submits s t (stopTold r s.player c) ∧
      repliedBy { s with run := r.stoppedBy c, player := playerStopped s.player } t (kind + 128#8) tag .ok [] := by
  rw [enterStopping_told c (by exact hop)] at ht
  obtain ⟨h1, h2, h3⟩ := request_told h hk hb hl (ht := ht) (l := stopTold r s.player c)
    (s' := { s with run := r.stoppedBy c, player := playerStopped s.player }) ⟨rfl, rfl⟩ rfl rfl
  exact ⟨_, h1, rfl, rfl, h2, h3⟩

/-- Settles O39: either request makes the entry to STOPPING in RUN; in STOPPING and elsewhere the rules answer. -/
theorem stopRunEntersStopping : Obligations.StopRunEntersStopping := by
  intro s tag stay h hstay
  obtain ⟨⟨_, _, h3, h4, h5⟩, _⟩ := id h
  refine ⟨fun hop orderly => ?_, fun hop => ⟨?_, ?_⟩, fun h1 h2 => ?_⟩
  · cases orderly with
    | false =>
      obtain ⟨t, hexec, hrun, hplayer, hsub, hrep⟩ := request_stops (kind := 0x0D#8) (tag := tag) (req := .stopRun) (r := s.run)
        (c := .stopRun) h (by decide) nofun nofun hop
        (congrArg now (takeStopRun_run (v := s.taking ⟨0x0D#8, tag, .stopRun⟩) hop))
      refine ⟨t, hexec, ?_, hplayer, ?_, ?_⟩
      · rw [hrun, Bool.or_false]
        rfl
      · rw [hrun]
        exact hsub
      · rw [hrun, hplayer]
        exact hrep
    | true =>
      obtain ⟨t, hexec, hrun, hplayer, hsub, hrep⟩ := request_stops (kind := 0x1E#8) (tag := tag) (req := .reset 1 0 stay)
        (r := { s.run with orderly := true }) (c := .orderlyReset) h (by decide) nofun nofun hop
        (congrArg now ((takeReset_orderly hstay _).trans (takeResetRun_run (v := s.taking ⟨0x1E#8, tag, .reset 1 0 stay⟩) hop)))
      refine ⟨t, hexec, ?_, hplayer, ?_, ?_⟩
      · rw [hrun, Bool.or_true]
        rfl
      · rw [hrun]
        exact hsub
      · rw [hrun, hplayer]
        exact hrep
  · exact read_answered s 0x0D#8 tag .stopRun .ok [] h (by decide) nofun nofun
      (congrArg now (takeStopRun_stopping (v := s.taking ⟨0x0D#8, tag, .stopRun⟩) hop))
  · exact request_answered s { s.taking ⟨0x1E#8, tag, .reset 1 0 stay⟩ with run := { s.run with orderly := true } } 0x1E#8 tag
      (.reset 1 0 stay) .ok [] h (by decide) nofun nofun (congrArg now ((takeReset_orderly hstay _).trans
        (takeResetRun_stopping (v := s.taking ⟨0x1E#8, tag, .reset 1 0 stay⟩) hop))) rfl h3 h4 h5 rfl
  · exact refused_answered h (by decide) nofun nofun
      (congrArg now (takeStopRun_wrongState (v := s.taking ⟨0x0D#8, tag, .stopRun⟩) h1 h2))

end Sys2Proof.Machine
end

section
/-! O40: RELEASE_HOLD. -/

namespace Sys2Proof.Machine

section
variable {v : State} {a : HoldAction} (ha : ∀ n, a ≠ .other n)
include ha

theorem takeReleaseHold_held {g : Segment} (hm : v.player.mode = .held) (hg : v.player.active = some g) :
    takeReleaseHold a v = (releaseHeld a g v, answer .ok) := by
  unfold takeReleaseHold
  rw [hm, hg]
  split
  · exact absurd rfl (ha _)
  · rfl

theorem takeReleaseHold_notHeld (hm : v.player.mode ≠ .held) : takeReleaseHold a v = (v, answer .notHeld) := by
  unfold takeReleaseHold
  split
  · exact absurd rfl (ha _)
  · split
    · contradiction
    · rfl
end

section
variable {g : Segment} {s : State}

theorem decideEnd_last (h : g.last = true) : decideEnd false g s = endProfile .last s := if_pos h

theorem decideEnd_next {next : Segment} {rest : List Segment} (h : g.last = false) (hw : s.player.waiting = next :: rest) :
    decideEnd false g s = startSegment next rest s := by
  unfold decideEnd
  rw [h, hw]
  rfl

theorem decideEnd_empty (h : g.last = false) (hw : s.player.waiting = []) : decideEnd false g s = enterUnderrun s := by
  unfold decideEnd
  rw [h, hw]
  rfl
end

/-- The release of a held player, the state that the action leaves given by its blocks and its reports. -/
theorem request_releases {s s' : State} {tag : Byte} {a : HoldAction} {g : Segment} {l : List Told} (h : s.takes)
    (ha : ∀ n, a ≠ .other n) (hm : s.player.mode = .held) (hg : s.player.active = some g)
    (hleft : ∀ q, Left s s' q l (releaseHeld a g (s.taking q))) (hport : s'.port = s.port) (hpins : s'.pins = s.pins) :
    ∃ t, request 0x0E#8 tag (.releaseHold a) s = .next t ∧ t = { s' with port := t.port } ∧ submits s t l ∧
      repliedBy s' t 0x8E#8 tag .ok [] := by
  obtain ⟨h1, h2, h3⟩ := request_told (kind := 0x0E#8) (tag := tag) (r := .releaseHold a) (st := .ok) (fs := []) h (by decide)
    nofun nofun (congrArg now (takeReleaseHold_held (v := s.taking ⟨0x0E#8, tag, .releaseHold a⟩) ha hm hg)) (hleft _) hport
    (congrArg Pins.resetHeld hpins)
  refine ⟨_, h1, ?_, h2, h3⟩
  conv_lhs => rw [(hleft _).frame]
  rfl

section
variable {s : State} {tag : Byte} {a : HoldAction} {g : Segment} (h : s.takes) (ha : ∀ n, a ≠ .other n)
  (hm : s.player.mode = .held) (hg : s.player.active = some g)
include h ha hm hg

/-- A release that starts a segment. -/
theorem request_begins {next : Segment} {rest : List Segment}
    (hr : ∀ v : State, v.player = s.player → releaseHeld a g v = startSegment next rest v) :
    ∃ t, request 0x0E#8 tag (.releaseHold a) s = .next t ∧ t.player = s.player.begins next rest ∧
      t.events = { s.events with markPending := s.events.markPending || next.phase.isSome } ∧
      submits s t (startReports s.run.count s.run.op next rest.length s.player.clock s.player.phase s.player.phaseTol) ∧
      repliedBy { s with player := t.player, axle := { s.axle with grade := next.grade }, events := t.events } t
        0x8E#8 tag .ok [] := by
  obtain ⟨t, h1, hf, h2, h3⟩ := request_releases (tag := tag) (s' := { s with
      player := s.player.begins next rest, axle := { s.axle with grade := next.grade }
      events := { s.events with markPending := s.events.markPending || next.phase.isSome } })
    (l := startReports s.run.count s.run.op next rest.length s.player.clock s.player.phase s.player.phaseTol) h ha hm hg
    (fun q => by
      rw [hr (s.taking q) rfl, startSegment_told]
      exact ⟨rfl, rfl⟩) rfl rfl
  have hplayer : t.player = s.player.begins next rest := by rw [hf]
  have hevents : t.events = { s.events with markPending := s.events.markPending || next.phase.isSome } := by rw [hf]
  refine ⟨t, h1, hplayer, hevents, h2, ?_⟩
  rw [hplayer, hevents]
  exact h3

/-- A release that ends the profile. -/
theorem request_ends {reason : EndReason} (hr : ∀ v : State, releaseHeld a g v = endProfile reason v) :
    ∃ t, request 0x0E#8 tag (.releaseHold a) s = .next t ∧ t.player = s.player.endedBy reason ∧ t.run = s.run.profileEnded ∧
      submits s t (endTold s.run s.player reason) ∧
      repliedBy { s with player := t.player, run := t.run } t 0x8E#8 tag .ok [] := by
  obtain ⟨t, h1, hf, h2, h3⟩ := request_releases (tag := tag) (s' := { s with
      player := s.player.endedBy reason, run := s.run.profileEnded }) (l := endTold s.run s.player reason) h ha hm hg (fun q => by
      rw [hr, endProfile_told]
      exact ⟨rfl, rfl⟩) rfl rfl
  have hplayer : t.player = s.player.endedBy reason := by rw [hf]
  have hrun : t.run = s.run.profileEnded := by rw [hf]
  refine ⟨t, h1, hplayer, hrun, h2, ?_⟩
  rw [hplayer, hrun]
  exact h3
end

/-- CONTINUE with nothing waiting: the underrun recorded and reported, then its test, whose own effect is given. -/
theorem request_starves {s : State} {tag : Byte} {g : Segment} {y : Player} {r : Run} {l : List Told} (h : s.takes)
    (hm : s.player.mode = .held) (hg : s.player.active = some g) (hlast : g.last = false) (hw : s.player.waiting = [])
    (ht : ∀ v : State, v.player = s.player.starved → v.run = s.run → v.inForce = s.inForce → underrunTest v =
      { v with player := y, run := r, port := v.port.tellAll v.params.reportLevel l }) :
    ∃ t, request 0x0E#8 tag (.releaseHold .goOn) s = .next t ∧ t.player = y ∧ t.run = r ∧
      t.faults = Faults.take underrunRaise s.run.count s.run.op s.faults ∧
      submits s t (faultTold s.faults s.run.count s.run.op underrunRaise :: l) ∧
      repliedBy { s with player := t.player, run := t.run, faults := t.faults, comp := t.comp } t 0x8E#8 tag .ok [] := by
  generalize hc : (s.comp.map fun k : Computation =>
    { k with faultsBefore := Faults.take underrunRaise s.run.count s.run.op k.faultsBefore }) = c
  obtain ⟨t, h1, hf, h2, h3⟩ := request_releases (tag := tag) (a := .goOn) (s' := { s with
      player := y, run := r, faults := Faults.take underrunRaise s.run.count s.run.op s.faults, comp := c })
    (l := faultTold s.faults s.run.count s.run.op underrunRaise :: l) h nofun hm hg (fun q => by
      rw [releaseHeld, decideEnd_empty (s := s.taking q) hlast hw, enterUnderrun_eq,
        ht (underrunRaised (s.taking q)) rfl rfl rfl, ← hc]
      exact ⟨rfl, rfl⟩) rfl rfl
  have hplayer : t.player = y := by rw [hf]
  have hrun : t.run = r := by rw [hf]
  have hfaults : t.faults = Faults.take underrunRaise s.run.count s.run.op s.faults := by rw [hf]
  have hcomp : t.comp = c := by rw [hf]
  refine ⟨t, h1, hplayer, hrun, hfaults, h2, ?_⟩
  rw [hplayer, hrun, hfaults, hcomp]
  exact h3

/-- Settles O40: what each action does of the held segment, and the answer where none is held. -/
theorem releaseHoldActs : Obligations.ReleaseHoldActs := by
  intro s tag h
  refine ⟨fun hm c hc => ?_, fun g hm hg => ?_⟩
  · have notHeld (a : HoldAction) (ha : ∀ n, a ≠ .other n) :
        request 0x0E#8 tag (.releaseHold a) s = .next (s.withReply 0x8E#8 tag .notHeld []) :=
      refused_answered h (by decide) nofun nofun
        (congrArg now (takeReleaseHold_notHeld (v := s.taking ⟨0x0E#8, tag, .releaseHold a⟩) ha hm))
    rcases hc with rfl | rfl | rfl
    · exact notHeld .goOn nofun
    · exact notHeld .again nofun
    · exact notHeld .finish nofun
  · refine ⟨request_ends (a := .finish) h nofun hm hg fun _ => rfl,
      request_begins (a := .again) h nofun hm hg fun v hv => by rw [releaseHeld, hv],
      fun hlast => request_ends (a := .goOn) h nofun hm hg fun _ => decideEnd_last hlast,
      fun next rest hlast hw => request_begins (a := .goOn) h nofun hm hg fun v hv => decideEnd_next hlast (by rw [hv, hw]),
      fun hlast hw => ⟨fun hstays => ?_, fun hmode hpolicy hop => ?_⟩⟩
    · obtain ⟨t, h1, hplayer, hrun, hfaults, h2, h3⟩ := request_starves (tag := tag) (y := s.player.starved) (r := s.run)
        (l := []) h hm hg hlast hw fun v hv hr hi => by
          rw [underrunTest_stays (by rw [hr, hi]; exact hstays), ← hv, ← hr]
          rfl
      rw [hrun] at h3
      exact ⟨t, h1, hplayer, ⟨hfaults, h2⟩, h3⟩
    · obtain ⟨t, h1, hplayer, hrun, hfaults, h2, h3⟩ := request_starves (tag := tag) (y := playerStopped s.player.starved)
        (r := s.run.stoppedBy .underrunStop) (l := stopTold s.run s.player.starved .underrunStop) h hm hg hlast hw
        fun v hv hr hi => by
          rw [underrunTest_stops (by rw [hr, hi]; exact ⟨hmode, hpolicy⟩) (by rw [hr]; exact hop), ← hv, ← hr]
      exact ⟨t, h1, hplayer, hrun, ⟨hfaults, h2⟩, h3⟩

end Sys2Proof.Machine
end

section
/-! SUPPORT. The entries that a test lets fire, in the order of their numbers: what they leave of the table, the snapshot, the
CAPTURE request and the reports; the trace buffer's capture. -/

namespace Sys2Proof.Machine

/-! ### One firing (R159, R163 to R166) -/

/-- The entry with its firing counted. -/
def EventEntry.fired (e : EventEntry) : EventEntry := { e with fires := satAdd 65535 e.fires 1 }

/-- The snapshot that entry i takes. -/
def snapshotBy (i : Fin 16) (s : State) : Snapshot := (takeSnapshot i s).stats.snap

/-- The EVENT report of entry i, which e has become. -/
def eventTold (s : State) (i : Fin 16) (e : EventEntry) : Told := (s.run.count, s.run.op, eventReport i e s)

section
variable (b : Bool) (s : State)

theorem handMark_if : (if b = true then handMark s else s) =
    { s with events := { s.events with markPending := b || s.events.markPending } } := by
  cases b <;> rfl

theorem submit_if (x : ReportBody) : (if b = true then submit x s else s) = { s with
    port := s.port.tellAll s.params.reportLevel (if b = true then [(s.run.count, s.run.op, x)] else []) } := by
  cases b
  · rfl
  · exact submit_tell x s

theorem takeSnapshot_if (i : Fin 16) : (if b = true then takeSnapshot i s else s) =
    { s with stats := { s.stats with snap := if b = true then snapshotBy i s else s.stats.snap } } := by
  cases b <;> rfl

theorem waiting_if : (if b = true then { s with trace := { s.trace with waiting := true } } else s) =
    { s with trace := { s.trace with waiting := b || s.trace.waiting } } := by
  cases b <;> rfl
end

theorem fire_told (i : Fin 16) (e : EventEntry) (s : State) : fire i e s = { s with
    events := { entries := s.events.entries.set i (some e.fired), markPending := e.actions.mark || s.events.markPending }
    stats := { s.stats with snap := if e.actions.snapshot = true then snapshotBy i s else s.stats.snap }
    trace := { s.trace with waiting := e.actions.capture || s.trace.waiting }
    port := s.port.tellAll s.params.reportLevel (if e.actions.report = true then [eventTold s i e.fired] else []) } := by
  unfold fire
  dsimp only
  rw [handMark_if, submit_if, takeSnapshot_if, waiting_if]
  rfl

/-! ### The entries in their order (R159) -/

theorem mem_entryList (i : Fin 16) : i ∈ entryList := by
  fin_cases i <;> decide

theorem Vector.set_get_sixteen {α : Type} (v : Vector α 16) (n m : Fin 16) (x : α) :
    (v.set n x)[m] = if n = m then x else v[m] := by
  by_cases h : n = m
  · subst h
    simp
  · have : (n : Nat) ≠ m := fun e => h (Fin.ext e)
    simp [Vector.getElem_set_ne _ _ this, h]

/-- A test that lets the due entries fire, advanced or disarmed. -/
def dueTest (due : EventEntry → Bool) (adv : EventEntry → EventEntry) (e : EventEntry) : Option EventEntry :=
  if due e = true then some (adv e) else none

/-- What the test makes of an entry. -/
def EventEntry.tested (due : EventEntry → Bool) (adv : EventEntry → EventEntry) (e : EventEntry) : EventEntry :=
  if due e = true then (adv e).fired else e

/-- Entry i with its number, if it is due. -/
def dueEntry (s : State) (due : EventEntry → Bool) (i : Fin 16) : Option (Fin 16 × EventEntry) :=
  (s.events.entries[i].filter due).map fun e => (i, e)

/-- Those of some entries that are due, with their numbers. -/
def dueAmong (s : State) (due : EventEntry → Bool) (l : List (Fin 16)) : List (Fin 16 × EventEntry) :=
  l.filterMap (dueEntry s due)

/-- The EVENT reports of the entries that fire. -/
def eventReports (s : State) (adv : EventEntry → EventEntry) (l : List (Fin 16 × EventEntry)) : List Told :=
  (l.filter fun p => p.2.actions.report).map fun p => eventTold s p.1 (adv p.2).fired

/-- The snapshot after some firings. -/
def snapshotAfter (s : State) (l : List (Fin 16 × EventEntry)) : Snapshot :=
  match (l.filter fun p => p.2.actions.snapshot).getLast? with
  | none => s.stats.snap
  | some p => snapshotBy p.1 s

/-- The firings half way: the entries of l have had their turn. -/
structure FiredUpTo (due : EventEntry → Bool) (adv : EventEntry → EventEntry) (s : State) (l : List (Fin 16)) (t : State) :
    Prop where
  frame : t = { s with
    events := t.events, stats := { s.stats with snap := t.stats.snap }, trace := { s.trace with waiting := t.trace.waiting }
    port := t.port }
  entries : ∀ i : Fin 16, t.events.entries[i] =
    if i ∈ l then s.events.entries[i].map (EventEntry.tested due adv) else s.events.entries[i]
  mark : t.events.markPending = (s.events.markPending || (dueAmong s due l).any fun p => p.2.actions.mark)
  snap : t.stats.snap = snapshotAfter s (dueAmong s due l)
  waiting : t.trace.waiting = (s.trace.waiting || (dueAmong s due l).any fun p => p.2.actions.capture)
  port : t.port = s.port.tellAll s.params.reportLevel (eventReports s adv (dueAmong s due l))

section
variable {due : EventEntry → Bool} {adv : EventEntry → EventEntry} {s t : State} {l : List (Fin 16)} {i : Fin 16} {e : EventEntry}

theorem dueAmong_some (he : s.events.entries[i] = some e) (hd : due e = true) :
    dueAmong s due (l ++ [i]) = dueAmong s due l ++ [(i, e)] := by
  have h : dueEntry s due i = some (i, e) := by
    unfold dueEntry
    rw [he, Option.filter_some, if_pos hd]
    rfl
  simp [dueAmong, h]

theorem dueAmong_same (h : ∀ e, s.events.entries[i] = some e → due e = false) :
    dueAmong s due (l ++ [i]) = dueAmong s due l := by
  have h : dueEntry s due i = none := by
    unfold dueEntry
    cases he : s.events.entries[i] with
    | none => rfl
    | some e => rw [Option.filter_some, h e he]; rfl
  simp [dueAmong, h]

theorem snapshotAfter_append (m : List (Fin 16 × EventEntry)) : snapshotAfter s (m ++ [(i, e)]) =
    if e.actions.snapshot = true then snapshotBy i s else snapshotAfter s m := by
  unfold snapshotAfter
  cases he : e.actions.snapshot <;> simp [he]

theorem eventReports_append (m : List (Fin 16 × EventEntry)) : eventReports s adv (m ++ [(i, e)]) =
    eventReports s adv m ++ if e.actions.report = true then [eventTold s i (adv e).fired] else [] := by
  unfold eventReports
  cases he : e.actions.report <;> simp [he]

/-- An entry's turn in which it does not fire. -/
theorem FiredUpTo.skips (h : FiredUpTo due adv s l t) (hi : ∀ e, s.events.entries[i] = some e → due e = false) :
    FiredUpTo due adv s (l ++ [i]) t := by
  obtain ⟨hframe, hentries, hmark, hsnap, hwaiting, hport⟩ := h
  refine ⟨hframe, fun j => ?_, ?_, ?_, ?_, ?_⟩
  · rw [hentries j]
    by_cases hj : j = i
    · have hsame : s.events.entries[j].map (EventEntry.tested due adv) = s.events.entries[j] := by
        cases he : s.events.entries[j] with
        | none => rfl
        | some e => simp [EventEntry.tested, hi e (hj ▸ he)]
      rw [hsame, ite_self, ite_self]
    · simp [hj]
  all_goals rw [dueAmong_same hi]
  all_goals assumption

/-- An entry's turn in which it fires. -/
theorem FiredUpTo.fires (h : FiredUpTo due adv s l t) (hadv : ∀ e, (adv e).actions = e.actions)
    (he : s.events.entries[i] = some e) (hd : due e = true) : FiredUpTo due adv s (l ++ [i]) (fire i (adv e) t) := by
  obtain ⟨hframe, hentries, hmark, hsnap, hwaiting, hport⟩ := h
  have hsnapshot : snapshotBy i t = snapshotBy i s := by rw [hframe]; rfl
  have htold : ∀ x, eventTold t i x = eventTold s i x := fun x => by rw [hframe]; rfl
  have hlevel : t.params = s.params := by rw [hframe]
  rw [fire_told, hadv e]
  refine ⟨?_, fun j => ?_, ?_, ?_, ?_, ?_⟩
  · rw [hframe]
  · show (t.events.entries.set i (some (adv e).fired))[j] = _
    rw [Vector.set_get_sixteen, hentries j]
    by_cases hj : i = j
    · subst hj
      simp [he, EventEntry.tested, hd]
    · simp [hj, Ne.symm hj]
  all_goals rw [dueAmong_some he hd]
  · show (_ || t.events.markPending) = _
    rw [hmark]
    simp [Bool.or_comm, Bool.or_left_comm]
  · show (if _ then _ else t.stats.snap) = _
    rw [snapshotAfter_append, hsnapshot, hsnap]
  · show (_ || t.trace.waiting) = _
    rw [hwaiting]
    simp [Bool.or_comm, Bool.or_left_comm]
  · show t.port.tellAll _ _ = _
    rw [eventReports_append, tellAll_append, htold, hlevel, hport]
end

/-- All entries tested: those due have fired, in the order of their numbers. -/
theorem fireAll_told (due : EventEntry → Bool) {adv : EventEntry → EventEntry} (hadv : ∀ e, (adv e).actions = e.actions)
    (s : State) : FiredUpTo due adv s entryList (fireAll (dueTest due adv) s) := by
  unfold fireAll
  refine foldl_progress (Q := FiredUpTo due adv s) entryList (by decide)
    ⟨rfl, fun i => by simp, by simp [dueAmong], rfl, by simp [dueAmong], rfl⟩ fun l i t hi h => ?_
  have hsame : t.events.entries[i] = s.events.entries[i] := by rw [h.entries i, if_neg hi]
  rw [hsame]
  cases he : s.events.entries[i] with
  | none => exact h.skips (by simp [he])
  | some e =>
    rw [Option.bind_some, dueTest]
    by_cases hd : due e = true
    · rw [if_pos hd]
      exact h.fires hadv he hd
    · rw [if_neg hd]
      refine h.skips fun x hx => ?_
      rw [he] at hx
      cases hx
      exact Bool.eq_false_iff.mpr hd

/-! ### The tests of a completion (R161, R162) -/

/-- The entry fires at this distance and trace clock. -/
def EventEntry.dueAt (mm : Int) (clock : Word32) (e : EventEntry) : Bool :=
  match e.trigger with
  | .cycle _ _ => false
  | .distance _ _ next => decide ((next : Int) ≤ mm)
  | .traceTime a => e.armed && a == clock.toNat

/-- The entry with its next mark beyond the distance, or disarmed. -/
def EventEntry.advanced (mm : Int) (e : EventEntry) : EventEntry :=
  match e.trigger with
  | .cycle _ _ => e
  | .distance st p next => { e with trigger := .distance st p (nextMark next p mm.toNat) }
  | .traceTime _ => { e with armed := false }

theorem advanced_keeps (mm : Int) (e : EventEntry) :
    (e.advanced mm).actions = e.actions ∧ (e.advanced mm).runTag = e.runTag ∧ (e.advanced mm).persistent = e.persistent := by
  unfold EventEntry.advanced
  cases e.trigger <;> exact ⟨rfl, rfl, rfl⟩

theorem completionTest_eq (mm : Int) (clock : Word32) (e : EventEntry) :
    e.completionTest mm clock = dueTest (EventEntry.dueAt mm clock) (EventEntry.advanced mm) e := by
  unfold EventEntry.completionTest dueTest EventEntry.dueAt EventEntry.advanced
  cases e.trigger with
  | cycle v m => rfl
  | distance st p next => simp only [decide_eq_true_eq]
  | traceTime a => simp only [Bool.and_eq_true, beq_iff_eq, eq_comm (a := a)]

/-- The next mark is the smallest beyond the distance (R161). -/
theorem nextMark_smallest {next period : Nat} {mm : Int} (hp : 1 ≤ period) (h : (next : Int) ≤ mm) :
    ∃ n k' : Nat, 1 ≤ n ∧ k' = next + n * period ∧ mm < k' ∧ (k' : Int) - period ≤ mm ∧ nextMark next period mm.toNat = k' := by
  obtain ⟨m, rfl⟩ := Int.eq_ofNat_of_zero_le ((Int.natCast_nonneg next).trans h)
  have hm : next ≤ m := by exact_mod_cast h
  have hdiv := Nat.div_add_mod (m - next) period
  have hmod := Nat.mod_lt (m - next) hp
  refine ⟨(m - next) / period + 1, _, Nat.le_add_left 1 _, rfl, ?_, ?_, rfl⟩
  all_goals
    rw [Nat.mul_comm] at hdiv
    rw [Nat.add_mul, Nat.one_mul]
    generalize (m - next) / period * period = x at *
    push_cast
    omega

/-- What the tests make of an entry is what the statements say. -/
theorem entryTested_of_tested (mm : Int) (clock : Word32) (e : EventEntry) :
    entryTested mm clock.toNat e (some (e.tested (EventEntry.dueAt mm clock) (EventEntry.advanced mm))) := by
  unfold EventEntry.tested EventEntry.dueAt EventEntry.advanced
  refine ⟨fun v m h => ?_, fun a p k h hp => ⟨fun hlt => ?_, fun hle => ?_⟩, fun a h => ⟨fun hd => ?_, fun hd => ?_⟩⟩
  all_goals simp only [h]
  · rfl
  · rw [if_neg (by simpa using hlt)]
  · obtain ⟨n, k', h1, h2, h3, h4, h5⟩ := nextMark_smallest hp hle
    refine ⟨n, k', h1, h2, h3, h4, ?_⟩
    rw [if_pos (by simpa using hle), h5]
    rfl
  · rw [if_pos (by simp [hd.1, hd.2])]
    rfl
  · rw [if_neg fun h => ?_]
    simp only [Bool.and_eq_true, beq_iff_eq] at h
    exact hd.elim (fun hn => by simp [hn] at h) fun hn => hn h.2.symm

end Sys2Proof.Machine
end

section
/-! SUPPORT. The work of a completion after the player's: the event tests and the trace buffer's capture in either order. -/

namespace Sys2Proof.Machine

/-! ### The capture (R178, R179) -/

/-- What a capture may do: it changes the trace buffer's records and submits at most one report, which is no EVENT report. -/
structure Captured (s t : State) : Prop where
  frame : t = { s with
    trace := { s.trace with records := t.trace.records, fullReported := t.trace.fullReported }, port := t.port }
  port : ∃ l : List Told, l.length ≤ 1 ∧ (∀ x ∈ l, isEventReport x.2.2 = false) ∧
    t.port = s.port.tellAll s.params.reportLevel l

theorem Captured.refl (s : State) : Captured s s := ⟨rfl, [], by simp, by simp, rfl⟩

theorem storeRecord_captured (r : List Word32) (s : State) : Captured s (storeRecord r s) := by
  unfold storeRecord
  split
  · exact ⟨rfl, [], by simp, by simp, rfl⟩
  · split
    · exact ⟨rfl, [], by simp, by simp, rfl⟩
    · split
      · exact Captured.refl s
      · rw [submit_tell]
        exact ⟨rfl, [(s.run.count, s.run.op, .traceFull s.trace.records.length s.run.count)], by simp,
          by simp [isEventReport], rfl⟩

theorem traceCapture_captured (k : Computation) (s : State) : Captured s (traceCapture k s) := by
  unfold traceCapture
  split
  · exact storeRecord_captured _ s
  · exact Captured.refl s

theorem traceCapture_outside (k : Computation) {s : State} (h : s.run.op.inRun = false) : traceCapture k s = s := by
  unfold traceCapture
  rw [h]
  rfl

/-! ### The tests (R161, R162) -/

/-- The entry fires at a completion that finds the part so. -/
def State.due (s : State) : EventEntry → Bool := EventEntry.dueAt s.distanceMm s.player.clock

/-- The entry as its firing at such a completion leaves its trigger. -/
def State.adv (s : State) : EventEntry → EventEntry := EventEntry.advanced s.distanceMm

/-- The entries that a completion lets fire. -/
def State.firing (s : State) : List (Fin 16 × EventEntry) := dueAmong s s.due entryList

theorem firing_length (s : State) : s.firing.length ≤ 16 := List.length_filterMap_le _ _

theorem completionTests_none {k : Computation} (s : State) (h : k.began.inRun = false ∨ k.void = true ∨ s.run.op.inRun = false) :
    completionTests k s = s := by
  unfold completionTests
  rcases h with h | h | h <;> simp [h]

theorem completionTests_fires {k : Computation} {s : State} (hb : k.began.inRun = true) (hv : k.void = false)
    (hop : s.run.op.inRun = true) : FiredUpTo s.due s.adv s entryList (completionTests k s) := by
  have htest : (fun e : EventEntry => e.completionTest s.distanceMm s.player.clock) = dueTest s.due s.adv :=
    funext (completionTest_eq s.distanceMm s.player.clock)
  unfold completionTests
  rw [hb, hv, hop, if_pos (by rfl), htest]
  exact fireAll_told s.due (fun e => (advanced_keeps s.distanceMm e).1) s

/-! ### Tests and capture (log 4) -/

/-- The tests made and a capture perhaps made before or after them: n bounds the reports that are no EVENT reports. -/
structure EntriesTested (n : Nat) (s t : State) : Prop where
  frame : t = { s with events := t.events, stats := { s.stats with snap := t.stats.snap }, trace := t.trace, port := t.port }
  entries : ∀ i : Fin 16, t.events.entries[i] = s.events.entries[i].map (EventEntry.tested s.due s.adv)
  mark : t.events.markPending = (s.events.markPending || s.firing.any fun p => p.2.actions.mark)
  snap : t.stats.snap = snapshotAfter s s.firing
  waiting : t.trace.waiting = (s.trace.waiting || s.firing.any fun p => p.2.actions.capture)
  port : ∃ a b : List Told, a.length + b.length ≤ n ∧ (∀ x ∈ a ++ b, isEventReport x.2.2 = false) ∧
    t.port = s.port.tellAll s.params.reportLevel (a ++ eventReports s s.adv s.firing ++ b)

theorem FiredUpTo.entriesTested {s t : State} (h : FiredUpTo s.due s.adv s entryList t) : EntriesTested 0 s t := by
  refine ⟨?_, fun i => (h.entries i).trans (if_pos (mem_entryList i)), h.mark, h.snap, h.waiting, [], [], by simp, by simp, ?_⟩
  · conv_lhs => rw [h.frame]
    have htrace : t.trace = { s.trace with waiting := t.trace.waiting } := by rw [h.frame]
    rw [← htrace]
  · rw [h.port, List.nil_append, List.append_nil]
    rfl

section
variable {n : Nat} {s t u : State}

theorem EntriesTested.captured (h : EntriesTested n s t) (k : Captured t u) : EntriesTested (n + 1) s u := by
  obtain ⟨a, b, hn, hquiet, hport⟩ := h.port
  obtain ⟨l, hl, hlquiet, hlport⟩ := k.port
  have hparams : t.params = s.params := by rw [h.frame]
  refine ⟨by rw [k.frame, h.frame], by rw [k.frame]; exact h.entries, by rw [k.frame]; exact h.mark,
    by rw [k.frame]; exact h.snap, by rw [k.frame]; exact h.waiting, a, b ++ l, ?_, ?_, ?_⟩
  · rw [List.length_append]
    omega
  · intro x hx
    rw [← List.append_assoc, List.mem_append] at hx
    exact hx.elim (hquiet x) (hlquiet x)
  · rw [hlport, hparams, hport, ← tellAll_append, List.append_assoc _ b]

theorem Captured.tested (k : Captured s t) (h : EntriesTested n t u) : EntriesTested (n + 1) s u := by
  obtain ⟨a, b, hn, hquiet, hport⟩ := h.port
  obtain ⟨l, hl, hlquiet, hlport⟩ := k.port
  have hparams : t.params = s.params := by rw [k.frame]
  have hevents : t.events = s.events := by rw [k.frame]
  have hdue : t.due = s.due := by rw [k.frame]; rfl
  have hadv : t.adv = s.adv := by rw [k.frame]; rfl
  have hfiring : t.firing = s.firing := by
    unfold State.firing dueAmong dueEntry
    rw [hevents, hdue]
  have hreports : eventReports t t.adv t.firing = eventReports s s.adv s.firing := by
    rw [hadv, hfiring, k.frame]
    rfl
  have hsnap : snapshotAfter t t.firing = snapshotAfter s s.firing := by
    rw [hfiring, k.frame]
    rfl
  have hwaiting : t.trace.waiting = s.trace.waiting := by rw [k.frame]
  refine ⟨?_, fun i => ?_, ?_, ?_, ?_, l ++ a, b, ?_, ?_, ?_⟩
  · rw [h.frame, k.frame]
  · rw [h.entries i, hdue, hadv, hevents]
  · rw [h.mark, hfiring, hevents]
  · rw [h.snap, hsnap]
  · rw [h.waiting, hfiring, hwaiting]
  · rw [List.length_append]
    omega
  · intro x hx
    rw [List.append_assoc, List.mem_append] at hx
    exact hx.elim (hlquiet x) (hquiet x)
  · rw [hport, hreports, hparams, hlport, ← tellAll_append, List.append_assoc l, List.append_assoc l]

/-- What the tests and the capture leave alone, and that they only add reports. -/
structure Worked (s t : State) : Prop where
  frame : t = { s with events := t.events, stats := t.stats, trace := t.trace, port := t.port }
  port : ∃ l : List Told, t.port = s.port.tellAll s.params.reportLevel l

theorem EntriesTested.worked (h : EntriesTested n s t) : Worked s t := by
  obtain ⟨a, b, _, _, hport⟩ := h.port
  refine ⟨?_, _, hport⟩
  conv_lhs => rw [h.frame]
  have hstats : t.stats = { s.stats with snap := t.stats.snap } := by rw [h.frame]
  rw [← hstats]

theorem Captured.worked (h : Captured s t) : Worked s t := by
  obtain ⟨l, _, _, hport⟩ := h.port
  refine ⟨?_, l, hport⟩
  rw [h.frame]
end

/-! ### The completion (R28) -/

/-- With no run end to make, a completion tests the entries and takes its record in one of two orders. -/
theorem completionWork_order (o : CompletionOrder) {k : Computation} (h : k.standstill = false) (s : State) :
    completionWork o k s = traceCapture k (completionTests k s) ∨
      completionWork o k s = completionTests k (traceCapture k s) := by
  unfold completionWork
  rw [h]
  cases o with
  | eventsCaptureEnd => exact .inl rfl
  | eventsEndCapture => exact .inl rfl
  | endEventsCapture => exact .inl rfl
  | captureEventsEnd => exact .inr rfl
  | captureEndEvents => exact .inr rfl
  | endCaptureEvents => exact .inr rfl

theorem traceCapture_run (k : Computation) (s : State) : (traceCapture k s).run = s.run := by
  rw [(traceCapture_captured k s).frame]

theorem completionWork_tested (o : CompletionOrder) {k : Computation} {s : State} (h : k.standstill = false)
    (hb : k.began.inRun = true) (hv : k.void = false) (hop : s.run.op.inRun = true) :
    EntriesTested 1 s (completionWork o k s) := by
  rcases completionWork_order o h s with hw | hw <;> rw [hw]
  · exact (completionTests_fires hb hv hop).entriesTested.captured (traceCapture_captured k _)
  · exact (traceCapture_captured k s).tested
      (completionTests_fires hb hv (by rw [traceCapture_run]; exact hop)).entriesTested

/-- With no test to make a completion takes its record alone. -/
theorem completionWork_untested (o : CompletionOrder) {k : Computation} {s : State} (h : k.standstill = false)
    (hn : k.began.inRun = false ∨ k.void = true ∨ s.run.op.inRun = false) : completionWork o k s = traceCapture k s := by
  rcases completionWork_order o h s with hw | hw <;> rw [hw]
  · rw [completionTests_none s hn]
  · exact completionTests_none _ (by rw [traceCapture_run]; exact hn)

theorem completionWork_worked (o : CompletionOrder) {k : Computation} (h : k.standstill = false) (s : State) :
    Worked s (completionWork o k s) := by
  by_cases hn : k.began.inRun = false ∨ k.void = true ∨ s.run.op.inRun = false
  · rw [completionWork_untested o h hn]
    exact (traceCapture_captured k s).worked
  · simp only [not_or, Bool.not_eq_false, Bool.not_eq_true] at hn
    obtain ⟨hb, hv, hop⟩ := hn
    exact (completionWork_tested o h hb hv hop).worked

/-- The state in which the player does its work at the completion of k. -/
def State.completing (s : State) (k : Computation) : State :=
  { s with comp := none, free := if k.began.inRun = true then s.free + 1 else s.free }

/-- The state a completion of k leaves, the transmitter's choice apart. -/
def completed (k : Computation) (s : State) : State :=
  if k.began.inRun = true then completionWork (Config.completionOrder s.free) k (playAndCheck (s.completing k))
  else traceCapture k (playAndCheck (s.completing k))

theorem completion_eq {s : State} {k : Computation} (hrunning : s.link.running = true) (hk : s.comp = some k) :
    exec .cycleComputationCompletion s = .next (pumpTx (completed k s)) := by
  show Host.Outcome.next (pumpTx (if s.link.running then completionWith Config.completionOrder s else s)) = _
  rw [if_pos hrunning]
  unfold completed completionWith State.computation State.completing
  rw [hk]
  cases hb : k.began.inRun <;> simp [hb]

theorem completed_worked {k : Computation} (h : k.standstill = false) (s : State) :
    Worked (playAndCheck (s.completing k)) (completed k s) := by
  unfold completed
  split
  · exact completionWork_worked _ h _
  · exact (traceCapture_captured k _).worked

end Sys2Proof.Machine
end

section
/-! SUPPORT. The player's work at a completion and the speed-band check, case by case (R100 to R111). -/

namespace Sys2Proof.Machine

/-! ### One cycle of a point (R100) -/

/-- The player with one cycle of a point played. -/
def Player.played (y : Player) (p : Point) : Player :=
  { y with clock := y.clock + 1, elapsed := y.elapsed + 1, speed := interpolate y.start p (y.elapsed + 1) }

section
variable {y : Player} {g : Segment} {p : Point} (hp : g.points[y.point]? = some p)
include hp

theorem playCycle_within (h : y.elapsed + 1 < p.duration) : y.playCycle g = (y.played p, false) := by
  unfold Player.playCycle
  rw [hp]
  exact if_neg h.ne

theorem playCycle_next (h : y.elapsed + 1 = p.duration) (hmore : y.point + 1 < g.points.length) :
    y.playCycle g = ({ y.played p with point := y.point + 1, elapsed := 0, start := p.speed }, false) := by
  unfold Player.playCycle
  rw [hp]
  exact (if_pos h).trans (if_pos hmore)

theorem playCycle_last (h : y.elapsed + 1 = p.duration) (hlast : y.point + 1 = g.points.length) :
    y.playCycle g = (y.played p, true) := by
  unfold Player.playCycle
  rw [hp]
  exact (if_pos h).trans (if_neg (by show ¬(y.point + 1 < _); omega))
end

/-! ### The player's work (R103, R107, R108) -/

/-- The player has played a segment's last cycle and the segment's end is reported, its end not decided yet. -/
def segmentDone (g : Segment) (y : Player) (s : State) : State :=
  { s with
    player := y, port := s.port.tellAll s.params.reportLevel [(s.run.count, s.run.op, .segmentEnded g.tag y.clock)] }

section
variable {s : State} {g : Segment} {y : Player}

theorem playerWork_idle (h : s.player.mode = .held ∨ s.player.mode = .ended ∨ s.player.mode = .empty) : playerWork s = s := by
  unfold playerWork
  rcases h with h | h | h <;> simp only [h]

theorem playerWork_goesOn (hm : s.player.mode = .playing) (hg : s.player.active = some g)
    (hy : s.player.playCycle g = (y, false)) : playerWork s = { s with player := y } := by
  unfold playerWork
  rw [hm, hg]
  dsimp only
  rw [hy]
  rfl

theorem playerWork_ends (hm : s.player.mode = .playing) (hg : s.player.active = some g)
    (hy : s.player.playCycle g = (y, true)) : playerWork s = decideEnd true g (segmentDone g y s) := by
  unfold playerWork segmentDone
  rw [hm, hg]
  dsimp only
  rw [hy, submit_tell]
  rfl

theorem playerWork_resumes {h : Segment} {rest : List Segment} (hm : s.player.mode = .underrun)
    (hw : s.player.waiting = h :: rest) : playerWork s = startSegment h rest s := by
  unfold playerWork
  rw [hm, hw]

theorem playerWork_starves (hm : s.player.mode = .underrun) (hw : s.player.waiting = []) : playerWork s = underrunTest s := by
  unfold playerWork
  rw [hm, hw]

theorem decideEnd_hold (h : g.holdAtEnd = true) : decideEnd true g s = { s with
    player := { s.player with mode := .held }
    port := s.port.tellAll s.params.reportLevel [(s.run.count, s.run.op, .hold g.tag s.player.speed s.player.clock)] } := by
  unfold decideEnd
  rw [h, if_pos (by rfl), submit_tell]
  rfl

/-- Without HOLD_AT_END a segment's end is decided as a release is. -/
theorem decideEnd_noHold (h : g.holdAtEnd = false) : decideEnd true g s = decideEnd false g s := by
  unfold decideEnd
  rw [h]
  rfl
end

/-! ### The speed band (R110, R111) -/

/-- The raise of a check, if it makes one. -/
def raisesOf (o : Option Raise) : List Raise := match o with | some f => [f] | none => []

theorem bandCheck_unchecked {s : State} (h : s.checksBand = false) : bandCheck s = s := by
  unfold bandCheck
  rw [h]
  rfl

theorem checksBand_iff (s : State) :
    s.checksBand = true ↔ s.run.op = .run ∧ s.run.mode = .road ∧ s.player.mode = .playing := by
  unfold State.checksBand
  simp only [Bool.and_eq_true, beq_iff_eq, and_assoc]

theorem checksBand_notPlaying {s : State} (h : s.player.mode ≠ .playing) : s.checksBand = false :=
  Bool.eq_false_iff.mpr fun hc => h ((checksBand_iff s).mp hc).2.2

theorem exceedsTolerance_iff {s : State} (hc : s.checksBand = true) (ho : s.outOfBand = true) :
    s.exceedsTolerance = true ↔ s.player.raised = false ∧ s.inForce.tolTime < min 65535 (s.player.excursion + 1) := by
  unfold State.exceedsTolerance Player.outside satAdd
  rw [hc, ho]
  simp only [Bool.true_and, Bool.and_eq_true, Bool.not_eq_true', decide_eq_true_eq]

/-- The check of a player that plays in RUN, with the raise that it may make. -/
theorem bandCheck_told {s : State} (hop : s.run.op = .run) (hm : s.player.mode = .playing) (hc : s.comp = none) :
    bandCheck s = { s with
      player := (bandChecked s s.player).1
      faults := (raisesOf (bandChecked s s.player).2).foldl (fun m f => Faults.take f s.run.count .run m) s.faults
      port := s.port.tellAll s.params.reportLevel
        ((raisesOf (bandChecked s s.player).2).map (faultTold s.faults s.run.count .run)) } := by
  cases hmode : s.run.mode with
  | speed =>
    have hb : bandChecked s s.player = (s.player, none) := if_pos hmode
    rw [bandCheck_unchecked (Bool.eq_false_iff.mpr fun h => by simp [checksBand_iff, hmode] at h), hb]
    rfl
  | road =>
    have hchecks : s.checksBand = true := (checksBand_iff s).mpr ⟨hop, hmode, hm⟩
    have hroad : ¬s.run.mode = .speed := by simp [hmode]
    unfold bandCheck
    rw [if_pos hchecks]
    by_cases hin : ((s.axle.v * 9).tdiv (65536 * 25 * s.cell.period) - s.player.speed).natAbs ≤ s.inForce.tolBand
    · have hb : bandChecked s s.player = ({ s.player with excursion := 0, raised := false }, none) :=
        (if_neg hroad).trans (if_pos hin)
      have hout : s.outOfBand = false := decide_eq_false (Nat.not_lt.mpr hin)
      rw [hout, hb]
      rfl
    · have hout : s.outOfBand = true := decide_eq_true (Nat.lt_of_not_le hin)
      rw [hout, if_pos rfl]
      dsimp only
      by_cases hr : s.player.raised = false ∧ s.inForce.tolTime < min 65535 (s.player.excursion + 1)
      · have hb : bandChecked s s.player = ({ s.player.outside with
            raised := true, phaseTol := min 255 (s.player.phaseTol + 1) },
            some { kind := .tolerance, detail := some (.phase s.player.phase) }) :=
          ((if_neg hroad).trans (if_neg hin)).trans (if_pos hr)
        rw [if_pos ((exceedsTolerance_iff hchecks hout).mpr hr), raiseTolerance_eq, hb]
        unfold toleranceRaised raised updateFaults
        rw [hop, hc]
        rfl
      · have hb : bandChecked s s.player = (s.player.outside, none) :=
          ((if_neg hroad).trans (if_neg hin)).trans (if_neg hr)
        rw [if_neg ((exceedsTolerance_iff hchecks hout).not.mpr hr), hb]
        rfl

/-- With a player that does not play the completion's player work ends there. -/
theorem playAndCheck_unchecked {s v : State} (hop : s.run.op.inRun = true) (hw : playerWork s = v)
    (hc : v.checksBand = false) : playAndCheck s = v := by
  unfold playAndCheck
  rw [if_pos hop, hw, bandCheck_unchecked hc]

end Sys2Proof.Machine
end

section
/-! O25: CYCLE_COMPUTATION_COMPLETION plays one cycle of the profile. -/

namespace Sys2Proof.Machine

/-- Reports submitted first, whatever more follow, stand first in a queue with room for them. -/
theorem submitsFirst_of_tellAll {s t : State} {l m : List Told} (h : t.port = s.port.tellAll s.params.reportLevel (l ++ m)) :
    submitsFirst s t l := by
  intro hroom
  obtain ⟨more, hmore, _⟩ := tellAll_appended s.params.reportLevel m (s.port.tellAll s.params.reportLevel l)
  refine ⟨more, ?_⟩
  rw [h, tellAll_append, hmore, tellAll_room _ _ _ hroom]
  rfl

/-- A completion without a run end, the player's work done: what the tests and the capture leave, and whose reports come
first. -/
theorem completion_told {s v : State} {k : Computation} {l : List Told} (hrunning : s.link.running = true)
    (hk : s.comp = some k) (hstand : k.standstill = false) (hv : playAndCheck (s.completing k) = v)
    (hparams : v.params = s.params) (hport : v.port = s.port.tellAll s.params.reportLevel l) :
    ∃ t, exec .cycleComputationCompletion s = .next t ∧
      t = { v with events := t.events, stats := t.stats, trace := t.trace, port := t.port } ∧
      (s.port.tx ≠ .idle → submitsFirst s t l) := by
  obtain ⟨hframe, m, hmore⟩ := hv ▸ completed_worked hstand s
  have hexec := completion_eq hrunning hk
  generalize completed k s = w at hexec hframe hmore
  have hall : w.port = s.port.tellAll s.params.reportLevel (l ++ m) := by rw [hmore, hparams, hport, tellAll_append]
  refine ⟨pumpTx w, hexec, ?_, fun htx => submitsFirst_of_tellAll (m := m) ?_⟩
  · obtain ⟨x, q, hpump⟩ := pumpTx_port w
    generalize ({ w.port with tx := x, reports := q } : Port) = p at hpump
    rw [hpump]
    conv_lhs => rw [hframe]
  · rw [pumpTx_busy w (by rw [hall, tellAll_frame]; exact htx), hall]

section
variable {s : State} {k : Computation} (hrunning : s.link.running = true) (hk : s.comp = some k) (hstand : k.standstill = false)
include hrunning hk hstand

/-- The player's work leaves it at rest: the completion checks no band. -/
theorem completion_rests {v : State} {l : List Told} (hop : s.run.op.inRun = true) (hw : playerWork (s.completing k) = v)
    (hm : v.player.mode ≠ .playing) (hparams : v.params = s.params)
    (hport : v.port = s.port.tellAll s.params.reportLevel l) :
    ∃ t, exec .cycleComputationCompletion s = .next t ∧
      t = { v with events := t.events, stats := t.stats, trace := t.trace, port := t.port } ∧
      (s.port.tx ≠ .idle → submitsFirst s t l) :=
  completion_told hrunning hk hstand (playAndCheck_unchecked hop hw (checksBand_notPlaying hm)) hparams hport

/-- The player's work leaves it playing: the completion checks the band. -/
theorem completion_plays {y : Player} {grade : Int} {ev : Events} {l : List Told} (hop : s.run.op = .run)
    (hw : playerWork (s.completing k) = { s.completing k with
      player := y, axle := { s.axle with grade := grade }, events := ev, port := s.port.tellAll s.params.reportLevel l })
    (hm : y.mode = .playing) :
    let raised := raisesOf (bandChecked s y).2
    ∃ t, exec .cycleComputationCompletion s = .next t ∧ t.comp = none ∧
      (t.player = (bandChecked s y).1 ∧ t.faults = raised.foldl (fun m f => Faults.take f s.run.count .run m) s.faults ∧
        t.run = s.run ∧ t.axle = { s.axle with grade := grade } ∧ t.stations = s.stations ∧ t.params = s.params ∧
        t.mem = s.mem) ∧
      (s.port.tx ≠ .idle → submitsFirst s t (l ++ raised.map (faultTold s.faults s.run.count .run))) := by
  have hcheck := (congrArg bandCheck hw).trans (bandCheck_told hop hm rfl)
  obtain ⟨t, h1, hf, h2⟩ := completion_told (l := l ++ (raisesOf (bandChecked s y).2).map (faultTold s.faults s.run.count .run))
    hrunning hk hstand ((if_pos (by rw [State.completing, hop]; rfl)).trans hcheck) rfl (by rw [tellAll_append]; rfl)
  refine ⟨t, h1, ?_, ⟨?_, ?_, ?_, ?_, ?_, ?_, ?_⟩, h2⟩ <;> rw [hf] <;> rfl

/-- A segment starts: the player plays, and the check uses its start speed. -/
theorem completion_starts {u : State} {y : Player} {h : Segment} {rest : List Segment} {l : List Told} (hop : s.run.op = .run)
    (hu : u = { s.completing k with player := y, port := s.port.tellAll s.params.reportLevel l })
    (hw : playerWork (s.completing k) = startSegment h rest u) :
    let raised := raisesOf (bandChecked s (y.begins h rest)).2
    ∃ t, exec .cycleComputationCompletion s = .next t ∧ t.comp = none ∧
      (t.player = (bandChecked s (y.begins h rest)).1 ∧
        t.faults = raised.foldl (fun m f => Faults.take f s.run.count .run m) s.faults ∧
        t.run = s.run ∧ t.axle = { s.axle with grade := h.grade } ∧ t.stations = s.stations ∧ t.params = s.params ∧
        t.mem = s.mem) ∧
      (s.port.tx ≠ .idle → submitsFirst s t (l ++ startReports s.run.count .run h rest.length y.clock y.phase y.phaseTol ++
        raised.map (faultTold s.faults s.run.count .run))) := by
  refine completion_plays hrunning hk hstand (ev := { s.events with markPending := s.events.markPending || h.phase.isSome }) hop
    ?_ rfl
  rw [hw, startSegment_told, hu, tellAll_append, ← hop]
  rfl

/-- The test of the policy on a player z in UNDERRUN. -/
theorem completion_starves {z : Player} {m : Faults} {l : List Told} (hop : s.run.op = .run) (hm : z.mode = .underrun)
    (hactive : z.active = none) (hw : playerWork (s.completing k) = underrunTest { s.completing k with
      player := z, faults := m, port := s.port.tellAll s.params.reportLevel l }) :
    (s.run.mode = .speed → s.inForce.underrunStop = true →
      ∃ t, exec .cycleComputationCompletion s = .next t ∧ t.comp = none ∧
        (t.player = { z with mode := .ended, ended := some .stopped } ∧ t.run = s.run.stoppedBy .underrunStop ∧
          t.faults = m) ∧
        (s.port.tx ≠ .idle → submitsFirst s t (l ++ [(s.run.count, .stopping, .profileEnd .stopped z.lastTag z.clock),
          stateReport s.run .run .stopping .underrunStop]))) ∧
    (s.run.mode = .road ∨ s.inForce.underrunStop = false →
      ∃ t, exec .cycleComputationCompletion s = .next t ∧ t.comp = none ∧
        (t.player = z ∧ t.run = s.run ∧ t.axle = s.axle ∧ t.faults = m) ∧ (s.port.tx ≠ .idle → submitsFirst s t l)) := by
  have hin : s.run.op.inRun = true := by rw [hop]; rfl
  refine ⟨fun hmode hpolicy => ?_, fun hstays => ?_⟩
  · have hends : endsInStop z = true := by
      unfold endsInStop
      rw [hm]
      rfl
    have hstopped : playerStopped z = { z with mode := .ended, ended := some .stopped } := by
      unfold playerStopped
      rw [if_pos hends, ← hactive]
    rw [underrunTest_stops (by exact ⟨hmode, hpolicy⟩) (by exact hop)] at hw
    obtain ⟨t, h1, hf, h2⟩ := completion_rests hrunning hk hstand (l := l ++ stopTold s.run z .underrunStop) hin hw
      (by rw [hstopped]; exact nofun) rfl (by rw [tellAll_append]; rfl)
    refine ⟨t, h1, by rw [hf]; rfl, ⟨by rw [hf]; exact hstopped, by rw [hf]; rfl, by rw [hf]⟩, fun htx => ?_⟩
    have := h2 htx
    unfold stopTold at this
    rw [if_pos hends] at this
    exact this
  · obtain ⟨t, h1, hf, h2⟩ := completion_rests hrunning hk hstand (l := l) hin
      (hw.trans (underrunTest_stays (by exact hstays.imp_right .inl))) (by rw [hm]; exact nofun) rfl rfl
    exact ⟨t, h1, by rw [hf]; rfl, ⟨by rw [hf], by rw [hf]; rfl, by rw [hf]; rfl, by rw [hf]⟩, h2⟩

/-- The end of a segment's last point: held, the profile's end, the next segment, or an underrun (R103). -/
theorem completion_ends {g : Segment} {y : Player} (hop : s.run.op = .run)
    (hw : playerWork (s.completing k) = decideEnd true g (segmentDone g y (s.completing k))) :
    let ended : Told := (s.run.count, .run, .segmentEnded g.tag y.clock)
    (g.holdAtEnd = true → ∃ t, exec .cycleComputationCompletion s = .next t ∧ t.comp = none ∧
      (t.player = { y with mode := .held } ∧ t.run = s.run ∧ t.axle = s.axle ∧ t.faults = s.faults) ∧
      (s.port.tx ≠ .idle → submitsFirst s t [ended, (s.run.count, .run, .hold g.tag y.speed y.clock)])) ∧
    (g.holdAtEnd = false → g.last = true → ∃ t, exec .cycleComputationCompletion s = .next t ∧ t.comp = none ∧
      (t.player = y.endedBy .last ∧ t.faults = s.faults ∧ t.run = s.run.profileEnded) ∧
      (s.port.tx ≠ .idle → submitsFirst s t (ended :: endTold s.run y .last))) := by
  have hin : s.run.op.inRun = true := by rw [hop]; rfl
  refine ⟨fun hh => ?_, fun hh hlast => ?_⟩
  · rw [decideEnd_hold hh] at hw
    obtain ⟨t, h1, hf, h2⟩ := completion_rests hrunning hk hstand
      (l := [(s.run.count, s.run.op, .segmentEnded g.tag y.clock), (s.run.count, s.run.op, .hold g.tag y.speed y.clock)]) hin hw
      (by exact nofun) rfl rfl
    rw [hop] at h2
    exact ⟨t, h1, by rw [hf]; rfl, ⟨by rw [hf]; rfl, by rw [hf]; rfl, by rw [hf]; rfl, by rw [hf]; rfl⟩, h2⟩
  · rw [decideEnd_noHold hh, decideEnd_last hlast, endProfile_told] at hw
    obtain ⟨t, h1, hf, h2⟩ := completion_rests hrunning hk hstand
      (l := (s.run.count, s.run.op, .segmentEnded g.tag y.clock) :: endTold s.run y .last) hin hw (by exact nofun) rfl rfl
    rw [hop] at h2
    exact ⟨t, h1, by rw [hf]; rfl, ⟨by rw [hf]; rfl, by rw [hf]; rfl, by rw [hf]; rfl⟩, h2⟩
end

/-- Settles O25: the player's cycle by the case it meets, then the band, then what tests and capture add. -/
theorem completionPlaysTheProfile : Obligations.CompletionPlaysTheProfile := by
  intro s k hrunning hk hstand hops
  have hin : s.run.op.inRun = true := (inRun_iff s.run.op).mpr hops
  refine ⟨fun hidle => ?_, fun hop => ⟨fun g p hm hg hp => ⟨fun hlt => ?_, fun heq hmore => ?_, fun heq hlast => ?_⟩, fun hm =>
    ⟨fun h rest hw => ?_, fun hw hactive => ?_⟩⟩⟩
  · have hnot : s.player.mode ≠ .playing := by rcases hidle with h | h | h <;> rw [h] <;> decide
    obtain ⟨t, h1, hf, h2⟩ := completion_rests hrunning hk hstand (l := []) hin
      (playerWork_idle (s := s.completing k) hidle) hnot rfl rfl
    exact ⟨t, h1, by rw [hf]; rfl, ⟨by rw [hf]; rfl, by rw [hf]; rfl, by rw [hf]; rfl, by rw [hf]; rfl⟩, h2⟩
  · exact completion_plays hrunning hk hstand (l := []) (ev := s.events) hop
      (playerWork_goesOn (s := s.completing k) hm hg (playCycle_within hp hlt)) hm
  · exact completion_plays hrunning hk hstand (l := []) (ev := s.events) hop
      (playerWork_goesOn (s := s.completing k) hm hg (playCycle_next hp heq hmore)) hm
  · have hend := playerWork_ends (s := s.completing k) hm hg (playCycle_last hp heq hlast)
    obtain ⟨hhold, hprofile⟩ := completion_ends hrunning hk hstand hop hend
    refine ⟨hhold, fun hh hl => ?_, fun h rest hh hl hw => ?_, fun hh hl hw => ?_⟩
    · obtain ⟨t, h1, hc, ⟨hplayer, hfaults, hrun⟩, h2⟩ := hprofile hh hl
      refine ⟨t, h1, hc, ⟨hplayer, hfaults, ?_⟩, ?_⟩
      · rw [hrun]
        unfold Run.profileEnded
        simp only [hop, and_true]
        rfl
      · unfold endTold at h2
        simp only [hop, and_true] at h2
        exact h2
    · rw [decideEnd_noHold hh, decideEnd_next hl (by exact hw)] at hend
      exact completion_starts hrunning hk hstand
        (l := [(s.run.count, .run, .segmentEnded g.tag (s.player.played p).clock)]) hop
        (by rw [← hop]; rfl) hend
    · rw [decideEnd_noHold hh, decideEnd_empty hl (by exact hw), enterUnderrun_eq] at hend
      exact completion_starves hrunning hk hstand (z := (s.player.played p).starved)
        (m := Faults.take underrunRaise s.run.count .run s.faults)
        (l := [(s.run.count, .run, .segmentEnded g.tag (s.player.played p).clock),
          faultTold s.faults s.run.count .run underrunRaise]) hop rfl rfl (by rw [hend, ← hop]; rfl)
  · exact completion_starts hrunning hk hstand (l := []) (y := s.player) (u := s.completing k) hop rfl
      (playerWork_resumes (s := s.completing k) hm hw)
  · obtain ⟨hstops, hstays⟩ := completion_starves hrunning hk hstand (z := s.player) (m := s.faults) (l := []) hop hm hactive
      (playerWork_starves (s := s.completing k) hm hw)
    have hsame : ({ s.player with mode := .underrun } : Player) = s.player := by rw [← hm]
    refine ⟨hstops, fun h => ?_⟩
    rw [hsame]
    exact hstays h

end Sys2Proof.Machine
end

section
/-! SUPPORT. What the player's work and the band check of a completion may change, and how many reports they make. -/

namespace Sys2Proof.Machine

/-! ### The player's changes (R98 to R111) -/

/-- `s` with all that the player's work can reach as it stands in `t`. -/
def State.playedTo (s t : State) : State :=
  { s with
    player := t.player, axle := { s.axle with grade := t.axle.grade }, faults := t.faults, run := t.run, comp := t.comp
    events := { s.events with markPending := t.events.markPending }, port := t.port }

/-- From s to t the player has worked, with the reports l, none of them an EVENT report: it may take RUN to STOPPING. -/
structure Played (l : List Told) (s t : State) : Prop where
  frame : t = s.playedTo t
  comp : s.comp = none → t.comp = none
  run : t.run = s.run ∨ (s.run.op = .run ∧ ∃ c, t.run = s.run.stoppedBy c)
  port : t.port = s.port.tellAll s.params.reportLevel l
  silent : ∀ x ∈ l, isEventReport x.2.2 = false

theorem Played.params {l : List Told} {s t : State} (h : Played l s t) : t.params = s.params := by
  rw [h.frame]
  rfl

theorem Played.refl (s : State) : Played [] s s := ⟨rfl, id, .inl rfl, rfl, by simp⟩

theorem Played.trans {l m : List Told} {s t u : State} (h : Played l s t) (k : Played m t u) : Played (l ++ m) s u := by
  refine ⟨Eq.trans k.frame (congrArg (fun x => State.playedTo x u) h.frame : _ = (s.playedTo t).playedTo u),
    fun hc => k.comp (h.comp hc), ?_, ?_, fun x hx => ?_⟩
  · rcases h.run with hr | ⟨hop, c, hr⟩
    · rw [← hr]
      exact k.run
    · rcases k.run with kr | ⟨kop, _⟩
      · exact .inr ⟨hop, c, kr.trans hr⟩
      · rw [hr] at kop
        cases kop
  · rw [k.port, h.params, h.port, tellAll_append]
  · exact (List.mem_append.mp hx).elim (h.silent x) (k.silent x)

/-- The player has worked with at most n reports, outside RUN at most m. -/
def Labours (n m : Nat) (s t : State) : Prop :=
  ∃ l, Played l s t ∧ l.length ≤ n ∧ (s.run.op ≠ .run → l.length ≤ m)

theorem Played.labours {l : List Told} {s t : State} (h : Played l s t) : Labours l.length l.length s t :=
  ⟨l, h, le_refl _, fun _ => le_refl _⟩

theorem Labours.mono {n m n' m' : Nat} {s t : State} (h : Labours n m s t) (hn : n ≤ n') (hm : m ≤ m') : Labours n' m' s t := by
  obtain ⟨l, hl, h1, h2⟩ := h
  exact ⟨l, hl, h1.trans hn, fun hop => (h2 hop).trans hm⟩

theorem Labours.trans {n m n' m' : Nat} {s t u : State} (h : Labours n m s t) (k : Labours n' m' t u) :
    Labours (n + n') (m + m') s u := by
  obtain ⟨l, hl, h1, h2⟩ := h
  obtain ⟨l', hl', k1, k2⟩ := k
  refine ⟨l ++ l', hl.trans hl', by rw [List.length_append]; omega, fun hop => ?_⟩
  have hop' : t.run.op ≠ .run := by
    rcases hl.run with hr | ⟨hrun, _⟩
    · rw [hr]
      exact hop
    · exact absurd hrun hop
  have := h2 hop
  have := k2 hop'
  rw [List.length_append]
  omega

theorem player_played (y : Player) (s : State) : Played [] s { s with player := y } := ⟨rfl, id, .inl rfl, rfl, by simp⟩

theorem startSegment_labours (g : Segment) (rest : List Segment) (s : State) : Labours 2 2 s (startSegment g rest s) := by
  rw [startSegment_told]
  refine Labours.mono (Played.labours ⟨rfl, id, .inl rfl, rfl, ?_⟩) ?_ ?_
  all_goals
    unfold startReports
    cases g.phase <;> simp [isEventReport]

/-- The entry to STOPPING makes two reports at most, and none outside RUN. -/
theorem stopTold_short (r : Run) (y : Player) (c : StopCause) :
    (stopTold r y c).length ≤ 2 ∧ ∀ x ∈ stopTold r y c, isEventReport x.2.2 = false := by
  unfold stopTold stateReport
  cases endsInStop y <;> simp [isEventReport]

theorem endProfile_labours (reason : EndReason) (s : State) : Labours 2 1 s (endProfile reason s) := by
  rw [endProfile_told]
  by_cases h : s.run.mode = .speed ∧ s.run.op = .run
  · refine ⟨endTold s.run s.player reason, ⟨rfl, id, .inr ⟨h.2, .profileEnd, if_pos h⟩, rfl, ?_⟩, ?_, fun hop => absurd h.2 hop⟩
    all_goals
      unfold endTold stateReport
      rw [if_pos h]
      simp [isEventReport]
  · refine ⟨endTold s.run s.player reason, ⟨rfl, id, .inl (if_neg h), rfl, ?_⟩, ?_, fun _ => ?_⟩
    all_goals
      unfold endTold
      rw [if_neg h]
      simp [isEventReport]

theorem underrunTest_labours (s : State) : Labours 2 0 s (underrunTest s) := by
  by_cases h : (s.run.mode = .speed ∧ s.inForce.underrunStop = true) ∧ s.run.op = .run
  · obtain ⟨hlen, hquiet⟩ := stopTold_short s.run s.player .underrunStop
    rw [underrunTest_stops h.1 h.2]
    exact ⟨_, ⟨rfl, id, .inr ⟨h.2, .underrunStop, rfl⟩, rfl, hquiet⟩, hlen, fun hop => absurd h.2 hop⟩
  · rw [underrunTest_stays]
    · exact ⟨[], Played.refl s, by simp, by simp⟩
    · cases hm : s.run.mode with
      | road => exact .inl rfl
      | speed =>
        refine .inr ?_
        cases hp : s.inForce.underrunStop with
        | false => exact .inl rfl
        | true => exact .inr fun hop => h ⟨⟨hm, hp⟩, hop⟩

theorem enterUnderrun_labours (s : State) : Labours 3 1 s (enterUnderrun s) := by
  have hraise : Played [faultTold s.faults s.run.count s.run.op underrunRaise] s (underrunRaised s) := by
    refine ⟨rfl, fun hc => ?_, .inl rfl, rfl, by simp [faultTold, isEventReport]⟩
    show s.comp.map _ = none
    rw [hc]
    rfl
  rw [enterUnderrun_eq]
  exact hraise.labours.trans (underrunTest_labours _)

/-! ### The work of a completion -/

theorem decideEnd_labours (hold : Bool) (g : Segment) (s : State) : Labours 3 2 s (decideEnd hold g s) := by
  unfold decideEnd
  split
  · rw [submit_tell]
    exact Labours.mono (Played.labours (l := [(s.run.count, s.run.op, .hold g.tag s.player.speed s.player.clock)])
      ⟨rfl, id, .inl rfl, rfl, by simp [isEventReport]⟩) (by simp) (by simp)
  · split
    · exact (endProfile_labours .last s).mono (by omega) (by omega)
    · split
      · exact (startSegment_labours _ _ s).mono (by omega) (by omega)
      · exact (enterUnderrun_labours s).mono (by omega) (by omega)

theorem segmentDone_played (g : Segment) (y : Player) (s : State) :
    Played [(s.run.count, s.run.op, .segmentEnded g.tag y.clock)] s (segmentDone g y s) :=
  ⟨rfl, id, .inl rfl, rfl, by simp [isEventReport]⟩

/-- A cycle played leaves the queue as it is. -/
theorem playCycle_waiting (y : Player) (g : Segment) : (y.playCycle g).1.waiting = y.waiting := by
  unfold Player.playCycle
  split
  · rfl
  · dsimp only
    split
    · split <;> rfl
    · rfl

/-- The player's work by the case it meets: nothing, one cycle, a segment's end, a segment after an underrun, the policy. -/
theorem playerWork_cases (s : State) :
    playerWork s = s ∨ (∃ y, y.waiting = s.player.waiting ∧ playerWork s = { s with player := y }) ∨
    (∃ g y, y.waiting = s.player.waiting ∧ playerWork s = decideEnd true g (segmentDone g y s)) ∨
    (∃ h rest, s.player.waiting = h :: rest ∧ playerWork s = startSegment h rest s) ∨ playerWork s = underrunTest s := by
  cases hm : s.player.mode with
  | held => exact .inl (playerWork_idle (.inl hm))
  | ended => exact .inl (playerWork_idle (.inr (.inl hm)))
  | empty => exact .inl (playerWork_idle (.inr (.inr hm)))
  | playing =>
    cases hg : s.player.active with
    | none =>
      refine .inl ?_
      unfold playerWork
      rw [hm, hg]
    | some g =>
      have hw := playCycle_waiting s.player g
      cases hy : s.player.playCycle g with
      | mk y done =>
        rw [hy] at hw
        cases done with
        | false => exact .inr (.inl ⟨y, hw, playerWork_goesOn hm hg hy⟩)
        | true => exact .inr (.inr (.inl ⟨g, y, hw, playerWork_ends hm hg hy⟩))
  | underrun =>
    cases hw : s.player.waiting with
    | nil => exact .inr (.inr (.inr (.inr (playerWork_starves hm hw))))
    | cons h rest => exact .inr (.inr (.inr (.inl ⟨h, rest, rfl, playerWork_resumes hm hw⟩)))

theorem playerWork_labours (s : State) : Labours 4 3 s (playerWork s) := by
  rcases playerWork_cases s with h | ⟨y, _, h⟩ | ⟨g, y, _, h⟩ | ⟨h', rest, _, h⟩ | h <;> rw [h]
  · exact (Played.refl s).labours.mono (by simp) (by simp)
  · exact (player_played y s).labours.mono (by simp) (by simp)
  · exact (segmentDone_played g y s).labours.trans (decideEnd_labours true g _)
  · exact (startSegment_labours h' rest s).mono (by omega) (by omega)
  · exact (underrunTest_labours s).mono (by omega) (by omega)

theorem bandCheck_labours {s : State} (hc : s.comp = none) : Labours 1 0 s (bandCheck s) := by
  cases hb : s.checksBand with
  | false =>
    rw [bandCheck_unchecked hb]
    exact ⟨[], Played.refl s, by simp, by simp⟩
  | true =>
    obtain ⟨hop, _, hm⟩ := (checksBand_iff s).mp hb
    rw [bandCheck_told hop hm hc]
    refine ⟨_, ⟨rfl, fun _ => hc, .inl rfl, rfl, ?_⟩, ?_, fun h => absurd hop h⟩
    all_goals
      unfold raisesOf
      cases (bandChecked s s.player).2 <;> simp [faultTold, isEventReport]

/-- The player's work and the check of a completion. -/
theorem playAndCheck_labours {s : State} (hc : s.comp = none) : Labours 5 3 s (playAndCheck s) := by
  unfold playAndCheck
  split
  · have hwork := playerWork_labours s
    refine hwork.trans (bandCheck_labours ?_)
    obtain ⟨_, hp, _⟩ := hwork
    exact hp.comp hc
  · exact (Played.refl s).labours.mono (by simp) (by simp)

/-! ### Segments and marks (R101, R102, R163) -/

/-- No segment leaves the queue and no mark is handed over. -/
def Unfed (s t : State) : Prop := t.player.waiting = s.player.waiting ∧ t.events.markPending = s.events.markPending

/-- At most one segment leaves the queue, and its phase, if it opens one, hands a mark to the marker line. -/
def Fed (s t : State) : Prop :=
  Unfed s t ∨ ∃ h rest, s.player.waiting = h :: rest ∧ t.player.waiting = rest ∧
    t.events.markPending = (s.events.markPending || h.phase.isSome)

theorem Unfed.trans {s t u : State} (h : Unfed s t) (k : Unfed t u) : Unfed s u := ⟨k.1.trans h.1, k.2.trans h.2⟩

theorem Unfed.fed {s t u : State} (h : Unfed s t) (k : Fed t u) : Fed s u := by
  rcases k with k | ⟨x, rest, k1, k2, k3⟩
  · exact .inl (h.trans k)
  · exact .inr ⟨x, rest, h.1.symm.trans k1, k2, by rw [k3, h.2]⟩

theorem Fed.unfed {s t u : State} (h : Fed s t) (k : Unfed t u) : Fed s u := by
  rcases h with h | ⟨x, rest, h1, h2, h3⟩
  · exact .inl (h.trans k)
  · exact .inr ⟨x, rest, h1, k.1.trans h2, k.2.trans h3⟩

theorem startSegment_fed {s : State} {g : Segment} {rest : List Segment} (h : s.player.waiting = g :: rest) :
    Fed s (startSegment g rest s) := by
  rw [startSegment_told]
  exact .inr ⟨g, rest, h, rfl, rfl⟩

theorem endProfile_unfed (reason : EndReason) (s : State) : Unfed s (endProfile reason s) := by
  rw [endProfile_told]
  exact ⟨rfl, rfl⟩

theorem underrunTest_unfed (s : State) : Unfed s (underrunTest s) := by
  unfold underrunTest
  split
  · by_cases hop : s.run.op = .run
    · rw [enterStopping_told _ hop]
      refine ⟨?_, rfl⟩
      unfold playerStopped
      dsimp only
      split <;> rfl
    · rw [enterStopping_outside _ _ _ hop]
      exact ⟨rfl, rfl⟩
  · exact ⟨rfl, rfl⟩

theorem decideEnd_fed (hold : Bool) (g : Segment) (s : State) : Fed s (decideEnd hold g s) := by
  unfold decideEnd
  split
  · rw [submit_tell]
    exact .inl ⟨rfl, rfl⟩
  · split
    · exact .inl (endProfile_unfed .last s)
    · split
      · exact startSegment_fed ‹_›
      · rw [enterUnderrun_eq]
        exact .inl (Unfed.trans (t := underrunRaised s) ⟨rfl, rfl⟩ (underrunTest_unfed _))

theorem playerWork_fed (s : State) : Fed s (playerWork s) := by
  rcases playerWork_cases s with h | ⟨y, hy, h⟩ | ⟨g, y, hy, h⟩ | ⟨g, rest, hw, h⟩ | h <;> rw [h]
  · exact .inl ⟨rfl, rfl⟩
  · exact .inl ⟨hy, rfl⟩
  · exact Unfed.fed (t := segmentDone g y s) ⟨hy, rfl⟩ (decideEnd_fed true g _)
  · exact startSegment_fed hw
  · exact .inl (underrunTest_unfed s)

theorem bandChecked_waiting (s : State) (y : Player) : (bandChecked s y).1.waiting = y.waiting := by
  unfold bandChecked
  split
  · rfl
  · split
    · rfl
    · dsimp only
      split <;> rfl

theorem bandCheck_unfed {s : State} (hc : s.comp = none) : Unfed s (bandCheck s) := by
  cases hb : s.checksBand with
  | false =>
    rw [bandCheck_unchecked hb]
    exact ⟨rfl, rfl⟩
  | true =>
    obtain ⟨hop, _, hm⟩ := (checksBand_iff s).mp hb
    rw [bandCheck_told hop hm hc]
    exact ⟨bandChecked_waiting s s.player, rfl⟩

theorem playAndCheck_fed {s : State} (hc : s.comp = none) : Fed s (playAndCheck s) := by
  unfold playAndCheck
  split
  · refine (playerWork_fed s).unfed (bandCheck_unfed ?_)
    obtain ⟨_, hp, _⟩ := playerWork_labours s
    exact hp.comp hc
  · exact .inl ⟨rfl, rfl⟩

end Sys2Proof.Machine
end

section
/-! O46: the DISTANCE and TRACE_TIME tests of a completion. -/

namespace Sys2Proof.Machine

/-! ### The entries that fire -/

theorem inRun_false {op : OpState} (h1 : op ≠ .run) (h2 : op ≠ .stopping) : op.inRun = false :=
  Bool.eq_false_iff.mpr fun h => ((inRun_iff op).mp h).elim h1 h2

section
variable {s v t : State} {l : List (Fin 16 × EventEntry)}

/-- The entries that the statements let fire are those that the tests let fire. -/
theorem firing_eq {test : EventEntry → Bool} (he : v.events.entries = s.events.entries) (ht : ∀ e, test e = v.due e) :
    firedBy s test = v.firing := by
  unfold firedBy State.firing dueAmong dueEntry
  rw [he, funext ht]

theorem mem_firing {p : Fin 16 × EventEntry} (h : p ∈ v.firing) : v.events.entries[p.1] = some p.2 ∧ v.due p.2 = true := by
  unfold State.firing dueAmong dueEntry at h
  obtain ⟨i, _, hi⟩ := List.mem_filterMap.mp h
  obtain ⟨e, he, hp⟩ := Option.map_eq_some_iff.mp hi
  obtain ⟨h1, h2⟩ := Option.filter_eq_some_iff.mp he
  rw [← hp]
  exact ⟨h1, h2⟩

theorem snapshotIs_of_snap (hsnap : t.stats.snap = snapshotAfter v l) (hstats : v.stats = s.stats)
    (hcount : v.run.count = s.run.count) : snapshotIs s t s l := by
  unfold snapshotIs
  rw [hsnap]
  unfold snapshotAfter snapshotBy takeSnapshot
  rw [hstats, hcount]
  cases (l.filter fun p => p.2.actions.snapshot).getLast? with
  | none => rfl
  | some p =>
    refine ⟨rfl, rfl, fun k => ?_⟩
    match k with | 0 => rfl | 1 => rfl | 2 => rfl | 3 => rfl

theorem eventTold_isEvent (i : Fin 16) (e : EventEntry) : isEventReport (eventTold v i e).2.2 = true := by
  unfold eventTold eventReport
  cases e.trigger <;> rfl

/-- The EVENT reports of the entries that fire are the only ones among the reports of a completion. -/
theorem filter_events {a b : List Told} (ha : ∀ x ∈ a ++ b, isEventReport x.2.2 = false) (adv : EventEntry → EventEntry) :
    (a ++ eventReports v adv l ++ b).filter (fun x => isEventReport x.2.2) = eventReports v adv l := by
  have hnone : ∀ m : List Told, (∀ x ∈ m, x ∈ a ++ b) → m.filter (fun x => isEventReport x.2.2) = [] := fun m hm =>
    List.filter_eq_nil_iff.mpr fun x hx => by simp [ha x (hm x hx)]
  have hall : (eventReports v adv l).filter (fun x => isEventReport x.2.2) = eventReports v adv l :=
    List.filter_eq_self.mpr fun x hx => by
      obtain ⟨p, _, rfl⟩ := List.mem_map.mp hx
      exact eventTold_isEvent p.1 _
  rw [List.filter_append, List.filter_append, hnone a fun x hx => List.mem_append_left _ hx,
    hnone b fun x hx => List.mem_append_right _ hx, hall, List.nil_append, List.append_nil]

theorem eventReports_length (adv : EventEntry → EventEntry) : (eventReports v adv l).length ≤ l.length := by
  unfold eventReports
  rw [List.length_map]
  exact List.length_filter_le _ _
end

/-! ### The completion of a run's cycle -/

/-- What the player's work has left alone before the tests. -/
theorem Played.stands {l : List Told} {s v : State} (h : Played l s v) : v.axle.whole = s.axle.whole ∧
    v.events.entries = s.events.entries ∧ v.stats = s.stats ∧ v.trace = s.trace ∧ v.run.count = s.run.count := by
  refine ⟨by rw [h.frame]; rfl, by rw [h.frame]; rfl, by rw [h.frame]; rfl, by rw [h.frame]; rfl, ?_⟩
  rcases h.run with hr | ⟨_, c, hr⟩ <;> rw [hr]
  rfl

theorem Played.inRun {l : List Told} {s v : State} (h : Played l s v) (hop : s.run.op.inRun = true) : v.run.op.inRun = true := by
  rcases h.run with hr | ⟨_, c, hr⟩ <;> rw [hr]
  · exact hop
  · rfl

/-- A completion without a run end that tests the entries: the player's work, then the tests. -/
theorem completed_tested {s : State} {k : Computation} (hb : k.began.inRun = true) (hv : k.void = false)
    (hstand : k.standstill = false) (hop : s.run.op.inRun = true) :
    ∃ v l, Played l (s.completing k) v ∧ l.length ≤ 5 ∧ Fed s v ∧ v.comp = none ∧ EntriesTested 1 v (completed k s) := by
  obtain ⟨l, hp, hl, _⟩ := playAndCheck_labours (s := s.completing k) rfl
  refine ⟨playAndCheck (s.completing k), l, hp, hl, playAndCheck_fed (s := s.completing k) rfl, hp.comp rfl, ?_⟩
  unfold completed
  rw [if_pos hb]
  exact completionWork_tested _ hstand hb hv (hp.inRun hop)

/-- The mark pends after the tests where it did before, an entry has handed one over, or the player has opened a phase. -/
theorem mark_iff {s v : State} {b c : Bool} (h : Fed s v) (hb : b = (v.events.markPending || c)) :
    b = true ↔ s.events.markPending = true ∨ c = true ∨
      ∃ x rest, s.player.waiting = x :: rest ∧ v.player.waiting = rest ∧ x.phase ≠ none := by
  rw [hb]
  rcases h with ⟨hw, hm⟩ | ⟨x, rest, h1, h2, h3⟩
  · have hno : ¬∃ (x : Segment) (rest : List Segment), s.player.waiting = x :: rest ∧ v.player.waiting = rest ∧
        x.phase ≠ none := by
      rintro ⟨x, rest, h1, h2, _⟩
      exact List.cons_ne_self x rest (h1.symm.trans (hw.symm.trans h2))
    rw [hm, Bool.or_eq_true, or_congr_right (or_iff_left hno)]
  · have hphase : (∃ (x : Segment) (rest : List Segment), s.player.waiting = x :: rest ∧ v.player.waiting = rest ∧
        x.phase ≠ none) ↔ x.phase.isSome = true := by
      rw [Option.isSome_iff_ne_none]
      refine ⟨?_, fun hx => ⟨x, rest, h1, h2, hx⟩⟩
      rintro ⟨y, more, k1, _, k3⟩
      rw [h1] at k1
      cases k1
      exact k3
    rw [h3, hphase, Bool.or_eq_true, Bool.or_eq_true]
    tauto

/-! ### The obligation -/

/-- A completion outside a run leaves the player, the entries and the trace buffer alone. -/
theorem completed_outside {k : Computation} {s : State} (h : s.run.op.inRun = false) : completed k s = s.completing k := by
  have hplay : playAndCheck (s.completing k) = s.completing k := playAndCheck_outside (s.completing k) h
  have htrace : traceCapture k (s.completing k) = s.completing k := traceCapture_outside (s := s.completing k) k h
  have htests : completionTests k (s.completing k) = s.completing k :=
    completionTests_none (s.completing k) (.inr (.inr h))
  have hend : finishRun k.standstill (s.completing k) = s.completing k := by
    have hstop : (s.completing k).run.op ≠ .stopping := fun hs => by
      have hs' : s.run.op = .stopping := hs
      rw [hs'] at h
      cases h
    unfold finishRun
    rw [if_neg (by simp [hstop])]
  unfold completed completionWork
  rw [hplay]
  cases Config.completionOrder s.free <;> simp only [htrace, htests, hend, ite_self]

/-- A completion of a computation that began outside a run makes no event test (log 24). -/
theorem completed_captured {k : Computation} (s : State) (h : k.began.inRun = false) :
    Captured (playAndCheck (s.completing k)) (completed k s) := by
  unfold completed
  rw [h]
  exact traceCapture_captured k _

/-- The EVENT report of an entry that fires carries what the statement says, t being the state that the tests leave. -/
theorem eventTold_eq {s v t : State} {p : Fin 16 × EventEntry} (hp : p ∈ v.firing)
    (he : t.events.entries[p.1] = v.events.entries[p.1].map (EventEntry.tested v.due v.adv)) (hcount : v.run.count = s.run.count)
    (hop : v.run.op = t.run.op) (hmm : v.distanceMm = s.axle.whole.tdiv 1000000) (hclock : v.player.clock = t.player.clock) :
    eventTold v p.1 (v.adv p.2).fired = (s.run.count, t.run.op, match t.events.entries[p.1].map EventEntry.trigger with
      | some (.distance _ _ next) => .eventDistance p.1 (min 65535 (p.2.fires + 1)) (s.axle.whole.tdiv 1000000) next
      | _ => .eventTrace p.1 (min 65535 (p.2.fires + 1)) t.player.clock) := by
  obtain ⟨i, e⟩ := p
  obtain ⟨hentry, hdue⟩ := mem_firing hp
  have ht : t.events.entries[i] = some (v.adv e).fired := by
    rw [he, hentry, Option.map_some, EventEntry.tested, if_pos hdue]
  unfold eventTold
  rw [ht, hcount, hop, ← hmm, ← hclock]
  unfold State.due EventEntry.dueAt at hdue
  unfold eventReport State.adv EventEntry.advanced
  cases htrigger : e.trigger with
  | cycle v m =>
    rw [htrigger] at hdue
    cases hdue
  | distance st per next => rfl
  | traceTime a =>
    simp only [EventEntry.fired, Option.map_some]
    rfl

/-- The EVENT reports that a queue with room gains at a completion are those of the entries that fire, in their order. -/
theorem tested_events {s v w : State} {l : List Told} (hp : Played l s v) (hl : l.length ≤ 5) (hw : EntriesTested 1 v w)
    (hroom : s.port.reports.length ≤ 8) : w.port.tx = s.port.tx ∧
    (told (w.port.reports.drop s.port.reports.length)).filter (fun x => isEventReport x.2.2) =
      heard s (eventReports v v.adv v.firing) := by
  obtain ⟨a, b, hab, hsilent, hport⟩ := hw.port
  have hall : w.port = s.port.tellAll s.params.reportLevel ((l ++ a) ++ eventReports v v.adv v.firing ++ b) := by
    rw [hport, hp.params, hp.port, ← tellAll_append, ← List.append_assoc, ← List.append_assoc]
  have hlength : ((l ++ a) ++ eventReports v v.adv v.firing ++ b).length ≤ 22 := by
    have h1 := eventReports_length (v := v) (l := v.firing) v.adv
    have h2 := firing_length v
    simp only [List.length_append]
    omega
  have hfilter := filter_events (v := v) (l := v.firing) (a := l ++ a) (b := b) (fun x hx => by
    rw [List.append_assoc, List.mem_append] at hx
    exact hx.elim (hp.silent x) (hsilent x)) v.adv
  have hheard : (heard s ((l ++ a) ++ eventReports v v.adv v.firing ++ b)).length ≤ 22 :=
    (List.length_filter_le _ _).trans hlength
  have hgain := gained_filter (s := s) (p := fun x => isEventReport x.2.2)
    (l := (l ++ a) ++ eventReports v v.adv v.firing ++ b) (m := []) (by omega) (by simp)
  rw [List.append_nil, ← hall, hfilter] at hgain
  exact ⟨by rw [hall, tellAll_frame], hgain⟩

/-- Settles O46: what the tests make of the entries, and the completion's tests after the player's work. -/
theorem completionEntriesFire : Obligations.CompletionEntriesFire := by
  refine ⟨fun s k h => completionTests_none s ?_, fun s k i e hop hb hv he => ?_, fun s k hrunning hk hb hv hstand hop => ?_,
    fun s k hrunning hk hv hop => ?_, fun s k hrunning hk hb1 hb2 => ?_⟩
  · exact h.imp (fun ⟨h1, h2⟩ => inRun_false h1 h2) .inl
  · have hfired := completionTests_fires ((inRun_iff k.began).mpr hb) hv ((inRun_iff s.run.op).mpr hop)
    rw [hfired.entries i, if_pos (mem_entryList i), he]
    exact entryTested_of_tested s.distanceMm s.player.clock e
  · obtain ⟨v, l, hp, hl, hfed, hcomp, hw⟩ := completed_tested (s := s) ((inRun_iff k.began).mpr hb) hv hstand
      ((inRun_iff s.run.op).mpr hop)
    obtain ⟨hwhole, hentries, hstats, htrace, hcount⟩ := hp.stands
    have hexec := completion_eq hrunning hk
    have hwplayer : (completed k s).player = v.player := by rw [hw.frame]
    have hwrun : (completed k s).run = v.run := by rw [hw.frame]
    have hwaxle : (completed k s).axle = v.axle := by rw [hw.frame]
    have hwcomp : (completed k s).comp = v.comp := by rw [hw.frame]
    have hmm : v.distanceMm = s.axle.whole.tdiv 1000000 := congrArg (Int.tdiv · 1000000) hwhole
    generalize completed k s = w at *
    have hevery : ∀ i : Fin 16, w.events.entries[i] = s.events.entries[i].map (EventEntry.tested v.due v.adv) := fun i => by
      rw [hw.entries i, hentries]
      rfl
    refine ⟨pumpTx w, hexec, ?_, fun i => ⟨fun hnone => ?_, fun e he => ?_⟩, ?_⟩
    · rw [pumpTx_axle, hwaxle, hwhole]
      rfl
    · rw [pumpTx_events, hevery i, hnone]
      rfl
    · rw [pumpTx_events, pumpTx_player, hevery i, he, hwplayer, ← hmm]
      exact entryTested_of_tested v.distanceMm v.player.clock e
    · intro mm fired body
      have hplayer : (pumpTx w).player = v.player := (pumpTx_player w).trans hwplayer
      have hfired : fired = v.firing := firing_eq hentries fun e => by
        show _ = EventEntry.dueAt v.distanceMm v.player.clock e
        rw [hmm, ← hplayer]
        unfold EventEntry.dueAt
        cases e.trigger <;> rfl
      rw [hfired]
      refine ⟨snapshotIs_of_snap (by rw [pumpTx_stats]; exact hw.snap) hstats hcount, ?_, ?_, ?_, fun htx hroom => ?_⟩
      · rw [pumpTx_comp, hwcomp, hcomp]
      · rw [pumpTx_events, hplayer, mark_iff hfed hw.mark, List.any_eq_true]
      · rw [pumpTx_trace, hw.waiting, htrace, Bool.or_eq_true, List.any_eq_true]
        rfl
      · obtain ⟨hportTx, hevents⟩ := tested_events hp hl hw hroom
        have hbusy : pumpTx w = w := pumpTx_busy w (by rw [hportTx]; exact htx)
        rw [hbusy]
        refine hevents.trans (congrArg (heard s) (List.map_congr_left fun p hmem => ?_))
        dsimp only [body]
        rw [hbusy]
        exact eventTold_eq (List.mem_filter.mp hmem).1 (hw.entries p.1) hcount (by rw [hwrun]) hmm (by rw [hwplayer])
  · have hout : s.run.op.inRun = false := by rw [hop]; rfl
    refine ⟨_, completion_eq hrunning hk, ?_, ?_, ?_⟩ <;> rw [completed_outside hout]
    · rw [pumpTx_events]
      rfl
    · rw [pumpTx_trace]
      rfl
    · rw [pumpTx_comp]
      rfl
  · obtain ⟨l, hp, _, _⟩ := playAndCheck_labours (s := s.completing k) rfl
    obtain ⟨_, hentries, hstats, htrace, _⟩ := hp.stands
    have hcomp := hp.comp rfl
    have hcap := completed_captured s (inRun_false hb1 hb2)
    generalize playAndCheck (s.completing k) = v at *
    refine ⟨_, completion_eq hrunning hk, ?_, ?_, ?_, ?_⟩ <;> generalize completed k s = w at * <;> rw [hcap.frame]
    · rw [pumpTx_events]
      exact hentries
    · rw [pumpTx_stats]
      exact hstats
    · rw [pumpTx_trace]
      show v.trace.waiting = _
      rw [htrace]
      rfl
    · rw [pumpTx_comp]
      exact hcomp

end Sys2Proof.Machine
end

section
/-! O24: the run end at the completion that reports standstill. -/

namespace Sys2Proof.Machine

/-! ### Run end (R127) -/

/-- The reports of a run end: STATION of each station gone idle, then STATE. -/
def endReports (s : State) : List Told :=
  stationReports s s.run.op s.axle.v s.monitor .runEnd (fun _ r => engagedIn r) idled s.run.count ++
    [stateReport s.run .stopping .ready .standstill]

/-- What a run end leaves, and its reports. -/
structure RunEnded (s t : State) : Prop where
  frame : t = { runFinished s with stations := t.stations, comp := t.comp, port := t.port }
  comp : t.comp = none
  stations : stationsBecome s t (fun _ r => engagedIn r) idled
  port : t.port = s.port.tellAll s.params.reportLevel (endReports s)

theorem runEnd_ended {s : State} (hc : s.comp = none) : RunEnded s (runEnd s) := by
  obtain ⟨hst, hport, hcomp⟩ := idleEngaged_told .runEnd s
  have hm := idleEngaged_moved .runEnd s
  have hspeed : s.axleSeen.v = s.axle.v := by
    unfold State.axleSeen
    rw [hc]
  rw [runEnd_eq, submitState_eq, submit_tell]
  generalize idleEngaged .runEnd s = u at *
  rw [hspeed] at hport
  refine ⟨?_, hcomp hc, hst, ?_⟩
  · generalize Port.tell _ _ _ = p
    conv_lhs => rw [hm.eq]
    rfl
  · unfold endReports
    rw [tellAll_append]
    show u.port.tell u.params.reportLevel (u.run.count, .ready, .state .stopping .ready .standstill none u.run.tag u.run.mode
      u.run.orderly false) = _
    rw [hport, hm.params, hm.run]
    rfl

theorem finishRun_ends {s : State} (hop : s.run.op = .stopping) (ho : s.run.orderly = false) : finishRun true s = runEnd s := by
  unfold finishRun
  rw [if_pos (by rw [hop]; rfl), if_neg (by rw [ho]; decide)]

/-! ### The orders of a completion with a run end (log 4) -/

/-- What precedes the run end: the tests with or without the capture, or no test. -/
def Precedes (s x : State) : Prop := EntriesTested 1 s x ∨ Captured s x

theorem EntriesTested.mono {n : Nat} {s t : State} (h : EntriesTested n s t) : EntriesTested (n + 1) s t :=
  h.captured (Captured.refl t)

theorem completionTests_either (k : Computation) (s : State) :
    EntriesTested 0 s (completionTests k s) ∨ completionTests k s = s := by
  by_cases hn : k.began.inRun = false ∨ k.void = true ∨ s.run.op.inRun = false
  · exact .inr (completionTests_none s hn)
  · simp only [not_or, Bool.not_eq_false, Bool.not_eq_true] at hn
    exact .inl (completionTests_fires hn.1 hn.2.1 hn.2.2).entriesTested

theorem precedes_tests (k : Computation) (s : State) : Precedes s (completionTests k s) := by
  rcases completionTests_either k s with h | h
  · exact .inl h.mono
  · rw [h]
    exact .inr (Captured.refl s)

theorem precedes_testsCapture (k : Computation) (s : State) : Precedes s (traceCapture k (completionTests k s)) := by
  rcases completionTests_either k s with h | h
  · exact .inl (h.captured (traceCapture_captured k _))
  · rw [h]
    exact .inr (traceCapture_captured k s)

theorem precedes_captureTests (k : Computation) (s : State) : Precedes s (completionTests k (traceCapture k s)) := by
  rcases completionTests_either k (traceCapture k s) with h | h
  · exact .inl ((traceCapture_captured k s).tested h)
  · rw [h]
    exact .inr (traceCapture_captured k s)

theorem Precedes.run {s x : State} (h : Precedes s x) : x.run = s.run := by
  rcases h with h | h <;> rw [h.frame]

theorem Precedes.comp {s x : State} (h : Precedes s x) : x.comp = s.comp := by
  rcases h with h | h <;> rw [h.frame]

/-- Whatever the order, the run ends after what precedes, and after the run end nothing more is done. -/
theorem completionWork_ends (o : CompletionOrder) {k : Computation} {s : State} (hk : k.standstill = true)
    (hop : s.run.op = .stopping) (ho : s.run.orderly = false) (hc : s.comp = none) :
    ∃ x, Precedes s x ∧ completionWork o k s = runEnd x := by
  have hend : ∀ x, Precedes s x → finishRun k.standstill x = runEnd x := fun x hx => by
    rw [hk]
    exact finishRun_ends (by rw [hx.run]; exact hop) (by rw [hx.run]; exact ho)
  have after : ∀ x, Precedes s x →
      completionTests k (runEnd x) = runEnd x ∧ traceCapture k (runEnd x) = runEnd x := fun x hx => by
    have hout : (runEnd x).run.op.inRun = false := by
      rw [(runEnd_ended (hx.comp.trans hc)).frame]
      rfl
    exact ⟨completionTests_none _ (.inr (.inr hout)), traceCapture_outside k hout⟩
  have hsame : Precedes s s := .inr (Captured.refl s)
  have hcapture : Precedes s (traceCapture k s) := .inr (traceCapture_captured k s)
  unfold completionWork
  cases o with
  | eventsCaptureEnd => exact ⟨_, precedes_testsCapture k s, hend _ (precedes_testsCapture k s)⟩
  | captureEventsEnd => exact ⟨_, precedes_captureTests k s, hend _ (precedes_captureTests k s)⟩
  | eventsEndCapture =>
    refine ⟨_, precedes_tests k s, ?_⟩
    simp only [hend _ (precedes_tests k s), after _ (precedes_tests k s)]
  | captureEndEvents =>
    refine ⟨_, hcapture, ?_⟩
    simp only [hend _ hcapture, after _ hcapture]
  | endEventsCapture =>
    refine ⟨s, hsame, ?_⟩
    simp only [hend _ hsame, after _ hsame]
  | endCaptureEvents =>
    refine ⟨s, hsame, ?_⟩
    simp only [hend _ hsame, after _ hsame]

/-! ### What precedes the run end leaves -/

section
variable {s x : State} (h : Precedes s x)
include h

/-- The entries, each as it was or as its test has left it. -/
theorem Precedes.entries (i : Fin 16) : x.events.entries[i] = s.events.entries[i] ∨
    x.events.entries[i] = s.events.entries[i].map (EventEntry.tested s.due s.adv) := by
  rcases h with h | h
  · exact .inr (h.entries i)
  · exact .inl (by rw [h.frame])

theorem Precedes.port : ∃ l : List Told, l.length ≤ 17 ∧ x.port = s.port.tellAll s.params.reportLevel l := by
  rcases h with h | h
  · obtain ⟨a, b, hab, _, hport⟩ := h.port
    have h1 := eventReports_length (v := s) (l := s.firing) s.adv
    have h2 := firing_length s
    refine ⟨_, ?_, hport⟩
    simp only [List.length_append]
    omega
  · obtain ⟨l, hl, _, hport⟩ := h.port
    exact ⟨l, by omega, hport⟩

theorem Precedes.frame : x = { s with events := x.events, stats := x.stats, trace := x.trace, port := x.port } := by
  rcases h with h | h
  · exact h.worked.frame
  · exact h.worked.frame
end

/-! ### From the completion to the run end -/

/-- What the player's work, the tests and the capture leave alone where they do not touch the run controller. -/
structure Untouched (s x : State) : Prop where
  run : x.run = s.run
  pins : x.pins = s.pins
  link : x.link = s.link
  axle : x.axle = { s.axle with grade := x.axle.grade }
  stations : x.stations = s.stations
  monitor : x.monitor = s.monitor
  store : x.store = s.store
  params : x.params = s.params
  mem : x.mem = s.mem

theorem Precedes.untouched {l : List Told} {s v x : State} (h : Precedes v x) (hp : Played l s v) (hrun : v.run = s.run) :
    Untouched s x := by
  refine ⟨h.run.trans hrun, ?_, ?_, ?_, ?_, ?_, ?_, ?_, ?_⟩ <;> rw [h.frame, hp.frame] <;> rfl

/-- The state from which a completion ends the run: the player's work done, then what precedes the run end. -/
theorem completed_ends {s : State} {k : Computation} (hb : k.began = .stopping) (hk : k.standstill = true)
    (hop : s.run.op = .stopping) (ho : s.run.orderly = false) :
    ∃ v x l, Played l (s.completing k) v ∧ l.length ≤ 3 ∧ v.run = s.run ∧ Precedes v x ∧ RunEnded x (completed k s) := by
  have hnot : (s.completing k).run.op ≠ .run := fun h => by
    have h' : s.run.op = .run := h
    rw [hop] at h'
    cases h'
  obtain ⟨l, hp, _, hl⟩ := playAndCheck_labours (s := s.completing k) rfl
  have hrun : (playAndCheck (s.completing k)).run = s.run := hp.run.resolve_right fun h => hnot h.1
  have hcomp := hp.comp rfl
  unfold completed
  rw [if_pos (by rw [hb]; rfl)]
  generalize playAndCheck (s.completing k) = v at *
  obtain ⟨x, hx, hw⟩ := completionWork_ends (Config.completionOrder s.free) hk (by rw [hrun]; exact hop)
    (by rw [hrun]; exact ho) hcomp
  rw [hw]
  exact ⟨v, x, l, hp, hl hnot, hrun, hx, runEnd_ended (hx.comp.trans hcomp)⟩

/-! ### The event table (R158) -/

/-- The entry outlives the run. -/
def EventEntry.outlives (tag : Nat) (e : EventEntry) : Bool := e.persistent || e.runTag != tag

theorem outlives_iff (tag : Nat) (e : EventEntry) : e.outlives tag = true ↔ e.persistent = true ∨ e.runTag ≠ tag := by
  unfold EventEntry.outlives
  rw [Bool.or_eq_true, bne_iff_ne]

theorem tested_outlives (due : EventEntry → Bool) (mm : Int) (tag : Nat) (e : EventEntry) :
    (e.tested due (EventEntry.advanced mm)).outlives tag = e.outlives tag := by
  obtain ⟨_, htag, hpersistent⟩ := advanced_keeps mm e
  unfold EventEntry.tested EventEntry.outlives EventEntry.fired
  split
  · dsimp only
    rw [htag, hpersistent]
  · rfl

theorem RunEnded.entries {s t : State} (h : RunEnded s t) (i : Fin 16) :
    t.events.entries[i] = s.events.entries[i].filter (EventEntry.outlives s.run.tag) := by
  have hevents : t.events.entries = keepEvents (EventEntry.outlives s.run.tag) s.events.entries := by
    rw [h.frame]
    rfl
  rw [hevents, keepEvents_get]

/-- What becomes of an entry at a run end, the tests made before it or not. -/
theorem ended_entry {s x t : State} (h : Precedes s x) (ht : RunEnded x t) (i : Fin 16) :
    (∀ e, t.events.entries[i] = some e → e.persistent = true ∨ e.runTag ≠ s.run.tag) ∧
    (s.events.entries[i] = none → t.events.entries[i] = none) ∧
    ∀ e, s.events.entries[i] = some e → e.persistent = true ∨ e.runTag ≠ s.run.tag →
      t.events.entries[i] = some e ∨ entryTested s.distanceMm s.player.clock.toNat e t.events.entries[i] := by
  have hkept := ht.entries i
  rw [h.run] at hkept
  refine ⟨fun e he => ?_, fun hnone => ?_, fun e he hout => ?_⟩
  · rw [hkept, Option.filter_eq_some_iff] at he
    exact (outlives_iff _ e).mp he.2
  · rw [hkept]
    rcases h.entries i with hx | hx <;> rw [hx, hnone] <;> rfl
  · have hlives := (outlives_iff s.run.tag e).mpr hout
    rcases h.entries i with hx | hx
    · refine .inl ?_
      rw [hkept, hx, he, Option.filter_some, if_pos hlives]
    · refine .inr ?_
      have hafter : (e.tested s.due s.adv).outlives s.run.tag = true :=
        (tested_outlives s.due s.distanceMm s.run.tag e).trans hlives
      rw [hkept, hx, he, Option.map_some, Option.filter_some, if_pos hafter]
      exact entryTested_of_tested s.distanceMm s.player.clock e

/-! ### The reports -/

/-- Reports for which there is room stand in the queue after those of before. -/
theorem told_tellAll {s t : State} {l : List Told} (h : t.port = s.port.tellAll s.params.reportLevel l)
    (hroom : s.port.reports.length + l.length ≤ 32) : told t.port.reports = told s.port.reports ++ heard s l := by
  have hlength := List.length_filter_le (fun x : Told => decide (x.2.2.level ≤ s.params.reportLevel)) l
  rw [h, tellAll_room _ _ _ (by omega)]
  unfold heard told
  rw [List.map_append]
  exact congrArg (_ ++ ·) (told_queued _ _)

theorem heard_append (s : State) (l m : List Told) : heard s (l ++ m) = heard s l ++ heard s m := List.filter_append ..

theorem endReports_length (s : State) : (endReports s).length ≤ 9 := by
  unfold endReports
  rw [List.length_append, stationReports_eq]
  exact Nat.add_le_add_right (List.length_filterMap_le _ _) 1

/-- The reports of a run end are those of the stations as the completion has met them. -/
theorem Untouched.endReports {s x : State} (h : Untouched s x) (hop : s.run.op = .stopping) : endReports x =
    stationReports s .stopping s.axle.v s.monitor .runEnd (fun _ r => engagedIn r) idled s.run.count ++
      [stateReport s.run .stopping .ready .standstill] := by
  have hspeed : x.axle.v = s.axle.v := by rw [h.axle]
  unfold Machine.endReports
  rw [stationReports_of_stations h.stations (cell_of_store h.store), h.run, hop, hspeed, h.monitor]

/-- The port after a run end: what precedes it has made 20 reports at most. -/
theorem ended_port {s v x w : State} {l : List Told} (hl : l.length ≤ 3) (hp : Played l s v) (hx : Precedes v x)
    (hw : RunEnded x w) : ∃ a, a.length ≤ 20 ∧ w.port = s.port.tellAll s.params.reportLevel (a ++ endReports x) := by
  obtain ⟨m, hm, hport⟩ := hx.port
  have hxparams : x.params = s.params := by rw [hx.frame, ← hp.params]
  refine ⟨l ++ m, by rw [List.length_append]; omega, ?_⟩
  rw [hw.port, hxparams, hport, hp.params, hp.port, ← tellAll_append, ← tellAll_append, List.append_assoc]

/-! ### The obligation -/

theorem pumpTx_mem (s : State) : (pumpTx s).mem = s.mem := by
  obtain ⟨x, q, h⟩ := pumpTx_port s
  rw [h]

/-- Settles O24: outside a run the computation alone goes; at standstill the run end acts on what the player's work and the
tests have left. -/
theorem completionEndsTheRun : Obligations.CompletionEndsTheRun := by
  intro s k hrunning hk
  refine ⟨fun hb1 hb2 h1 h2 => ?_, fun hb hstand hop ho => ?_⟩
  · rw [completion_eq hrunning hk, completed_outside (inRun_false h1 h2), State.completing, inRun_false hb1 hb2]
    rfl
  · obtain ⟨v, x, l, hp, hl, hvrun, hx, hw⟩ := completed_ends hb hstand hop ho
    have huntouched := hx.untouched hp hvrun
    obtain ⟨hrun, hpins, hlink, haxle, hstations, hmonitor, hstore, hparams, hmem⟩ := id huntouched
    have hentry := ended_entry hx hw
    have hexec := completion_eq hrunning hk
    generalize completed k s = w at *
    obtain ⟨hwhole, hentries, _⟩ := hp.stands
    have hclock : w.player.clock = v.player.clock := by rw [hw.frame]; show x.player.clock = _; rw [hx.frame]
    have hplayer : (pumpTx w).player = x.player.emptied := by rw [pumpTx_player, hw.frame]; rfl
    have hmm : v.distanceMm = s.axle.whole.tdiv 1000000 := congrArg (Int.tdiv · 1000000) hwhole
    have hwaxle : (pumpTx w).axle = { s.axle with grade := x.axle.grade } := by rw [pumpTx_axle, hw.frame]; exact haxle
    rw [hmm, ← hclock] at hentry
    refine ⟨pumpTx w, hexec, ?_, ?_, ?_, by rw [hplayer]; rfl, by rw [hplayer]; rfl, by rw [hplayer]; rfl, by rw [hplayer]; rfl,
      by rw [hplayer]; rfl, by rw [hwaxle], by rw [hwaxle], by rw [hwaxle], by rw [pumpTx_comp, hw.comp], ?_, ?_, ?_, ?_, ?_, ?_,
      ?_, ?_, fun htx hroom => ?_⟩
    · rw [pumpTx_run, hw.frame]
      show ({ x.run with countEnable := false, stopCause := none, op := .ready } : Run) = _
      rw [hrun]
      rfl
    · rw [pumpTx_pins, hw.frame]
      show ({ x.pins with driveEnable := true } : Pins) = _
      rw [hpins]
      rfl
    · exact stationsBecome_of_stations hstations (pumpTx_stations w) hw.stations
    · rw [pumpTx_events, ← hvrun]
      exact fun i => (hentry i).1
    · rw [pumpTx_events]
      exact fun i hnone => (hentry i).2.1 (by rw [hentries]; exact hnone)
    · rw [pumpTx_events, pumpTx_player, ← hvrun]
      exact fun i e he => (hentry i).2.2 e (by rw [hentries]; exact he)
    · rw [pumpTx_params, hw.frame]
      exact hparams
    · rw [pumpTx_store, hw.frame]
      exact hstore
    · rw [pumpTx_mem, hw.frame]
      exact hmem
    · rw [pumpTx_link, hw.frame]
      exact hlink
    · rw [pumpTx_monitor, hw.frame]
      exact hmonitor
    · obtain ⟨a, ha, hport⟩ := ended_port hl hp hx hw
      have hlength := endReports_length x
      have htold := told_tellAll (s := s) hport (by rw [List.length_append]; omega)
      rw [heard_append, huntouched.endReports hop] at htold
      rw [pumpTx_busy w (by rw [hport, tellAll_frame]; exact htx)]
      exact ⟨heard s a, [], by rw [List.append_nil, List.append_assoc]; exact htold⟩

end Sys2Proof.Machine
end
